-- ==== Sys2Proof/Word.lean ====
section
/-! DEFINITION. The plain types the BX-460's manual counts in (bytes, and the numbers of links, streams, slots, lanes,
triggers and rules), the named sets its records use, and tables of a fixed number of like things. -/

namespace Sys2Proof

/-- One byte, as the management line and the faces carry it. -/
abbrev Byte := BitVec 8

/-- A frame as bytes, its 4-byte frame check sequence included (the manual's numbers conventions). -/
abbrev Frame := List Byte

/-- Links are numbered 0 to 3. -/
abbrev LinkNo := Fin 4

/-- Streams of one direction are numbered 0 to 63. -/
abbrev StreamNo := Fin 64

/-- Key slots are 0 and 1. -/
abbrev SlotNo := Fin 2

/-- Cipher lanes are numbered 0 to 7. -/
abbrev LaneNo := Fin 8

/-- Trigger slots are numbered 0 to 7. -/
abbrev TriggerNo := Fin 8

/-- Rule list entries are numbered 0 to 127. -/
abbrev RuleNo := Fin 128

/-- The second slot of the same stream (the manual's 'the other slot'). -/
def otherSlot (k : SlotNo) : SlotNo := if k = 0 then 1 else 0

/-- The two directions: OUT from rack to campus, IN from campus to rack. -/
inductive Dir where
  | out
  | inn
deriving DecidableEq, Repr, Inhabited

/-- The two faces of a link. -/
inductive Side where
  | rack
  | campus
deriving DecidableEq, Repr, Inhabited

/-- The last alarm cause the retained record can hold (R175). -/
inductive AlarmCause where
  | none
  | tamper
  | request
deriving DecidableEq, Repr, Inhabited

/-- What the check of the key store finds when a grant reads a key (R27, R28). -/
inductive KeyRead where
  /-- no error -/
  | good
  /-- a single-bit error, corrected and written back -/
  | corrected
  /-- an uncorrectable error -/
  | uncorrectable
deriving DecidableEq, Repr, Inhabited

/-- The event that makes an ARMED trigger's condition come true (R160). -/
inductive FireEvent where
  /-- a rising edge on PULSE_IN -/
  | pulseEdge
  /-- a second event with these new seconds -/
  | secondEvent (seconds : Nat)
  /-- a TIME_SET that wrote these seconds -/
  | timeSet (seconds : Nat)
  /-- a grant that assigned this frame number under this out-stream -/
  | assigned (stream : StreamNo) (fn : Nat)
deriving DecidableEq, Repr, Inhabited

/-- Entry `i` of a table replaced by `a`. -/
def putAt {α : Type} {n : Nat} (v : Vector α n) (i : Fin n) (a : α) : Vector α n := v.set i.1 a i.2

/-- Every entry of a table rewritten by `f`. -/
def mapTable {α β : Type} {n : Nat} (f : α → β) (v : Vector α n) : Vector β n :=
  ⟨⟨v.toArray.toList.map f⟩, by simp⟩

end Sys2Proof
end

