-- ==== Sys2Proof/Syntax.lean ====
section
/-! DEFINITION. The commands of the BX-460: one constructor for each row of spec/opcode_table.json.

A host request carries `params`, the BODY bytes of its record that follow the request code (Table 10-1), so that a
record of every length can be commanded and LEN is `params.length + 1`. An event carries the object it reaches and
what the outside world decides about it (the bytes of a frame, which lanes passed the self-test, what the key store
check found). -/

namespace Sys2Proof

/-- The commands, in the table's order. -/
inductive Instr where
  /-- R186: device mode and pending notice kinds -/
  | poll (params : List Byte)
  /-- R186: identity and capacities -/
  | identify (params : List Byte)
  /-- R187: device status; empties the key store error record -/
  | readStatus (params : List Byte)
  /-- R193: one notice kind, read and cleared -/
  | readNotices (params : List Byte)
  /-- R192: enables, attention masks and link-change mask -/
  | noticeSetup (params : List Byte)
  /-- R188: the counters of one scope, zeroed on request -/
  | readCounters (params : List Byte)
  /-- R74: envelope type and rotation -/
  | deviceSetup (params : List Byte)
  /-- R129: the seven settings of a link -/
  | linkSetup (params : List Byte)
  /-- R145: a link's ramp profile -/
  | rampSet (params : List Byte)
  /-- R132 -/
  | linkStart (params : List Byte)
  /-- R133 -/
  | linkStop (params : List Byte)
  /-- R147 -/
  | readLink (params : List Byte)
  /-- R140 -/
  | readLinkChanges (params : List Byte)
  /-- R68 -/
  | rulePut (params : List Byte)
  /-- R70 -/
  | ruleDrop (params : List Byte)
  /-- R71 -/
  | readRule (params : List Byte)
  /-- R4 -/
  | streamOpen (params : List Byte)
  /-- R6 -/
  | streamClose (params : List Byte)
  /-- R8 -/
  | readStream (params : List Byte)
  /-- R16, R17 -/
  | keyLoad (params : List Byte)
  /-- R24 -/
  | keyRetire (params : List Byte)
  /-- R48 -/
  | keySwitch (params : List Byte)
  /-- R29 -/
  | kwkLoad (params : List Byte)
  /-- R30 -/
  | kwkErase (params : List Byte)
  /-- R154 -/
  | timeSet (params : List Byte)
  /-- R155 -/
  | timeTrim (params : List Byte)
  /-- R156 -/
  | timeRead (params : List Byte)
  /-- R158 -/
  | triggerArm (params : List Byte)
  /-- R162 -/
  | triggerCancel (params : List Byte)
  /-- R162 -/
  | triggerRelease (params : List Byte)
  /-- R163 -/
  | readTrigger (params : List Byte)
  /-- R174 -/
  | restart (params : List Byte)
  /-- R172 -/
  | zeroize (params : List Byte)
  /-- R173 -/
  | alarmClear (params : List Byte)
  /-- R176 -/
  | readRetained (params : List Byte)
  /-- R183: a request record whose code is not in Table 10-4 -/
  | unknownRequest (code : Byte) (params : List Byte)
  /-- R180: a complete record whose check fails -/
  | recordCheckFailed (head : Byte) (body : List Byte) (check : Byte)
  /-- R180: a complete record that is no request to this part -/
  | recordIgnored (head : Byte) (body : List Byte) (check : Byte)
  /-- R179: a LEN byte of 0 or above 120 -/
  | recordLenInvalid (len : Byte)
  /-- R179: a byte with a bad stop bit -/
  | framingError
  /-- R179: a gap of 1,000 µs inside a record -/
  | recordGapTimeout
  /-- R181: a byte between a taken request and the end of its reply -/
  | overlapByte (byte : Byte)
  /-- R181: the last byte of a reply has been sent -/
  | replyEnd
  /-- R166: the supply rises; the part is held in reset -/
  | powerOn
  /-- R166: RESET_N is asserted; the part is held in reset -/
  | pinReset
  /-- R166: a reset is released; the straps are read as given -/
  | resetRelease (address : BitVec 3) (rateHigh : Bool)
  /-- R168: the self-test ends; bit n of `passed` is set when lane n passed -/
  | selfTestComplete (passed : BitVec 8)
  /-- R170 -/
  | tamperAssert
  /-- R170 -/
  | tamperDeassert
  /-- R151 -/
  | referenceTick
  /-- R142: the microsecond event that ends the present ramp stage of a link's pacer -/
  | rampStageEnd (link : LinkNo)
  /-- R88: the 100th microsecond event after a pause was sent -/
  | pauseRefresh (link : LinkNo)
  /-- R122: the millisecond event that takes a GRACE slot's grace remaining to 0 -/
  | graceExpiry (stream : StreamNo) (slot : SlotNo)
  /-- R41: the second event that takes the ACTIVE slot's SECONDS lifetime to its limit -/
  | lifetimeExpiry (stream : StreamNo)
  /-- R153: a rising edge on PULSE_IN -/
  | pulseEdge
  /-- R160, R161: the event that makes an ARMED trigger's condition come true -/
  | triggerFire (slot : TriggerNo) (event : FireEvent)
  /-- R137 -/
  | faceUp (link : LinkNo) (side : Side)
  /-- R137 -/
  | faceDown (link : LinkNo) (side : Side)
  /-- R131: a frame completes its reception at a face -/
  | frameReceived (link : LinkNo) (side : Side) (frame : Frame)
  /-- R88: an owed pause frame is sent -/
  | pauseSend (link : LinkNo)
  /-- R137: the transmission of a frame ends -/
  | transmissionEnd (link : LinkNo) (side : Side)
  /-- R94: a grant to an outbound queue; `read` is what the key store check finds if a key is read -/
  | outboundGrant (read : KeyRead)
  /-- R95, R108: a grant to an inbound queue -/
  | inboundGrant (read : KeyRead)
  /-- R19: a grant to the key preparation unit -/
  | keyPreparationGrant
  /-- R97: a lane finishes a PROTECT or VERIFY item -/
  | laneCompletion (lane : LaneNo)
  /-- R20: the lane of the WORKING load job finishes -/
  | keyJobCompletion
  /-- R99 -/
  | outboundRelease (link : LinkNo)
  /-- R101 -/
  | inboundRelease (link : LinkNo)
  /-- R134 -/
  | drainComplete (link : LinkNo)
  /-- R179: a byte with a good stop bit arrives on the management line -/
  | byteReceived (byte : Byte)
deriving DecidableEq, Repr

end Sys2Proof
end

