-- ==== Sys2Proof/Decode.lean ====
section
/-! DEFINITION. The command a word of the opcode table spells.

No row of spec/opcode_table.json gives bits: the commands of this block are requests, whose bytes are the management
line's (Table 10-1, read by `byteReceived`), and events at faces, pins and lanes. So no word spells a command. -/

namespace Sys2Proof

/-- The command a word spells by the table's bits: none, because the table gives no row any bits. -/
def decodeTableWord (_nbits _w : Nat) : Option Instr := none

end Sys2Proof
end

