-- ==== Sys2Proof/Config.lean ====
section
/-! DEFINITION. What is fixed for the part (its identity and capacities) and what the manual treats as a function or
leaves undefined: opaque constants, which no proof can see into. -/

namespace Sys2Proof.Config

/-- The Ethernet frame check sequence of the bytes it covers, treated by the manual as a function
(00_scope.md, 'Scope of this manual'; R78). -/
opaque fcs : List Byte → BitVec 32

/-- The ciphertext AES-256 in Galois/Counter Mode gives for a key, a nonce, associated data and the bytes to be
encrypted; it is as long as those bytes (00_scope.md; R76). -/
opaque gcmCiphertext (key : BitVec 256) (nonce : BitVec 96) (aad plain : List Byte) : Vector Byte plain.length

/-- The 16-byte integrity tag of the same transform (R76). -/
opaque gcmTag (key : BitVec 256) (nonce : BitVec 96) (aad plain : List Byte) : BitVec 128

/-- Verification: `none` is a fail; a pass gives the plaintext, as many bytes as the ciphertext (R20, R82). -/
opaque gcmOpen (key : BitVec 256) (nonce : BitVec 96) (aad cipher : List Byte) (tag : BitVec 128) :
    Option (Vector Byte cipher.length)

/-- The AES-256 block cipher alone, used for the check value (R20). -/
opaque aesBlock : BitVec 256 → BitVec 128 → BitVec 128

/-- Free values for the fields of the retained record, which are undefined after a power-on (R175; log entry 5). -/
opaque freeAlarmCause : Nat → AlarmCause
/-- Free value: see `freeAlarmCause`. -/
opaque freeWord : Nat → BitVec 32
/-- Free value: see `freeAlarmCause`. -/
opaque freeByte : Nat → Byte
/-- Free value: see `freeAlarmCause`. -/
opaque freeFlag : Nat → Bool

/-- IDENTIFY's vendor code (R186). -/
def vendorCode : Nat := 0x0F31
/-- IDENTIFY's part code (R186). -/
def partCode : Nat := 0x0460
/-- IDENTIFY's revision (R186). -/
def revision : Nat := 0x01

/-- Capacity of an ingress queue in bytes (R84). -/
def queueCapacity : Nat := 524288
/-- The most items a reorder list holds (R98). -/
def listCapacity : Nat := 64
/-- The depth of the load queue (R15). -/
def loadQueueDepth : Nat := 4
/-- The largest valid frame number, 2^48 − 1 (the manual's frame number conventions). -/
def maxFn : Nat := 2 ^ 48 - 1

end Sys2Proof.Config
end

