-- ==== Sys2Proof/Machine/Operands.lean ====
section
/-! DEFINITION. Reading operands: big-endian numbers in records and frames, the fields of a request's body, the fields
of a frame by the manual's byte positions, saturating counters, and the record layout of Table 10-1. -/

namespace Sys2Proof.Machine

/-! ### Numbers as bytes (conventions: most significant byte first) -/

/-- The number a run of bytes spells, most significant byte first. -/
def natOfBytes (bs : List Byte) : Nat := bs.foldl (fun acc b => acc * 256 + b.toNat) 0

/-- The low `n` bytes of a number, most significant byte first. -/
def bytesOfNat : Nat → Nat → List Byte
  | 0, _ => []
  | n + 1, v => BitVec.ofNat 8 (v / 256 ^ n) :: bytesOfNat n v

/-- A bit vector of `n` bytes, most significant byte first. -/
def bytesOfBits {w : Nat} (n : Nat) (v : BitVec w) : List Byte := bytesOfNat n v.toNat

/-- One byte holding 1 or 0. -/
def flagByte (b : Bool) : List Byte := [if b then 1 else 0]

/-- A signed number in `n` bytes, two's complement (log entry 8). -/
def bytesOfInt (n : Nat) (v : Int) : List Byte := bytesOfNat n (v.emod (256 ^ n)).toNat

/-- A byte read as a signed number, −128 to 127 (R155). -/
def signedByte (b : Nat) : Int := if b < 128 then (b : Int) else (b : Int) - 256

/-! ### Fields of a request's parameters; byte 0 is the first byte after the request code -/

/-- Byte `i` of the parameters as a number. -/
def byteAt (ps : List Byte) (i : Nat) : Nat := (ps.getD i 0).toNat

/-- The number in the `n` bytes that begin at byte `i`. -/
def numAt (ps : List Byte) (i n : Nat) : Nat := natOfBytes ((ps.drop i).take n)

/-- The link a byte names; a byte of 4 or more is refused before it is used. -/
def linkAt (ps : List Byte) (i : Nat) : LinkNo := Fin.ofNat 4 (byteAt ps i)

/-- The stream a byte names; a byte of 64 or more is refused before it is used. -/
def streamAt (ps : List Byte) (i : Nat) : StreamNo := Fin.ofNat 64 (byteAt ps i)

/-- The key slot a byte names; a byte above 1 is refused before it is used. -/
def slotAt (ps : List Byte) (i : Nat) : SlotNo := Fin.ofNat 2 (byteAt ps i)

/-- The trigger slot a byte names; a byte of 8 or more is refused before it is used. -/
def triggerAt (ps : List Byte) (i : Nat) : TriggerNo := Fin.ofNat 8 (byteAt ps i)

/-- The rule a byte names; a byte of 128 or more is refused before it is used. -/
def ruleAt (ps : List Byte) (i : Nat) : RuleNo := Fin.ofNat 128 (byteAt ps i)

/-! ### Counters: 48 bits, or 16 on the line, and saturating (conventions; R182) -/

/-- A 48-bit counter advanced by `n`. -/
def count48 (c n : Nat) : Nat := min (c + n) (2 ^ 48 - 1)

/-- A 16-bit line error counter advanced by `n`. -/
def count16 (c n : Nat) : Nat := min (c + n) 65535

/-! ### Fields of a frame; the manual counts bytes from 1, these from 0 (R57, R79) -/

/-- The length of a frame, FCS included. -/
def frameLength (f : Frame) : Nat := f.length

/-- The first type field, bytes 13 and 14. -/
def frameType (f : Frame) : Nat := numAt f 12 2

/-- The type field after a tag, bytes 17 and 18. -/
def innerType (f : Frame) : Nat := numAt f 16 2

/-- A frame is tagged when its first type field reads 0x8100 (R57). -/
def frameTagged (f : Frame) : Bool := frameType f == 0x8100

/-- The tag identifier, bytes 15 and 16 modulo 4,096 (R57). -/
def tagId (f : Frame) : Nat := numAt f 14 2 % 4096

/-- A frame without its FCS. -/
def frameBody (f : Frame) : List Byte := f.take (f.length - 4)

/-- The FCS a frame carries, its last 4 bytes. -/
def frameFcs (f : Frame) : List Byte := f.drop (f.length - 4)

/-- Bytes closed with the FCS computed over them (R78). -/
def withFcs (body : List Byte) : Frame := body ++ bytesOfBits 4 (Config.fcs body)

/-- The receive check: 64 to 9,728 bytes and a correct FCS (R131). -/
def receivedGood (f : Frame) : Bool :=
  decide (64 ≤ f.length) && decide (f.length ≤ 9728) && decide (frameFcs f = bytesOfBits 4 (Config.fcs (frameBody f)))

/-- The pause frame for a pause time (R88): 60 bytes and the FCS. -/
def pauseFrame (time : Nat) : Frame :=
  withFcs ([0x01, 0x80, 0xC2, 0x00, 0x00, 0x01] ++ List.replicate 6 0 ++ [0x88, 0x08, 0x00, 0x01] ++
    bytesOfNat 2 time ++ List.replicate 42 0)

/-! ### Records (Table 10-1) -/

/-- The LEAD byte. -/
def leadByte : Byte := 0xC6

/-- HEAD of a request to an address: kind 001, bits 4–3 zero. -/
def requestHead (address : BitVec 3) : Byte := 0x20 ||| address.setWidth 8

/-- The sum that CHECK makes a multiple of 256. -/
def recordSum (head : Byte) (body : List Byte) : Byte :=
  body.foldl (· + ·) (head + BitVec.ofNat 8 body.length)

/-- CHECK for a record. -/
def recordCheck (head : Byte) (body : List Byte) : Byte := - recordSum head body

/-- A record's check passes (R180, step 1). -/
def checkPasses (head : Byte) (body : List Byte) (check : Byte) : Bool := recordSum head body + check == 0

/-- A record as its bytes, LEAD first. -/
def recordBytes (head : Byte) (body : List Byte) : List Byte :=
  [leadByte, head, BitVec.ofNat 8 body.length] ++ body ++ [recordCheck head body]

/-- How many bytes a record with a body of `n` bytes has (Table 10-1). -/
def recordLength (n : Nat) : Nat := n + 4

/-- The request codes of Table 10-4. -/
def requestCodes : List Byte :=
  [0x01, 0x02, 0x03, 0x04, 0x05, 0x06, 0x10, 0x20, 0x21, 0x22, 0x23, 0x24, 0x25, 0x30, 0x31, 0x32, 0x40, 0x41,
   0x42, 0x43, 0x44, 0x45, 0x46, 0x47, 0x50, 0x51, 0x52, 0x53, 0x54, 0x55, 0x56, 0x60, 0x61, 0x62, 0x63]

end Sys2Proof.Machine
end

