-- ==== Sys2Proof/Machine/State.lean ====
section
/-! DEFINITION. The state of the BX-460 as plain data: every record, queue, list, counter, mode and pin the manual
gives the part, the queue of commands that wait, and the machine right after reset. -/

namespace Sys2Proof.Machine

/-! ### Streams and key slots (chapter 1) -/

/-- How the last load of a slot ended, or that an uncorrectable error took its key (R9). -/
inductive LoadResult where
  | none
  | ok
  | unwrapFailed
  | checkFailed
  | cancelled
  | storeError
deriving DecidableEq, Repr

/-- Lifetime kind of an outbound slot (R40). -/
inductive LifetimeKind where
  | none
  | seconds
  | mebibytes
deriving DecidableEq, Repr

/-- The hidden fields of a key slot (R9, R10). -/
structure Secret where
  key : BitVec 256
  salt : BitVec 32
deriving DecidableEq, Repr

/-- States of an outbound slot (Table 1-5). -/
inductive OutSlotState where
  | empty
  | loading
  | ready
  | active
  | draining
deriving DecidableEq, Repr

/-- Outbound slot record (Table 1-5). `secret` is `none` while key and salt are erased. -/
structure OutSlot where
  state : OutSlotState
  secret : Option Secret
  initialFn : Nat
  nextFn : Nat
  soft : Nat
  hard : Nat
  lifetimeKind : LifetimeKind
  limit : Nat
  warning : Nat
  accrued : Nat
  rekeyRaised : Bool
  inFlight : Nat
  lastLoad : LoadResult
deriving DecidableEq, Repr

/-- An EMPTY outbound slot with the last load result given (Table 1-5, column 'Value in EMPTY'). -/
def OutSlot.empty (last : LoadResult) : OutSlot :=
  { state := .empty, secret := .none, initialFn := 0, nextFn := 0, soft := 0, hard := 0, lifetimeKind := .none,
    limit := 0, warning := 0, accrued := 0, rekeyRaised := false, inFlight := 0, lastLoad := last }

/-- States of an outbound stream (Table 1-1). ACTIVE carries the active slot field, which is none in every other
state (R1). -/
inductive OutState where
  | unused
  | opened
  | active (slot : SlotNo)
  | stalled
deriving DecidableEq, Repr

/-- Outbound stream record (Table 1-1). -/
structure OutStream where
  state : OutState
  link : LinkNo
  streamId : Nat
  autoSwitch : Bool
  pendingSwitch : Option SlotNo
  slots : Vector OutSlot 2
  protectedFrames : Nat
  protectedBytes : Nat
  noKeyDiscards : Nat
deriving DecidableEq, Repr

/-- The reset column of Table 1-1. -/
def OutStream.reset : OutStream :=
  { state := .unused, link := 0, streamId := 0, autoSwitch := false, pendingSwitch := .none,
    slots := Vector.replicate 2 (OutSlot.empty .none), protectedFrames := 0, protectedBytes := 0, noKeyDiscards := 0 }

/-- States of an inbound slot (Table 1-6). -/
inductive InSlotState where
  | empty
  | loading
  | ready
  | active
  | grace
  | draining
deriving DecidableEq, Repr

/-- Inbound slot record (Table 1-6). Bit i of `bitmap` stands for FN H−i (R112). -/
structure InSlot where
  state : InSlotState
  secret : Option Secret
  lower : Nat
  highest : Nat
  bitmap : BitVec 64
  grace : Nat
  inFlight : Nat
  lastLoad : LoadResult
deriving DecidableEq, Repr

/-- An EMPTY inbound slot with the last load result given (Table 1-6). -/
def InSlot.empty (last : LoadResult) : InSlot :=
  { state := .empty, secret := .none, lower := 0, highest := 0, bitmap := 0, grace := 0, inFlight := 0,
    lastLoad := last }

/-- Inbound stream record (Table 1-2). Its state UNUSED, OPEN or ACTIVE follows `isOpen` and the slots (R3). -/
structure InStream where
  isOpen : Bool
  link : LinkNo
  streamId : Nat
  window : Nat
  grace : Nat
  threshold : Nat
  failures : Nat
  slots : Vector InSlot 2
  delivered : Nat
  integrityFailures : Nat
  replayDiscards : Nat
  noKeyDiscards : Nat
deriving DecidableEq, Repr

/-- The reset column of Table 1-2. -/
def InStream.reset : InStream :=
  { isOpen := false, link := 0, streamId := 0, window := 0, grace := 0, threshold := 0, failures := 0,
    slots := Vector.replicate 2 (InSlot.empty .none), delivered := 0, integrityFailures := 0, replayDiscards := 0,
    noKeyDiscards := 0 }

/-! ### The key preparation unit -/

/-- What a load job installs beside key and salt; the constructor is the job's direction (Table 1-7). -/
inductive LoadRange where
  | out (initial soft hard : Nat) (kind : LifetimeKind) (limit warning : Nat)
  | inn (lower : Nat)
deriving DecidableEq, Repr

/-- The direction of a load job. -/
def LoadRange.dir : LoadRange → Dir
  | .out .. => .out
  | .inn .. => .inn

/-- A load job: the parameters of its KEY_LOAD and its cancelled mark (R15). -/
structure Job where
  stream : StreamNo
  slot : SlotNo
  nonce : BitVec 96
  wrapped : List Byte
  tag : BitVec 128
  check : BitVec 32
  range : LoadRange
  cancelled : Bool
deriving DecidableEq, Repr

/-- The key preparation unit (R15): its queue, head first, and the lane of the head while it is WORKING. The head is
WAITING while `working` is none, and every other job is QUEUED. -/
structure KeyUnit where
  jobs : List Job
  working : Option LaneNo
deriving DecidableEq, Repr

/-! ### The classifier (chapter 3) -/

/-- Tag match of a rule (Table 3-1). -/
inductive TagMatch where
  | any
  | untagged
  | tagRange
deriving DecidableEq, Repr

/-- Destination class of a rule or of a frame (R57). -/
inductive DestClass where
  | any
  | unicast
  | multicast
  | broadcast
deriving DecidableEq, Repr

/-- Action of a rule (Table 3-1). -/
inductive RuleAction where
  | protect
  | passClear
  | discard
deriving DecidableEq, Repr

/-- Rule entry (Table 3-1). -/
structure Rule where
  valid : Bool
  linkSet : BitVec 4
  tagMatch : TagMatch
  tagBase : Nat
  tagExp : Nat
  destClass : DestClass
  action : RuleAction
  stream : StreamNo
  keepTag : Bool
  matchCount : Nat
deriving DecidableEq, Repr

/-- The Empty column of Table 3-1. -/
def Rule.empty : Rule :=
  { valid := false, linkSet := 0, tagMatch := .any, tagBase := 0, tagExp := 0, destClass := .any,
    action := .discard, stream := 0, keepTag := false, matchCount := 0 }

/-! ### Links, faces and the dispatch block (chapters 5 and 7) -/

/-- States of a link (Table 7-1). -/
inductive LinkState where
  | off
  | live
  | draining
deriving DecidableEq, Repr

/-- Stop causes (Table 7-1). -/
inductive StopCause where
  | none
  | requestDrain
  | requestNow
  | triggerDrain
  | triggerNow
  | alarm
deriving DecidableEq, Repr

/-- DISCARD or PASS_CLEAR: the default outbound action (R56) and the inbound clear-frame policy (R109). -/
inductive ClearPolicy where
  | discard
  | passClear
deriving DecidableEq, Repr

/-- The seven settings LINK_SETUP writes (Table 7-1). -/
structure LinkSettings where
  defaultOut : ClearPolicy
  clearIn : ClearPolicy
  campusMax : Nat
  highMark : Nat
  lowMark : Nat
  rate : Nat
  burst : Nat
deriving DecidableEq, Repr

/-- The reset column of Table 7-1. -/
def LinkSettings.reset : LinkSettings :=
  { defaultOut := .discard, clearIn := .discard, campusMax := 1550, highMark := 384, lowMark := 256, rate := 100000,
    burst := 1000000 }

/-- One ramp stage: rate in Mb/s and duration in µs (R145). -/
structure Stage where
  rate : Nat
  duration : Nat
deriving DecidableEq, Repr

/-- Pacer phases (R141); RAMP carries the stage number 1 to 16 and the microseconds remaining in it. -/
inductive PacerPhase where
  | idle
  | held
  | ramp (stage left : Nat)
  | steady
deriving DecidableEq, Repr

/-- A campus pacer (R141): phase, signed credit C in bits, current rate R. -/
structure Pacer where
  phase : PacerPhase
  credit : Int
  rate : Nat
deriving DecidableEq, Repr

/-- IDLE with C and R 0 (R141). -/
def Pacer.idle : Pacer := { phase := .idle, credit := 0, rate := 0 }

/-- A face's transmitter: idle, or busy with a data frame or a pause frame (R137). -/
inductive Transmitter where
  | idle
  | data (frame : Frame)
  | pause (frame : Frame)
deriving DecidableEq, Repr

/-- How the last transmission on a face ended on the wire: complete, lost at a face down (R137), or cut off at ALARM
entry with a frame check sequence that does not match (R171). The MODEL's own field: the far end sees it. -/
inductive TxEnding where
  | none
  | complete
  | lost
  | cutBadFcs
deriving DecidableEq, Repr

/-- A face (R137). -/
structure Face where
  up : Bool
  tx : Transmitter
  lastEnding : TxEnding
deriving DecidableEq, Repr

/-- Down with an idle transmitter (R137). -/
def Face.reset : Face := { up := false, tx := .idle, lastEnding := .none }

/-- The fields of a work item that only a PROTECT or VERIFY item has (Table 5-1). -/
structure KeyRef where
  stream : StreamNo
  slot : SlotNo
  fn : Nat
  tagClear : Bool
deriving DecidableEq, Repr

/-- The kind of a work item with what that kind carries (R96).
PASS: the frame as received. PROTECT: the associated data, the bytes to be encrypted (the ciphertext once the lane has
completed) and then the tag. VERIFY: the parsed campus frame and, once complete, the integrity result, `some none` for
FAIL and `some (some plaintext)` for PASS. -/
inductive ItemBody where
  | pass (frame : Frame)
  | protect (ref : KeyRef) (aad payload : List Byte) (tag : Option (BitVec 128))
  | verify (ref : KeyRef) (aad cipher : List Byte) (tag : BitVec 128) (result : Option (Option (List Byte)))
deriving DecidableEq, Repr

/-- ON_LANE with the lane that holds the item, or DONE (R96). -/
inductive ItemState where
  | onLane (lane : LaneNo)
  | done
deriving DecidableEq, Repr

/-- Work item (Table 5-1). `length` is the campus length as the frame will leave (OUT) or as it arrived (IN). -/
structure Item where
  dir : Dir
  link : LinkNo
  body : ItemBody
  length : Nat
  state : ItemState
deriving DecidableEq, Repr

/-- Outbound link counters (Table 5-2). -/
structure OutCounters where
  accepted : Nat
  queueFull : Nat
  classifier : Nat
  oversize : Nat
  protectedSent : Nat
  clearSent : Nat
  campusBytes : Nat
  faceDown : Nat
  stop : Nat
  pauseAssertions : Nat
deriving DecidableEq, Repr

/-- All zero. -/
def OutCounters.zero : OutCounters := ⟨0, 0, 0, 0, 0, 0, 0, 0, 0, 0⟩

/-- Inbound link counters (R81, R106, Table 6-1), in READ_COUNTERS' order (R188). -/
structure InCounters where
  accepted : Nat
  queueFull : Nat
  badHeader : Nat
  unknownStream : Nat
  clearDiscards : Nat
  clearPassed : Nat
  delivered : Nat
  rackBytes : Nat
  faceDown : Nat
  stop : Nat
deriving DecidableEq, Repr

/-- All zero. -/
def InCounters.zero : InCounters := ⟨0, 0, 0, 0, 0, 0, 0, 0, 0, 0⟩

/-- Face counters of a link (Table 7-2). -/
structure FaceCounters where
  rackErrors : Nat
  campusErrors : Nat
  rackOff : Nat
  campusOff : Nat
  rackStopping : Nat
  campusStopping : Nat
deriving DecidableEq, Repr

/-- All zero. -/
def FaceCounters.zero : FaceCounters := ⟨0, 0, 0, 0, 0, 0⟩

/-- Everything one link holds: its record (Table 7-1), its two ingress queues and reorder lists, head first (R84, R98),
the pause state of its outbound queue, an owed pause and the refresh count, none while stopped (R87, R88), its faces,
its pacer and its counters. -/
structure Link where
  state : LinkState
  setUp : Bool
  stopCause : StopCause
  settings : LinkSettings
  ramp : List Stage
  outQueue : List Frame
  inQueue : List Frame
  outList : List Item
  inList : List Item
  pauseAsserted : Bool
  pauseOwed : Bool
  refresh : Option Nat
  rack : Face
  campus : Face
  pacer : Pacer
  outCount : OutCounters
  inCount : InCounters
  faceCount : FaceCounters
deriving DecidableEq, Repr

/-- A link after every kind of reset (R107, R148). -/
def Link.reset : Link :=
  { state := .off, setUp := false, stopCause := .none, settings := LinkSettings.reset, ramp := [], outQueue := [],
    inQueue := [], outList := [], inList := [], pauseAsserted := false, pauseOwed := false, refresh := .none,
    rack := Face.reset, campus := Face.reset, pacer := Pacer.idle, outCount := OutCounters.zero,
    inCount := InCounters.zero, faceCount := FaceCounters.zero }

/-- One entry of the link-change buffer (R139), faces in the encoding of R140. -/
structure LinkChange where
  changed : BitVec 8
  status : BitVec 8
  seconds : Nat
  micros : Nat
  overwritten : Bool
deriving DecidableEq, Repr

/-- A cipher lane: FREE, or BUSY with an item of a link or with the WORKING load job, and the working copies it holds
(R89, R97). -/
inductive Lane where
  | free
  | protect (link : LinkNo) (secret : Secret) (nonce : BitVec 96)
  | verify (link : LinkNo) (secret : Secret) (nonce : BitVec 96)
  | job (kwk : BitVec 256)
deriving DecidableEq, Repr

/-- The lane arbiter: cyclic pointer over the traffic requesters, rotation count g and rotation G (R92). -/
structure Arbiter where
  pointer : Fin 8
  count : Nat
  rotation : Nat
deriving DecidableEq, Repr

/-! ### Time base and triggers (chapter 8) -/

/-- The time base (R150). -/
structure TimeBase where
  seconds : Nat
  micros : Nat
  valid : Bool
  trim : Int
  discipline : Bool
  window : Nat
  outOfWindow : Nat
deriving DecidableEq, Repr

/-- The After reset column of R150. -/
def TimeBase.reset : TimeBase :=
  { seconds := 0, micros := 0, valid := false, trim := 0, discipline := false, window := 0, outOfWindow := 0 }

/-- A trigger's kind with its condition (R157). -/
inductive TriggerCond where
  | onPulse (left : Nat)
  | atTime (target : Nat)
  | atNumber (stream : StreamNo) (value : Nat)
deriving DecidableEq, Repr

/-- A trigger's action with its operands (R157). -/
inductive TriggerAction where
  | switch (streams : List StreamNo)
  | start (link : LinkNo)
  | stopDrain (link : LinkNo)
  | stopNow (link : LinkNo)
deriving DecidableEq, Repr

/-- A trigger slot (R157); FAULTED holds the failing stream or link and the reason code. -/
inductive TriggerSlot where
  | empty
  | armed (cond : TriggerCond) (action : TriggerAction)
  | faulted (cond : TriggerCond) (action : TriggerAction) (failing reason : Nat)
deriving DecidableEq, Repr

/-! ### Notices (chapter 10.5) -/

/-- The 15 notice kinds (Table 10-5). -/
inductive NoticeKind where
  | keyReady
  | loadFailed
  | rekeyDue
  | switched
  | stalled
  | slotFreed
  | peerSwitched
  | integrityAlert
  | triggerFired
  | triggerFault
  | linkChange
  | linkStopped
  | keyStoreError
  | lanesDegraded
  | alarm
deriving DecidableEq, Repr

/-- One notice kind's flags and sets (R189); `attention` is set for a kind that drives ATTN_N. -/
structure Notice where
  pending : Bool
  enabled : Bool
  attention : Bool
  outs : BitVec 64
  ins : BitVec 64
  triggers : BitVec 8
  links : BitVec 4
deriving DecidableEq, Repr

/-- Clear, enabled and unmasked (R189, after every kind of reset). -/
def Notice.reset : Notice :=
  { pending := false, enabled := true, attention := true, outs := 0, ins := 0, triggers := 0, links := 0 }

/-! ### Start-up and alarm (chapter 9) -/

/-- Device modes (R165). -/
inductive Mode where
  | starting
  | running
  | alarm
  | failed
deriving DecidableEq, Repr

/-- Kinds of reset (R166). -/
inductive ResetKind where
  | powerOn
  | pin
  | restart
deriving DecidableEq, Repr

/-- The retained record (R175). -/
structure Retained where
  valid : Bool
  cause : AlarmCause
  seconds : Nat
  timeValid : Bool
  lanesFailed : BitVec 8
  testFailed : Bool
  alarmCount : Nat
deriving DecidableEq, Repr

/-! ### The management line (chapter 10) -/

/-- The receive assembly (R179) with the bytes it holds: HEAD and LEN hold what came before, BODY the count of bytes
still to come and those received, CHECK the whole body. -/
inductive Assembly where
  | hunt
  | head
  | len (head : Byte)
  | body (head : Byte) (left : Nat) (got : List Byte)
  | check (head : Byte) (body : List Byte)
deriving DecidableEq, Repr

/-- What READ_STREAM carries of an outbound slot: every field but the hidden ones (R8). -/
structure OutSlotView where
  state : OutSlotState
  initialFn : Nat
  nextFn : Nat
  soft : Nat
  hard : Nat
  lifetimeKind : LifetimeKind
  limit : Nat
  warning : Nat
  accrued : Nat
  rekeyRaised : Bool
  inFlight : Nat
  lastLoad : LoadResult
deriving DecidableEq, Repr

/-- What READ_STREAM carries of an outbound stream (R8). -/
structure OutStreamView where
  state : OutState
  link : LinkNo
  streamId : Nat
  autoSwitch : Bool
  pendingSwitch : Option SlotNo
  slots : Vector OutSlotView 2
  protectedFrames : Nat
  protectedBytes : Nat
  noKeyDiscards : Nat
deriving DecidableEq, Repr

/-- The state of an inbound stream, as READ_STREAM shows it (Table 1-2). -/
inductive InState where
  | unused
  | opened
  | active
deriving DecidableEq, Repr

/-- What READ_STREAM carries of an inbound slot (R8). -/
structure InSlotView where
  state : InSlotState
  lower : Nat
  highest : Nat
  bitmap : BitVec 64
  grace : Nat
  inFlight : Nat
  lastLoad : LoadResult
deriving DecidableEq, Repr

/-- What READ_STREAM carries of an inbound stream (R8). -/
structure InStreamView where
  state : InState
  link : LinkNo
  streamId : Nat
  window : Nat
  grace : Nat
  threshold : Nat
  failures : Nat
  slots : Vector InSlotView 2
  delivered : Nat
  integrityFailures : Nat
  replayDiscards : Nat
  noKeyDiscards : Nat
deriving DecidableEq, Repr

end Sys2Proof.Machine

namespace Sys2Proof.Config

/-- The data bytes of a READ_STREAM reply for an outbound stream. R8 names the fields and gives no layout for them, so
the bytes are a free function of the fields; with the request code they are at most 120, as R181 says (log entry 6). -/
opaque outStreamLayout : Machine.OutStreamView → (n : Fin 120) × Vector Byte n.1

/-- The data bytes of a READ_STREAM reply for an inbound stream: see `outStreamLayout`. -/
opaque inStreamLayout : Machine.InStreamView → (n : Fin 120) × Vector Byte n.1

end Sys2Proof.Config

namespace Sys2Proof.Machine

/-- The kinds of a reply record (R181). -/
inductive ReplyKind where
  | done
  | data
  | refused
deriving DecidableEq, Repr

/-- What follows the request code in a reply: bytes, or the fields of a READ_STREAM reply, for which the manual gives
no byte layout (log entry 6). -/
inductive ReplyContent where
  | bytes (data : List Byte)
  | outStream (view : OutStreamView)
  | inStream (view : InStreamView)
deriving DecidableEq, Repr

/-- A reply record (R181). -/
structure Reply where
  kind : ReplyKind
  code : Byte
  content : ReplyContent
deriving DecidableEq, Repr

/-- The management line interface: the receive assembly, the reply that is owed or being sent (R181), the mark of an
accepted RESTART whose reply has not ended (R174), and the line error counters (R182). -/
structure Line where
  assembly : Assembly
  reply : Option Reply
  restartPending : Bool
  broken : Nat
  framing : Nat
  check : Nat
  overlap : Nat
deriving DecidableEq, Repr

/-- The line after every kind of reset (R179, R182). -/
def Line.reset : Line :=
  { assembly := .hunt, reply := .none, restartPending := false, broken := 0, framing := 0, check := 0, overlap := 0 }

/-! ### The whole part -/

/-- The state of the BX-460. -/
structure State where
  /-- commands that wait, first in, first out (the model's own queue) -/
  pending : List Instr
  /-- device mode (R165) -/
  mode : Mode
  /-- the kind of the reset that is held, if one is (R166) -/
  resetHeld : Option ResetKind
  /-- reset cause (R166) -/
  resetCause : ResetKind
  /-- ADDR2–ADDR0 as read at the last release (R178) -/
  address : BitVec 3
  /-- RATE as read at the last release (R178) -/
  rateHigh : Bool
  /-- present level of TAMPER_N, true while asserted (R170) -/
  tamperAsserted : Bool
  /-- the self-test's tamper mark (R167) -/
  tamperMark : Bool
  /-- enabled lanes, bit n for lane n (R89) -/
  lanesEnabled : BitVec 8
  /-- lanes failed at the last self-test completion since the last reset (R187) -/
  lanesFailed : BitVec 8
  /-- the key-wrap key store: `none` is the presence flag clear (R29) -/
  kwk : Option (BitVec 256)
  /-- the retained record (R175) -/
  retained : Retained
  /-- the cipher lanes (R89) -/
  lanes : Vector Lane 8
  /-- the lane arbiter (R92) -/
  arbiter : Arbiter
  /-- the envelope type (R73) -/
  envelopeType : Nat
  /-- the outbound stream table (R1) -/
  outs : Vector OutStream 64
  /-- the inbound stream table (R2) -/
  ins : Vector InStream 64
  /-- the key preparation unit (R15) -/
  keyUnit : KeyUnit
  /-- the key store error record: direction, stream and slot (R28) -/
  storeError : Option (Dir × StreamNo × SlotNo)
  /-- device counter of key store corrections (R27) -/
  storeCorrections : Nat
  /-- device counter of key store discards (R28) -/
  storeDiscards : Nat
  /-- the rule list (R55) -/
  rules : Vector Rule 128
  /-- the links (R128) -/
  links : Vector Link 4
  /-- the link-change buffer, oldest first (R139) -/
  linkChanges : List LinkChange
  /-- the link-change mask (R139) -/
  linkChangeMask : BitVec 8
  /-- the time base (R150) -/
  time : TimeBase
  /-- the trigger slots (R157) -/
  triggers : Vector TriggerSlot 8
  /-- the notice block, kind k at place k (R189) -/
  notices : Vector Notice 15
  /-- the management line interface (chapter 10) -/
  line : Line
  /-- how many free values have been taken (the model's own counter, log entry 5) -/
  freeCount : Nat
deriving DecidableEq, Repr

/-- The machine can stop with no fault: the manual gives every command an effect in every state. -/
inductive Fault where
deriving DecidableEq, Repr

/-- Why a command could be refused a meaning. -/
inductive Refusal where
  /-- Raised by an arm of `exec` for a command that has no meaning yet; safe: nothing is claimed of the command. No
  arm raises it. -/
  | notModelled (mnemonic : String)
deriving DecidableEq, Repr

/-- The machine right after the release of a power-on reset, as the chapters' reset columns give it. The key-wrap key
store and the level of TAMPER_N, which a reset keeps, the straps, and the undefined fields of the retained record have
the values log entries 2, 3 and 4 name. -/
def State.reset : State :=
  { pending := []
    mode := .starting
    resetHeld := .none
    resetCause := .powerOn
    address := 0
    rateHigh := false
    tamperAsserted := false
    tamperMark := false
    lanesEnabled := 0
    lanesFailed := 0
    kwk := .none
    retained := { valid := false, cause := .none, seconds := 0, timeValid := false, lanesFailed := 0,
                  testFailed := false, alarmCount := 0 }
    lanes := Vector.replicate 8 .free
    arbiter := { pointer := 0, count := 0, rotation := 4 }
    envelopeType := 0x8C5E
    outs := Vector.replicate 64 OutStream.reset
    ins := Vector.replicate 64 InStream.reset
    keyUnit := { jobs := [], working := .none }
    storeError := .none
    storeCorrections := 0
    storeDiscards := 0
    rules := Vector.replicate 128 Rule.empty
    links := Vector.replicate 4 Link.reset
    linkChanges := []
    linkChangeMask := 0xFF
    time := TimeBase.reset
    triggers := Vector.replicate 8 .empty
    notices := Vector.replicate 15 Notice.reset
    line := Line.reset
    freeCount := 0 }

end Sys2Proof.Machine
end

