-- ==== Sys2Proof/Machine/Flags.lean ====
section
/-! DEFINITION. The notice block: raising, reading and clearing notices, the pending-kind set and ATTN_N
(section 10.5), and the face status byte. -/

namespace Sys2Proof.Machine

/-- The number of a notice kind (Table 10-5). -/
def NoticeKind.number : NoticeKind → Fin 15
  | .keyReady => 0
  | .loadFailed => 1
  | .rekeyDue => 2
  | .switched => 3
  | .stalled => 4
  | .slotFreed => 5
  | .peerSwitched => 6
  | .integrityAlert => 7
  | .triggerFired => 8
  | .triggerFault => 9
  | .linkChange => 10
  | .linkStopped => 11
  | .keyStoreError => 12
  | .lanesDegraded => 13
  | .alarm => 14

/-- The member a raising names (R190). -/
inductive NoticeMember where
  | none
  | outStream (i : StreamNo)
  | inStream (i : StreamNo)
  | trigger (j : TriggerNo)
  | link (l : LinkNo)
deriving DecidableEq, Repr

/-- A set with one more member; a member already in it stays there once (R189). -/
def withMember {w : Nat} (set : BitVec w) (i : Nat) : BitVec w := set ||| BitVec.ofNat w (2 ^ i)

/-- A notice with the member added to the set that member belongs to. -/
def Notice.addMember (n : Notice) : NoticeMember → Notice
  | .none => n
  | .outStream i => { n with outs := withMember n.outs i.1 }
  | .inStream i => { n with ins := withMember n.ins i.1 }
  | .trigger j => { n with triggers := withMember n.triggers j.1 }
  | .link l => { n with links := withMember n.links l.1 }

/-- A notice raised for a member: an enabled kind becomes pending with the member, a disabled kind is unchanged
(R190). -/
def Notice.raised (n : Notice) (m : NoticeMember) : Notice :=
  if n.enabled then { n.addMember m with pending := true } else n

/-- A notice read: its flag cleared and its sets emptied (R193). -/
def Notice.cleared (n : Notice) : Notice :=
  { n with pending := false, outs := 0, ins := 0, triggers := 0, links := 0 }

/-- A block raises a notice (R190). -/
def raise (k : NoticeKind) (m : NoticeMember) (s : State) : State :=
  { s with notices := putAt s.notices k.number ((s.notices.get k.number).raised m) }

/-- ATTN_N is asserted while a kind is pending and unmasked, and released while a reset is held (R191). -/
def attnAsserted (s : State) : Bool :=
  s.resetHeld.isNone && s.notices.toList.any fun n => n.pending && n.attention

/-- Bits set by place, bit k for entry k of a list. -/
def bitsOfList : List Bool → Nat
  | [] => 0
  | b :: bs => (if b then 1 else 0) + 2 * bitsOfList bs

/-- The pending-kind set, bit k for kind k (R186). -/
def pendingKinds (s : State) : Nat := bitsOfList (s.notices.toList.map Notice.pending)

/-- The status of the eight faces: bit 2n for the rack face and bit 2n+1 for the campus face of link n, set when up
(R140, R187). -/
def faceStatus (s : State) : BitVec 8 :=
  BitVec.ofNat 8 (bitsOfList (s.links.toList.flatMap fun k => [k.rack.up, k.campus.up]))

/-- The bit of one face in that encoding. -/
def faceBit (l : LinkNo) (side : Side) : Nat := 2 * l.1 + (if side = .campus then 1 else 0)

/-- The link states, two bits each, link 0 lowest (R187). -/
def linkStateCode : LinkState → Nat
  | .off => 0
  | .live => 1
  | .draining => 2

/-- READ_STATUS' link state byte (R187). -/
def linkStateByte (s : State) : Nat :=
  s.links.toList.foldr (fun k acc => linkStateCode k.state + 4 * acc) 0

end Sys2Proof.Machine
end

