-- ==== Sys2Proof/Machine/Ops.lean ====
section
/-! DEFINITION. The named operations on State: reading and rewriting one record, slots leaving service and the outbound
switch, items joining and leaving, links and pacers, and what is erased at ALARM entry. Each is one event's effect at
the block that owns the state. -/

namespace Sys2Proof.Machine

/-! ### Reading and rewriting one record -/

/-- Out-stream `i`. -/
def State.outStream (s : State) (i : StreamNo) : OutStream := s.outs.get i
/-- In-stream `i`. -/
def State.inStream (s : State) (i : StreamNo) : InStream := s.ins.get i
/-- Slot `k` of out-stream `i`. -/
def State.outSlot (s : State) (i : StreamNo) (k : SlotNo) : OutSlot := (s.outStream i).slots.get k
/-- Slot `k` of in-stream `i`. -/
def State.inSlot (s : State) (i : StreamNo) (k : SlotNo) : InSlot := (s.inStream i).slots.get k
/-- Link `l`. -/
def State.link (s : State) (l : LinkNo) : Link := s.links.get l

/-- Out-stream `i` rewritten. -/
def State.modOut (i : StreamNo) (f : OutStream → OutStream) (s : State) : State :=
  { s with outs := putAt s.outs i (f (s.outs.get i)) }
/-- In-stream `i` rewritten. -/
def State.modIn (i : StreamNo) (f : InStream → InStream) (s : State) : State :=
  { s with ins := putAt s.ins i (f (s.ins.get i)) }
/-- Slot `k` of out-stream `i` rewritten. -/
def State.modOutSlot (i : StreamNo) (k : SlotNo) (f : OutSlot → OutSlot) (s : State) : State :=
  s.modOut i fun st => { st with slots := putAt st.slots k (f (st.slots.get k)) }
/-- Slot `k` of in-stream `i` rewritten. -/
def State.modInSlot (i : StreamNo) (k : SlotNo) (f : InSlot → InSlot) (s : State) : State :=
  s.modIn i fun st => { st with slots := putAt st.slots k (f (st.slots.get k)) }
/-- Link `l` rewritten. -/
def State.modLink (l : LinkNo) (f : Link → Link) (s : State) : State :=
  { s with links := putAt s.links l (f (s.links.get l)) }
/-- Lane `n` written. -/
def State.setLane (n : LaneNo) (v : Lane) (s : State) : State := { s with lanes := putAt s.lanes n v }
/-- Trigger slot `j` written. -/
def State.setTrigger (j : TriggerNo) (v : TriggerSlot) (s : State) : State :=
  { s with triggers := putAt s.triggers j v }
/-- Rule `r` rewritten. -/
def State.modRule (r : RuleNo) (f : Rule → Rule) (s : State) : State :=
  { s with rules := putAt s.rules r (f (s.rules.get r)) }
/-- The management line rewritten. -/
def State.modLine (f : Line → Line) (s : State) : State := { s with line := f s.line }

/-- The state of an inbound stream: it follows its slots at once (R3). -/
def InStream.state (st : InStream) : InState :=
  if st.isOpen then (if st.slots.toList.any fun sl => sl.state == .active then .active else .opened) else .unused

/-- The active slot field of an outbound stream (R1). -/
def OutStream.activeSlot (st : OutStream) : Option SlotNo :=
  match st.state with
  | .active a => some a
  | _ => none

/-! ### Entries into EMPTY and leaving service (R12, R13, R14) -/

/-- An outbound slot on its entry into EMPTY: all but the last load result cleared (R12). -/
def OutSlot.emptied (sl : OutSlot) : OutSlot := OutSlot.empty sl.lastLoad
/-- An inbound slot on its entry into EMPTY (R12). -/
def InSlot.emptied (sl : InSlot) : InSlot := InSlot.empty sl.lastLoad

/-- An outbound slot leaves service: EMPTY with nothing in flight, DRAINING otherwise (R13). -/
def OutSlot.left (sl : OutSlot) : OutSlot := if sl.inFlight = 0 then sl.emptied else { sl with state := .draining }
/-- An inbound slot leaves service; its grace remaining becomes 0 (R13). -/
def InSlot.left (sl : InSlot) : InSlot :=
  if sl.inFlight = 0 then sl.emptied else { sl with state := .draining, grace := 0 }

/-- Slot `k` of out-stream `i` leaves service, with SLOT_FREED where it enters EMPTY (R12, R13). -/
def leaveOutSlot (i : StreamNo) (k : SlotNo) (s : State) : State :=
  let s1 := s.modOutSlot i k OutSlot.left
  if (s.outSlot i k).inFlight = 0 then raise .slotFreed (.outStream i) s1 else s1

/-- Slot `k` of in-stream `i` leaves service (R12, R13). -/
def leaveInSlot (i : StreamNo) (k : SlotNo) (s : State) : State :=
  let s1 := s.modInSlot i k InSlot.left
  if (s.inSlot i k).inFlight = 0 then raise .slotFreed (.inStream i) s1 else s1

/-- The switch of an ACTIVE outbound stream from slot `a` to its READY other slot (R46). -/
def switchStream (i : StreamNo) (a : SlotNo) (s : State) : State :=
  let s1 := s.modOutSlot i (otherSlot a) fun sl => { sl with state := .active }
  let s2 := s1.modOut i fun st => { st with state := .active (otherSlot a), pendingSwitch := none }
  raise .switched (.outStream i) (leaveOutSlot i a s2)

/-- The ACTIVE slot `a` of an outbound stream leaves service: fallback switch, or stall (R44). -/
def leaveActive (i : StreamNo) (a : SlotNo) (s : State) : State :=
  if (s.outSlot i (otherSlot a)).state = .ready then switchStream i a s
  else
    raise .stalled (.outStream i)
      ((leaveOutSlot i a s).modOut i fun st => { st with state := .stalled, pendingSwitch := none })

/-- What an accepted KEY_SWITCH, or a SWITCH trigger that acts, does to a stream ACTIVE on slot `a` (R49, R50). -/
def requestSwitch (i : StreamNo) (a : SlotNo) (s : State) : State :=
  match (s.outSlot i (otherSlot a)).state with
  | .ready => switchStream i a s
  | .loading => s.modOut i fun st => { st with pendingSwitch := some (otherSlot a) }
  | _ => s

/-- An outbound slot that has become READY is acted on by its stream: first-key activation, the pending switch, or
nothing (R22). -/
def outSlotReady (i : StreamNo) (k : SlotNo) (s : State) : State :=
  match (s.outStream i).state with
  | .opened | .stalled =>
    (s.modOutSlot i k fun sl => { sl with state := .active }).modOut i fun st => { st with state := .active k }
  | .active a => if (s.outStream i).pendingSwitch = some k then switchStream i a s else s
  | .unused => s

/-- One item that references the slot has left its list (R11, R14). -/
def outItemLeft (i : StreamNo) (k : SlotNo) (s : State) : State :=
  let sl := s.outSlot i k
  if sl.state = .draining ∧ sl.inFlight ≤ 1 then
    raise .slotFreed (.outStream i) (s.modOutSlot i k OutSlot.emptied)
  else s.modOutSlot i k fun sl => { sl with inFlight := sl.inFlight - 1 }

/-- One item that references the inbound slot has left its list (R11, R14). -/
def inItemLeft (i : StreamNo) (k : SlotNo) (s : State) : State :=
  let sl := s.inSlot i k
  if sl.state = .draining ∧ sl.inFlight ≤ 1 then
    raise .slotFreed (.inStream i) (s.modInSlot i k InSlot.emptied)
  else s.modInSlot i k fun sl => { sl with inFlight := sl.inFlight - 1 }

/-- The slot count of an item that leaves its list goes down by one (R11); a PASS item has none. -/
def itemLeft (it : Item) (s : State) : State :=
  match it.body with
  | .pass _ => s
  | .protect ref _ _ _ => outItemLeft ref.stream ref.slot s
  | .verify ref _ _ _ _ => inItemLeft ref.stream ref.slot s

/-! ### The key store error record (R28) -/

/-- The common part of an uncorrectable key store error: the discard counter, the record and the notice (R28). -/
def noteStoreError (d : Dir) (i : StreamNo) (k : SlotNo) (s : State) : State :=
  raise .keyStoreError .none
    { s with
      storeDiscards := count48 s.storeDiscards 1
      storeError := s.storeError.or (some (d, i, k)) }

/-- An uncorrectable error on the ACTIVE slot of an outbound stream (R28). -/
def outStoreError (i : StreamNo) (a : SlotNo) (s : State) : State :=
  noteStoreError .out i a
    (leaveActive i a (s.modOutSlot i a fun sl => { sl with lastLoad := .storeError }))

/-- An uncorrectable error on a usable inbound slot (R28). -/
def inStoreError (i : StreamNo) (k : SlotNo) (s : State) : State :=
  noteStoreError .inn i k
    (leaveInSlot i k (s.modInSlot i k fun sl => { sl with lastLoad := .storeError }))

/-- A read that finds a single-bit error: the corrected value stands in the slot and the counter advances (R27). -/
def noteCorrection (read : KeyRead) (s : State) : State :=
  if read = .corrected then { s with storeCorrections := count48 s.storeCorrections 1 } else s

/-! ### Queues and pause (R84 to R88) -/

/-- The occupancy of a queue: the sum of the lengths of its frames (R84). -/
def occupancy (q : List Frame) : Nat := (q.map List.length).sum

/-- Pause state after a departure from the outbound queue: RELEASED at or below the low mark, and a pause owed
(R87). -/
def Link.departed (k : Link) : Link :=
  if k.pauseAsserted ∧ occupancy k.outQueue ≤ k.settings.lowMark * 1024 then
    { k with pauseAsserted := false, pauseOwed := true }
  else k

/-- Pause state after an acceptance into the outbound queue (R87). -/
def Link.arrived (k : Link) : Link :=
  if ¬ k.pauseAsserted ∧ k.settings.highMark * 1024 ≤ occupancy k.outQueue then
    { k with pauseAsserted := true, pauseOwed := true,
             outCount := { k.outCount with pauseAssertions := count48 k.outCount.pauseAssertions 1 } }
  else k

/-- A frame offered to the outbound queue: accepted or tail-dropped (R85). -/
def Link.offerOut (k : Link) (f : Frame) : Link :=
  if occupancy k.outQueue + f.length ≤ Config.queueCapacity then
    Link.arrived { k with outQueue := k.outQueue ++ [f],
                          outCount := { k.outCount with accepted := count48 k.outCount.accepted 1 } }
  else { k with outCount := { k.outCount with queueFull := count48 k.outCount.queueFull 1 } }

/-- A frame offered to the inbound queue (R85). -/
def Link.offerIn (k : Link) (f : Frame) : Link :=
  if occupancy k.inQueue + f.length ≤ Config.queueCapacity then
    { k with inQueue := k.inQueue ++ [f],
             inCount := { k.inCount with accepted := count48 k.inCount.accepted 1 } }
  else { k with inCount := { k.inCount with queueFull := count48 k.inCount.queueFull 1 } }

/-! ### The campus pacer (R141 to R144) -/

/-- A pacer in a ramp stage or STEADY with the credit given: stage `k` (counted from 1) of the profile, or STEADY
after the last (R142, R144). -/
def pacerAtStage (ramp : List Stage) (committed k : Nat) (credit : Int) : Pacer :=
  match ramp[k - 1]? with
  | some st => { phase := .ramp k st.duration, credit := credit, rate := st.rate }
  | none => { phase := .steady, credit := credit, rate := committed }

/-- The pacer at a start: HELD with the campus face down, else the first stage or STEADY with C 0 (R144). -/
def Link.pacerStarted (k : Link) : Pacer :=
  if k.campus.up then pacerAtStage k.ramp k.settings.rate 1 0 else { phase := .held, credit := 0, rate := 0 }

/-- A refill: C becomes C + R or B, whichever is smaller (R142). -/
def Pacer.refilled (p : Pacer) (burst : Nat) : Pacer := { p with credit := min (p.credit + p.rate) burst }

/-- A microsecond event at a pacer: refill, then the stage count (R142). -/
def Link.pacerMicro (k : Link) : Pacer :=
  match k.pacer.phase with
  | .idle | .held => k.pacer
  | .steady => k.pacer.refilled k.settings.burst
  | .ramp n left =>
    let p := k.pacer.refilled k.settings.burst
    if left ≤ 1 then pacerAtStage k.ramp k.settings.rate (n + 1) p.credit
    else { p with phase := .ramp n (left - 1) }

/-- A microsecond event at a rack face's pause refresh count: at every 100th a pause becomes owed again while the
state is ASSERTED and the face is up (R88). -/
def Link.refreshMicro (k : Link) : Link :=
  match k.refresh with
  | none => k
  | some n =>
    if 100 ≤ n + 1 then
      { k with refresh := some 0, pauseOwed := k.pauseOwed || (k.pauseAsserted && k.rack.up) }
    else { k with refresh := some (n + 1) }

/-- A microsecond event at a link. -/
def Link.micro (k : Link) : Link := Link.refreshMicro { k with pacer := k.pacerMicro }

/-- What a frame of campus length `n` costs on the wire, in bits (R143). -/
def wireBits (n : Nat) : Nat := (n + 20) * 8

/-! ### Link states (R132 to R135) -/

/-- The link's two queues and two lists are all empty (R134). -/
def Link.quiet (k : Link) : Bool :=
  k.outQueue.isEmpty && k.inQueue.isEmpty && k.outList.isEmpty && k.inList.isEmpty

/-- An entry into OFF: the stop cause written, the pacer IDLE, LINK_STOPPED raised (R134). -/
def enterOff (l : LinkNo) (cause : StopCause) (s : State) : State :=
  raise .linkStopped (.link l)
    (s.modLink l fun k => { k with state := .off, stopCause := cause, pacer := Pacer.idle })

/-- A DRAINING link whose queues and lists are all empty enters OFF with the cause recorded when the drain began
(R134). -/
def drainCheck (l : LinkNo) (s : State) : State :=
  if (s.link l).state = .draining ∧ (s.link l).quiet then enterOff l (s.link l).stopCause s else s

/-- A link starts: LIVE, its pacer leaving IDLE, the stop cause kept (R132, R144). -/
def startLink (l : LinkNo) (s : State) : State :=
  s.modLink l fun k => { k with state := .live, pacer := k.pacerStarted }

/-- A drain stop, with the cause it records (R133, R135). -/
def drainLink (l : LinkNo) (cause : StopCause) (s : State) : State :=
  if (s.link l).state = .live then
    drainCheck l (s.modLink l fun k => { k with state := .draining, stopCause := cause })
  else s

/-- The lane of an ON_LANE item is FREE again; a DONE item holds none (R102). -/
def freeItemLane (it : Item) (s : State) : State :=
  match it.state with
  | .onLane n => s.setLane n .free
  | .done => s

/-- One item is cancelled: its lane freed and its slot count taken down (R102). -/
def cancelItem (it : Item) (s : State) : State := itemLeft it (freeItemLane it s)

/-- The link with its queues and lists emptied and every frame and item counted as a stop-discard; an ASSERTED pause
state becomes RELEASED and a pause is owed (R86, R87, R102). -/
def Link.flushed (k : Link) : Link :=
  Link.departed
    { k with
      outQueue := [], inQueue := [], outList := [], inList := []
      outCount := { k.outCount with stop := count48 k.outCount.stop (k.outQueue.length + k.outList.length) }
      inCount := { k.inCount with stop := count48 k.inCount.stop (k.inQueue.length + k.inList.length) } }

/-- A stop NOW of a LIVE or DRAINING link (R102, R133). -/
def stopLinkNow (l : LinkNo) (cause : StopCause) (s : State) : State :=
  if (s.link l).state = .off then s
  else
    let items := (s.link l).outList ++ (s.link l).inList
    enterOff l cause ((items.foldl (fun s it => cancelItem it s) s).modLink l Link.flushed)

/-! ### The arbiter (R90 to R93) -/

/-- A requester the arbiter can choose: a queue's, or the key preparation unit (R90). -/
inductive Requester where
  | traffic (r : Fin 8)
  | keyUnit
deriving DecidableEq, Repr

/-- The link of a traffic requester: 0 to 3 outbound, 4 to 7 inbound (R90). -/
def requesterLink (r : Fin 8) : LinkNo := ⟨r.1 % 4, Nat.mod_lt _ (by decide)⟩

/-- A traffic requester requests while its queue holds a frame and its list has room (R90). -/
def trafficRequests (s : State) (r : Fin 8) : Bool :=
  let k := s.link (requesterLink r)
  if r.1 < 4 then !k.outQueue.isEmpty && decide (k.outList.length < Config.listCapacity)
  else !k.inQueue.isEmpty && decide (k.inList.length < Config.listCapacity)

/-- The key preparation unit requests while the head of its queue is WAITING (R90). -/
def keyUnitRequests (s : State) : Bool := !s.keyUnit.jobs.isEmpty && s.keyUnit.working.isNone

/-- The requesters in the order of the search that begins at the pointer (R92). -/
def searchOrder (p : Fin 8) : List (Fin 8) := (List.finRange 8).map fun n => p + n

/-- The requester the next grant chooses (R92). -/
def chooseRequester (s : State) : Option Requester :=
  let traffic := (searchOrder s.arbiter.pointer).find? (trafficRequests s)
  if keyUnitRequests s && (decide (s.arbiter.rotation ≤ s.arbiter.count) || traffic.isNone) then some .keyUnit
  else traffic.map .traffic

/-- The lowest-numbered FREE enabled lane (R91). -/
def freeLane (s : State) : Option LaneNo :=
  (List.finRange 8).find? fun n => s.lanesEnabled.getLsbD n.1 && decide (s.lanes.get n = .free)

/-- The grant the arbiter makes now, if it makes one; only a part in RUNNING makes grants (R89, R91, R107). -/
def nextGrant (s : State) : Option (Requester × LaneNo) :=
  if s.mode = .running then
    match chooseRequester s, freeLane s with
    | some r, some n => some (r, n)
    | _, _ => none
  else none

/-- The arbiter after a traffic grant to `r` (R92). -/
def noteTrafficGrant (r : Fin 8) (s : State) : State :=
  { s with arbiter := { s.arbiter with pointer := r + 1, count := min (s.arbiter.count + 1) 7 } }

/-- g set to 0: a grant to the unit, or a job that becomes WAITING at the head (R92). -/
def resetCount (s : State) : State := { s with arbiter := { s.arbiter with count := 0 } }

/-- The head job has left the queue; the next, if any, becomes WAITING (R15, R92). -/
def removeHeadJob (s : State) : State :=
  let s1 := { s with keyUnit := { jobs := s.keyUnit.jobs.tail, working := none } }
  if s.keyUnit.jobs.tail.isEmpty then s1 else resetCount s1

/-! ### Resets: what a held reset silences (R166) -/

/-- Nothing but a reset or TAMPER_N reaches a part held in reset (R166, R177). -/
def unlessHeld (f : State → State) (s : State) : State := if s.resetHeld.isSome then s else f s

/-- A transmission that stops before its end. -/
def Face.stopped (f : Face) (ending : TxEnding) : Face :=
  match f.tx with
  | .idle => f
  | _ => { f with tx := .idle, lastEnding := ending }

/-- A reset begins: no reply, and no frame driven on any face (R166, R181). -/
def holdReset (kind : ResetKind) (s : State) : State :=
  { s with
    resetHeld := some kind
    line := { s.line with reply := none, restartPending := false }
    links := mapTable (fun k => { k with rack := k.rack.stopped .lost, campus := k.campus.stopped .lost }) s.links }

/-! ### ALARM entry (R171 and the blocks' own responses) -/

/-- A slot at ALARM entry: EMPTY, with CANCELLED where it was LOADING (R32). -/
def OutSlot.alarmed (sl : OutSlot) : OutSlot :=
  if sl.state = .loading then OutSlot.empty .cancelled else sl.emptied

/-- An inbound slot at ALARM entry (R32). -/
def InSlot.alarmed (sl : InSlot) : InSlot :=
  if sl.state = .loading then InSlot.empty .cancelled else sl.emptied

/-- An outbound stream at ALARM entry: OPEN where it was ACTIVE or STALLED, no pending switch (R32). -/
def OutStream.alarmed (st : OutStream) : OutStream :=
  { st with
    state := if st.state = .unused then .unused else .opened
    pendingSwitch := none
    slots := mapTable OutSlot.alarmed st.slots }

/-- An inbound stream at ALARM entry (R32, R127). -/
def InStream.alarmed (st : InStream) : InStream := { st with slots := mapTable InSlot.alarmed st.slots }

/-- A data frame on the wire is cut off with a frame check sequence that does not match; a pause frame is finished
(R171). -/
def Face.alarmed (f : Face) : Face :=
  match f.tx with
  | .data _ => { f with tx := .idle, lastEnding := .cutBadFcs }
  | _ => f

/-- A link at ALARM entry (R107, R149, R171): OFF with cause ALARM, queues and lists emptied as stop-discards, an
ASSERTED pause state RELEASED with a pause owed where the rack face is up. -/
def Link.alarmed (k : Link) : Link :=
  { k with
    state := .off
    stopCause := .alarm
    outQueue := [], inQueue := [], outList := [], inList := []
    pauseAsserted := false
    pauseOwed := k.pauseOwed || (k.pauseAsserted && k.rack.up)
    rack := k.rack.alarmed
    campus := k.campus.alarmed
    pacer := Pacer.idle
    outCount := { k.outCount with stop := count48 k.outCount.stop (k.outQueue.length + k.outList.length) }
    inCount := { k.inCount with stop := count48 k.inCount.stop (k.inQueue.length + k.inList.length) } }

/-- The retained record's alarm fields written (R175). -/
def Retained.alarmed (r : Retained) (cause : AlarmCause) (t : TimeBase) : Retained :=
  { r with cause := cause, seconds := t.seconds, timeValid := t.valid, alarmCount := min (r.alarmCount + 1) 255 }

/-- LINK_STOPPED raised for every link that `before` shows LIVE or DRAINING (R149). -/
def raiseLinksStopped (before : State) (s : State) : State :=
  (List.finRange 4).foldl
    (fun s l => if (before.link l).state = .off then s else raise .linkStopped (.link l) s) s

/-- ALARM entry, one event (R171): the mode, the key-wrap key store and every block's own response. -/
def alarmEntry (cause : AlarmCause) (s : State) : State :=
  raise .alarm .none
    (raiseLinksStopped s
      { s with
        mode := .alarm
        kwk := none
        outs := mapTable OutStream.alarmed s.outs
        ins := mapTable InStream.alarmed s.ins
        keyUnit := { jobs := [], working := none }
        lanes := Vector.replicate 8 .free
        arbiter := { s.arbiter with pointer := 0, count := 0 }
        links := mapTable Link.alarmed s.links
        triggers := Vector.replicate 8 .empty
        retained := s.retained.alarmed cause s.time })

end Sys2Proof.Machine
end

