-- ==== Sys2Proof/Machine/Faces.lean ====
section
/-! DEFINITION. The faces: arrivals (R131), status changes and the link-change buffer (R137, R139), pause frames (R88),
the ends of transmissions, and the end of a drain (R134). -/

namespace Sys2Proof.Machine

/-- One face of a link rewritten. -/
def Link.modFace (k : Link) (side : Side) (f : Face → Face) : Link :=
  match side with
  | .rack => { k with rack := f k.rack }
  | .campus => { k with campus := f k.campus }

/-- One face of a link. -/
def Link.face (k : Link) (side : Side) : Face :=
  match side with
  | .rack => k.rack
  | .campus => k.campus

/-! ### Arrivals (R131, R138) -/

/-- A receive error counted (R131 step 1). -/
def FaceCounters.error (c : FaceCounters) (side : Side) : FaceCounters :=
  match side with
  | .rack => { c with rackErrors := count48 c.rackErrors 1 }
  | .campus => { c with campusErrors := count48 c.campusErrors 1 }

/-- An off-discard counted (R131 step 2). -/
def FaceCounters.off (c : FaceCounters) (side : Side) : FaceCounters :=
  match side with
  | .rack => { c with rackOff := count48 c.rackOff 1 }
  | .campus => { c with campusOff := count48 c.campusOff 1 }

/-- A stopping-discard counted (R131 step 3). -/
def FaceCounters.stopping (c : FaceCounters) (side : Side) : FaceCounters :=
  match side with
  | .rack => { c with rackStopping := count48 c.rackStopping 1 }
  | .campus => { c with campusStopping := count48 c.campusStopping 1 }

/-- A frame whose reception completes at a face, judged in the order of R131. -/
def Link.received (k : Link) (side : Side) (f : Frame) : Link :=
  if ¬ receivedGood f then { k with faceCount := k.faceCount.error side }
  else
    match k.state with
    | .off => { k with faceCount := k.faceCount.off side }
    | .draining => { k with faceCount := k.faceCount.stopping side }
    | .live =>
      match side with
      | .rack => k.offerOut f
      | .campus => k.offerIn f

/-- FRAME_RECEIVED (R131). A face receives only while it is up. -/
def execFrameReceived (link : LinkNo) (side : Side) (frame : Frame) (s : State) : Host.Outcome State Fault Refusal :=
  .next (unlessHeld (fun s =>
    if ((s.link link).face side).up then s.modLink link fun k => k.received side frame else s) s)

/-! ### The link-change buffer (R139) -/

/-- The buffer after a recorded change: a new entry, or the newest of two rewritten (R139). -/
def recordChange (buf : List LinkChange) (bit : BitVec 8) (status : BitVec 8) (t : TimeBase) : List LinkChange :=
  match buf with
  | [] => [{ changed := bit, status := status, seconds := t.seconds, micros := t.micros, overwritten := false }]
  | [a] => [a, { changed := bit, status := status, seconds := t.seconds, micros := t.micros, overwritten := false }]
  | a :: b :: _ =>
    [a, { changed := b.changed ||| bit, status := status, seconds := t.seconds, micros := t.micros,
          overwritten := true }]

/-- A face change recorded where the face is in the mask, with LINK_CHANGE; `s` already shows the new status (R139). -/
def noteChange (l : LinkNo) (side : Side) (s : State) : State :=
  if s.linkChangeMask.getLsbD (faceBit l side) then
    raise .linkChange .none
      { s with
        linkChanges :=
          recordChange s.linkChanges (BitVec.ofNat 8 (2 ^ faceBit l side)) (faceStatus s) s.time }
  else s

/-! ### Status changes (R137, R144) -/

/-- The link carries traffic: LIVE or DRAINING. -/
def Link.carries (k : Link) : Bool := decide (k.state ≠ .off)

/-- A face of the link comes up: the rack face owes a pause where its queue is ASSERTED, the campus face starts the
pacer of a LIVE or DRAINING link (R88, R144). -/
def Link.wentUp (k : Link) (side : Side) : Link :=
  match side with
  | .rack => { k with rack := { k.rack with up := true }, pauseOwed := k.pauseAsserted }
  | .campus =>
    let k1 := { k with campus := { k.campus with up := true } }
    if k.carries then { k1 with pacer := k1.pacerStarted } else k1

/-- A face of the link goes down: its transmitter idle and the frame on the wire lost; the rack face drops an owed pause
and stops the refresh count; the campus face sends the pacer of a LIVE or DRAINING link to HELD (R88, R137, R144). -/
def Link.wentDown (k : Link) (side : Side) : Link :=
  match side with
  | .rack =>
    { k with rack := { (k.rack.stopped .lost) with up := false }, pauseOwed := false, refresh := none }
  | .campus =>
    let k1 := { k with campus := { (k.campus.stopped .lost) with up := false } }
    if k.carries then { k1 with pacer := { phase := .held, credit := 0, rate := 0 } } else k1

/-- FACE_UP (R137). A face that is up does not report up again. -/
def execFaceUp (link : LinkNo) (side : Side) (s : State) : Host.Outcome State Fault Refusal :=
  .next (unlessHeld (fun s =>
    if ((s.link link).face side).up then s else noteChange link side (s.modLink link fun k => k.wentUp side)) s)

/-- FACE_DOWN (R137). A face that is down does not go down again. -/
def execFaceDown (link : LinkNo) (side : Side) (s : State) : Host.Outcome State Fault Refusal :=
  .next (unlessHeld (fun s =>
    if ((s.link link).face side).up then noteChange link side (s.modLink link fun k => k.wentDown side) else s) s)

/-! ### Pause frames and transmissions (R88, R137) -/

/-- The pause time the pause state gives: 65,535 for ASSERTED, 0 for RELEASED (R88). -/
def Link.pauseTime (k : Link) : Nat := if k.pauseAsserted then 65535 else 0

/-- A pause can be sent: one is owed, the rack face is up and its transmitter idle (R88). -/
def Link.canPause (k : Link) : Bool := k.pauseOwed && k.rack.up && decide (k.rack.tx = .idle)

/-- The owed pause sent: the transmitter busy with it, nothing owed, the refresh count restarted (R88). -/
def Link.pauseSent (k : Link) : Link :=
  { k with rack := { k.rack with tx := .pause (pauseFrame k.pauseTime) }, pauseOwed := false, refresh := some 0 }

/-- PAUSE_SEND (R88), in every device mode. -/
def execPauseSend (link : LinkNo) (s : State) : Host.Outcome State Fault Refusal :=
  .next (unlessHeld (fun s => if (s.link link).canPause then s.modLink link Link.pauseSent else s) s)

/-- PAUSE_REFRESH: the microsecond event that is the 100th since a pause was sent reaches the refresh count, with the
queue ASSERTED and the rack face up (R88). -/
def execPauseRefresh (link : LinkNo) (s : State) : Host.Outcome State Fault Refusal :=
  .next (unlessHeld (fun s =>
    match (s.link link).refresh with
    | some n =>
      if 100 ≤ n + 1 ∧ (s.link link).pauseAsserted ∧ (s.link link).rack.up then s.modLink link Link.refreshMicro else s
    | none => s) s)

/-- TRANSMISSION_END: the frame's transmission ends and the transmitter is idle (R137). -/
def execTransmissionEnd (link : LinkNo) (side : Side) (s : State) : Host.Outcome State Fault Refusal :=
  .next (unlessHeld (fun s => s.modLink link fun k => k.modFace side fun f => f.stopped .complete) s)

/-- DRAIN_COMPLETE: a DRAINING link whose queues and lists are all empty enters OFF (R134). -/
def execDrainComplete (link : LinkNo) (s : State) : Host.Outcome State Fault Refusal :=
  .next (unlessHeld (drainCheck link) s)

/-- RAMP_STAGE_END: the microsecond event at which the present stage's microseconds run out reaches the pacer: refill,
then the move to the next stage or to STEADY (R142). -/
def execRampStageEnd (link : LinkNo) (s : State) : Host.Outcome State Fault Refusal :=
  .next (unlessHeld (fun s =>
    match (s.link link).pacer.phase with
    | .ramp _ left => if left ≤ 1 then s.modLink link fun k => { k with pacer := k.pacerMicro } else s
    | _ => s) s)

end Sys2Proof.Machine
end

