-- ==== Sys2Proof/Machine/Classifier.lean ====
section
/-! DEFINITION. Outbound classification: what the classifier sees in a frame, how a rule matches, and the decision at a
grant (chapter 3). -/

namespace Sys2Proof.Machine

/-- The destination class of a frame (R57). -/
def frameClass (f : Frame) : DestClass :=
  if f.take 6 = List.replicate 6 0xFF then .broadcast
  else if byteAt f 0 % 2 = 1 then .multicast
  else .unicast

/-- A tag identifier lies in the aperture of base `b` and exponent `k` (R59). -/
def inAperture (b k t : Nat) : Bool := t / 2 ^ k * 2 ^ k == b

/-- A rule's tag match holds for a frame (R58). -/
def Rule.tagHolds (r : Rule) (f : Frame) : Bool :=
  match r.tagMatch with
  | .any => true
  | .untagged => !frameTagged f
  | .tagRange => frameTagged f && inAperture r.tagBase r.tagExp (tagId f)

/-- A rule's destination class holds for a frame (R58). -/
def Rule.classHolds (r : Rule) (f : Frame) : Bool := r.destClass == .any || r.destClass == frameClass f

/-- A valid rule matches a frame of link `l` (R58). -/
def Rule.matchesFrame (r : Rule) (l : LinkNo) (f : Frame) : Bool :=
  r.valid && r.linkSet.getLsbD l.1 && r.tagHolds f && r.classHolds f

/-- The valid rule with the lowest index that matches (R60). -/
def decidingRule (s : State) (l : LinkNo) (f : Frame) : Option RuleNo :=
  (List.finRange 128).find? fun i => (s.rules.get i).matchesFrame l f

/-- A classification: the action, and the stream and keep-tag-clear a PROTECT reads (R60). -/
structure Decision where
  action : RuleAction
  stream : StreamNo
  keepTag : Bool
deriving DecidableEq, Repr

/-- The decision on a frame of link `l`: the deciding rule's, or the link's default action with keep-tag-clear clear
(R56, R60). -/
def classify (s : State) (l : LinkNo) (f : Frame) : Decision :=
  match decidingRule s l f with
  | some i =>
    { action := (s.rules.get i).action, stream := (s.rules.get i).stream, keepTag := (s.rules.get i).keepTag }
  | none =>
    { action := if (s.link l).settings.defaultOut = .passClear then .passClear else .discard, stream := 0,
      keepTag := false }

/-- The deciding rule's match count goes up by one; with no deciding rule no match count changes (R60). -/
def countMatch (l : LinkNo) (f : Frame) (s : State) : State :=
  match decidingRule s l f with
  | some i => s.modRule i fun r => { r with matchCount := count48 r.matchCount 1 }
  | none => s

end Sys2Proof.Machine
end

