-- ==== Sys2Proof/Machine/Triggers.lean ====
section
/-! DEFINITION. Staged triggers: when an ARMED trigger's condition comes true, and the firing (sections 8.4 and 8.5). -/

namespace Sys2Proof.Machine

/-- Why a SWITCH of a stream cannot be made: its reason code, or none where the stream is ACTIVE with its other slot
READY or LOADING (R161). -/
def switchFault (s : State) (i : StreamNo) : Option Nat :=
  match (s.outStream i).state with
  | .active a =>
    match (s.outSlot i (otherSlot a)).state with
    | .ready | .loading => none
    | _ => some 0x10
  | _ => some 0x0F

/-- The first listed stream whose SWITCH cannot be made, with its reason (R161). -/
def firstSwitchFault (s : State) : List StreamNo → Option (Nat × Nat)
  | [] => none
  | i :: is =>
    match switchFault s i with
    | some r => some (i.1, r)
    | none => firstSwitchFault s is

/-- Why a START of a link cannot be made (R161). -/
def startFault (s : State) (l : LinkNo) : Option (Nat × Nat) :=
  match (s.link l).state with
  | .live => some (l.1, 0x03)
  | .draining => some (l.1, 0x05)
  | .off => if (s.link l).setUp then none else some (l.1, 0x04)

/-- What stands in the way of a trigger's action: the failing stream or link, and the reason (R161). -/
def actionFault (s : State) : TriggerAction → Option (Nat × Nat)
  | .switch streams => firstSwitchFault s streams
  | .start l => startFault s l
  | .stopDrain _ => none
  | .stopNow _ => none

/-- One listed stream of a SWITCH trigger that acts (R50). -/
def switchListed (s : State) (i : StreamNo) : State :=
  match (s.outStream i).state with
  | .active a => requestSwitch i a s
  | _ => s

/-- A trigger's action carried out (R50, R135). -/
def doAction (s : State) : TriggerAction → State
  | .switch streams => streams.foldl switchListed s
  | .start l => startLink l s
  | .stopDrain l => drainLink l .triggerDrain s
  | .stopNow l => stopLinkNow l .triggerNow s

/-- The firing of slot `j`, whose condition has come true: it acts on everything and empties, or faults and acts on
nothing (R161). -/
def fireTrigger (j : TriggerNo) (cond : TriggerCond) (action : TriggerAction) (s : State) : State :=
  match actionFault s action with
  | some (failing, reason) =>
    raise .triggerFault (.trigger j) (s.setTrigger j (.faulted cond action failing reason))
  | none => raise .triggerFired (.trigger j) (doAction (s.setTrigger j .empty) action)

/-- A condition after an event of its kind has reached it: a pulse edge takes the edges remaining down (R160). At the edge
that fires the trigger they are 0, and a slot that becomes FAULTED keeps that 0 (log entry 23). -/
def TriggerCond.after (c : TriggerCond) (e : FireEvent) : TriggerCond :=
  match c, e with
  | .onPulse n, .pulseEdge => .onPulse (n - 1)
  | c, _ => c

/-- The event makes the condition true (R160). -/
def TriggerCond.comesTrue (c : TriggerCond) (e : FireEvent) : Bool :=
  match c, e with
  | .onPulse n, .pulseEdge => decide (n ≤ 1)
  | .atTime t, .secondEvent now => t == now
  | .atTime t, .timeSet now => decide (t ≤ now)
  | .atNumber i v, .assigned j p => i == j && decide (v ≤ p)
  | _, _ => false

/-- An event reaches trigger slot `j`: an ARMED trigger fires when the event makes its condition true, and an ARMED
ON_PULSE trigger counts the edge (R160). It fires with the condition as the event leaves it, so a FAULTED ON_PULSE slot
holds, and READ_TRIGGER shows, 0 edges remaining (log entry 23). -/
def triggerEvent (e : FireEvent) (s : State) (j : TriggerNo) : State :=
  match s.triggers.get j with
  | .armed c a =>
    if c.comesTrue e then fireTrigger j (c.after e) a s else s.setTrigger j (.armed (c.after e) a)
  | _ => s

/-- An event reaches every trigger slot (R152 to R154, R34). -/
def triggersEvent (e : FireEvent) (s : State) : State := (List.finRange 8).foldl (triggerEvent e) s

/-- TRIGGER_FIRE: an ARMED trigger's condition comes true at the event given, and it fires (R160, R161). A trigger that
the event does not make true does not fire. -/
def execTriggerFire (slot : TriggerNo) (event : FireEvent) (s : State) : Host.Outcome State Fault Refusal :=
  .next (unlessHeld (fun s =>
    match s.triggers.get slot with
    | .armed c a => if c.comesTrue event then fireTrigger slot (c.after event) a s else s
    | _ => s) s)

end Sys2Proof.Machine
end

