-- ==== Sys2Proof/Machine/Outbound.lean ====
section
/-! DEFINITION. The outbound path: the grant, frame-number assignment and the envelope, lane completion of a PROTECT
item, and release onto the campus face (chapters 2, 4 and 5). -/

namespace Sys2Proof.Machine

/-! ### The envelope (R35, R75, R76) -/

/-- The nonce: salt, two zero bytes, and the frame number in 6 bytes (R35, R82). -/
def nonceOf (salt : BitVec 32) (fn : Nat) : BitVec 96 := salt ++ (0 : BitVec 16) ++ BitVec.ofNat 48 fn

/-- The envelope header of Table 4-3: type, version, flags (key phase in bit 0, tag-clear in bit 1), stream id, frame
number (R75). -/
def envelopeHeader (envelopeType : Nat) (phase : SlotNo) (tagClear : Bool) (streamId fn : Nat) : List Byte :=
  bytesOfNat 2 envelopeType ++ [0x01] ++ bytesOfNat 1 (phase.1 + (if tagClear then 2 else 0)) ++
    bytesOfNat 2 streamId ++ bytesOfNat 6 fn

/-- Where the encrypted bytes of a rack frame begin: after the addresses, or after the clear tag (R76). -/
def clearBytes (tagClear : Bool) : Nat := if tagClear then 16 else 12

/-- The associated data of a PROTECT item: addresses, clear tag if kept, header (R76). -/
def sealAad (f : Frame) (tagClear : Bool) (header : List Byte) : List Byte := f.take (clearBytes tagClear) ++ header

/-- The bytes to be encrypted: from there to the byte before the FCS (R76). -/
def sealPlain (f : Frame) (tagClear : Bool) : List Byte := (frameBody f).drop (clearBytes tagClear)

/-- The encrypted length: L − 16, or L − 20 with the tag kept clear (R36, R77). -/
def encryptedLength (length : Nat) (tagClear : Bool) : Nat := if tagClear then length - 20 else length - 16

/-- How much longer a protected frame is on the campus face (R77). -/
def envelopeOverhead : Nat := 28

/-! ### Frame-number assignment (R34) -/

/-- An assignment's test for REKEY_DUE: S reached, or a MEBIBYTES warning (R38, step 4 of R34). `sl` is the slot after
its accrual. -/
def OutSlot.rekeyDueAt (sl : OutSlot) (p : Nat) : Bool :=
  !sl.rekeyRaised &&
    (decide (sl.soft ≤ p) ||
      (decide (sl.lifetimeKind = .mebibytes) && decide (sl.warning ≠ 0) && decide (sl.warning * 1048576 ≤ sl.accrued)))

/-- An assignment's test for the end of the slot's service: the hard limit, or a MEBIBYTES limit (R42, R43). -/
def OutSlot.endsAt (sl : OutSlot) (p : Nat) : Bool :=
  p == sl.hard || (decide (sl.lifetimeKind = .mebibytes) && decide (sl.limit * 1048576 ≤ sl.accrued))

/-- Steps 1 and 3 of R34 at the slot: next FN moves on, the item is counted in flight and its bytes accrue (R42). -/
def OutSlot.assigned (sl : OutSlot) (bytes : Nat) : OutSlot :=
  { sl with
    nextFn := sl.nextFn + 1
    inFlight := sl.inFlight + 1
    accrued := if sl.lifetimeKind = .mebibytes then sl.accrued + bytes else sl.accrued }

/-- REKEY_DUE raised for the stream and the slot's flag set (R38). -/
def raiseRekeyDue (i : StreamNo) (k : SlotNo) (s : State) : State :=
  raise .rekeyDue (.outStream i) (s.modOutSlot i k fun sl => { sl with rekeyRaised := true })

/-- The PROTECT item of a frame (R34 step 2, R66, R75, R96). -/
def protectItem (s : State) (l : LinkNo) (n : LaneNo) (i : StreamNo) (a : SlotNo) (f : Frame) (tagClear : Bool) :
    Item :=
  let p := (s.outSlot i a).nextFn
  let header := envelopeHeader s.envelopeType a tagClear (s.outStream i).streamId p
  { dir := .out, link := l
    body := .protect { stream := i, slot := a, fn := p, tagClear := tagClear } (sealAad f tagClear header)
      (sealPlain f tagClear) none
    length := f.length + envelopeOverhead
    state := .onLane n }

/-- Steps 1 to 3 of R34: the number is taken, the item joins the list on its lane, and the counters advance. -/
def assignNumber (l : LinkNo) (n : LaneNo) (i : StreamNo) (a : SlotNo) (f : Frame) (tagClear : Bool) (s : State) :
    State :=
  let sl := s.outSlot i a
  let secret := sl.secret.getD { key := 0, salt := 0 }
  let bytes := encryptedLength f.length tagClear
  ((((s.modLink l fun k => { k with outList := k.outList ++ [protectItem s l n i a f tagClear] }).setLane n
      (.protect l secret (nonceOf secret.salt sl.nextFn))).modOutSlot i a fun sl => sl.assigned bytes).modOut i
    fun st => { st with protectedFrames := count48 st.protectedFrames 1,
                        protectedBytes := count48 st.protectedBytes bytes })

/-- Step 4 of R34: REKEY_DUE. -/
def assignRekey (i : StreamNo) (a : SlotNo) (p : Nat) (s : State) : State :=
  if (s.outSlot i a).rekeyDueAt p then raiseRekeyDue i a s else s

/-- Step 5 of R34: exhaustion or expiry. -/
def assignEnd (i : StreamNo) (a : SlotNo) (p : Nat) (s : State) : State :=
  if (s.outSlot i a).endsAt p then leaveActive i a s else s

/-- Step 6 of R34: auto-switch, while the slot is still ACTIVE (R51). -/
def assignAutoSwitch (i : StreamNo) (a : SlotNo) (p : Nat) (s : State) : State :=
  if (s.outStream i).state = .active a ∧ (s.outStream i).autoSwitch ∧ (s.outSlot i a).soft ≤ p
      ∧ (s.outSlot i (otherSlot a)).state = .ready then switchStream i a s else s

/-- Frame-number assignment at the grant of a PROTECT item, steps 1 to 7 (R34). -/
def assign (l : LinkNo) (n : LaneNo) (i : StreamNo) (a : SlotNo) (f : Frame) (tagClear : Bool) (s : State) : State :=
  let p := (s.outSlot i a).nextFn
  triggersEvent (.assigned i p)
    (assignAutoSwitch i a p (assignEnd i a p (assignRekey i a p (assignNumber l n i a f tagClear s))))

/-! ### The grant (R61, R94) -/

/-- A link's outbound counters advanced. -/
def countOut (l : LinkNo) (f : OutCounters → OutCounters) (s : State) : State :=
  s.modLink l fun k => { k with outCount := f k.outCount }

/-- A link's inbound counters advanced. -/
def countIn (l : LinkNo) (f : InCounters → InCounters) (s : State) : State :=
  s.modLink l fun k => { k with inCount := f k.inCount }

/-- The frame is longer on the campus face than the link's campus maximum; it is counted and discarded (R64). -/
def discardOversize (l : LinkNo) (s : State) : State :=
  countOut l (fun c => { c with oversize := count48 c.oversize 1 }) s

/-- A PASS item of a direction (R65, R109). -/
def passItem (d : Dir) (l : LinkNo) (f : Frame) : Item :=
  { dir := d, link := l, body := .pass f, length := f.length, state := .done }

/-- The decision acted on, steps 1 to 6 of R61. -/
def disposeOut (l : LinkNo) (n : LaneNo) (read : KeyRead) (f : Frame) (d : Decision) (s : State) : State :=
  match d.action with
  | .discard => countOut l (fun c => { c with classifier := count48 c.classifier 1 }) s
  | .passClear =>
    if (s.link l).settings.campusMax < f.length then discardOversize l s
    else s.modLink l fun k => { k with outList := k.outList ++ [passItem .out l f] }
  | .protect =>
    if (s.link l).settings.campusMax < f.length + envelopeOverhead then discardOversize l s
    else
      match (s.outStream d.stream).state with
      | .active a =>
        if read = .uncorrectable then outStoreError d.stream a s
        else assign l n d.stream a f (d.keepTag && frameTagged f) (noteCorrection read s)
      | _ => s.modOut d.stream fun st => { st with noKeyDiscards := count48 st.noKeyDiscards 1 }

/-- The head frame of the outbound queue leaves it, and the pause state follows (R86, R87). -/
def Link.dropOutHead (k : Link) : Link := Link.departed { k with outQueue := k.outQueue.tail }

/-- A grant of lane `n` to the outbound queue of link `l` (R94): the head frame leaves, is decided, and is disposed of
or made an item; a DRAINING link that this leaves empty enters OFF (R134). -/
def grantOutbound (l : LinkNo) (n : LaneNo) (read : KeyRead) (s : State) : State :=
  match (s.link l).outQueue with
  | [] => s
  | f :: _ =>
    let d := classify s l f
    drainCheck l (disposeOut l n read f d (countMatch l f (s.modLink l Link.dropOutHead)))

/-- OUTBOUND_GRANT: the arbiter's next grant, where it goes to an outbound queue (R91, R92, R94). -/
def execOutboundGrant (read : KeyRead) (s : State) : Host.Outcome State Fault Refusal :=
  .next (unlessHeld (fun s =>
    match nextGrant s with
    | some (.traffic r, n) =>
      if r.1 < 4 then grantOutbound (requesterLink r) n read (noteTrafficGrant r s) else s
    | _ => s) s)

/-! ### Lane completion (R97, R115) -/

/-- The cipher applied to an item on its lane: ciphertext and tag for PROTECT (R76), the integrity result and the
plaintext for VERIFY (R82, R115). -/
def ItemBody.completed (b : ItemBody) (secret : Secret) (nonce : BitVec 96) : ItemBody :=
  match b with
  | .pass f => .pass f
  | .protect ref aad payload _ =>
    .protect ref aad (Config.gcmCiphertext secret.key nonce aad payload).toList
      (some (Config.gcmTag secret.key nonce aad payload))
  | .verify ref aad cipher tag _ =>
    .verify ref aad cipher tag (some ((Config.gcmOpen secret.key nonce aad cipher tag).map Vector.toList))

/-- An item at the completion of lane `n`: DONE if it was on that lane (R97). -/
def Item.completedOn (n : LaneNo) (secret : Secret) (nonce : BitVec 96) (it : Item) : Item :=
  if it.state = .onLane n then { it with body := it.body.completed secret nonce, state := .done } else it

/-- LANE_COMPLETION of a lane that holds a PROTECT or VERIFY item (R97); the lane becomes FREE and its working copies
are erased. A lane that holds no item has no completion. -/
def execLaneCompletion (lane : LaneNo) (s : State) : Host.Outcome State Fault Refusal :=
  .next (unlessHeld (fun s =>
    match s.lanes.get lane with
    | .protect l secret nonce =>
      (s.modLink l fun k => { k with outList := k.outList.map (Item.completedOn lane secret nonce) }).setLane lane .free
    | .verify l secret nonce =>
      (s.modLink l fun k => { k with inList := k.inList.map (Item.completedOn lane secret nonce) }).setLane lane .free
    | _ => s) s)

/-! ### Release (R99, R100) -/

/-- A released outbound frame as the campus face sends it: a PROTECT item as associated data, ciphertext, tag and FCS
(Tables 4-1 and 4-2, R78), a PASS item as received. -/
def sentFrame (b : ItemBody) : Frame :=
  match b with
  | .pass f => f
  | .protect _ aad payload tag => withFcs (aad ++ payload ++ (tag.map (bytesOfBits 16)).getD [])
  | .verify _ _ _ _ _ => []

/-- The counter a sent item advances (R99). -/
def OutCounters.sent (c : OutCounters) (it : Item) : OutCounters :=
  match it.body with
  | .protect _ _ _ _ =>
    { c with protectedSent := count48 c.protectedSent 1, campusBytes := count48 c.campusBytes it.length }
  | _ => { c with clearSent := count48 c.clearSent 1, campusBytes := count48 c.campusBytes it.length }

/-- The head of the outbound list can be sent: face up, transmitter idle, credit above 0 (R99). -/
def Link.canSend (k : Link) : Bool := k.campus.up && decide (k.campus.tx = .idle) && decide (0 < k.pacer.credit)

/-- The head is sent on the campus face: the transmitter becomes busy, the pacer is charged, the counters advance
(R99, R143). -/
def Link.sendOut (k : Link) (it : Item) : Link :=
  { k with
    outList := k.outList.tail
    campus := { k.campus with tx := .data (sentFrame it.body) }
    pacer := { k.pacer with credit := k.pacer.credit - wireBits it.length }
    outCount := k.outCount.sent it }

/-- The head is discarded with the campus face down (R100). -/
def Link.discardOut (k : Link) : Link :=
  { k with outList := k.outList.tail,
           outCount := { k.outCount with faceDown := count48 k.outCount.faceDown 1 } }

/-- The release of link `l`'s outbound head, where it is DONE and can be sent or finds the campus face down (R99,
R100). -/
def releaseOutbound (l : LinkNo) (s : State) : State :=
  match (s.link l).outList with
  | [] => s
  | it :: _ =>
    if it.state = .done then
      if (s.link l).canSend then drainCheck l (itemLeft it (s.modLink l fun k => k.sendOut it))
      else if (s.link l).campus.up then s
      else drainCheck l (itemLeft it (s.modLink l Link.discardOut))
    else s

/-- OUTBOUND_RELEASE (R99). -/
def execOutboundRelease (link : LinkNo) (s : State) : Host.Outcome State Fault Refusal :=
  .next (unlessHeld (releaseOutbound link) s)

end Sys2Proof.Machine
end

