-- ==== Sys2Proof/Machine/Inbound.lean ====
section
/-! DEFINITION. The inbound path: recognition and parsing of envelopes (section 4.4), the verifier's examination at the
grant, the replay test and window, and release onto the rack face (chapter 6). -/

namespace Sys2Proof.Machine

/-! ### Recognition and parse (R79, R80, R82) -/

/-- Where an enveloped frame's header begins, with whether a clear tag stands before it; none for a clear frame
(R79). -/
def recognise (envelopeType : Nat) (f : Frame) : Option Bool :=
  if frameType f = envelopeType then some false
  else if frameType f = 0x8100 ∧ innerType f = envelopeType then some true
  else none

/-- What the header of a well-parsed frame gives the lookup (R82). -/
structure Parsed where
  streamId : Nat
  phase : SlotNo
  fn : Nat
  tagClear : Bool
deriving DecidableEq, Repr

/-- The causes of a bad header, in the order of the checks (R80). -/
inductive BadHeader where
  | short
  | version
  | flags
  | tagFlag
  | frameNumber
deriving DecidableEq, Repr

/-- The header parsed, or the first check it fails (R80). -/
def parseHeader (f : Frame) (tagClear : Bool) : Except BadHeader Parsed :=
  let h := clearBytes tagClear
  let flags := byteAt f (h + 3)
  if f.length < 92 then .error .short
  else if byteAt f (h + 2) ≠ 0x01 then .error .version
  else if 4 ≤ flags then .error .flags
  else if decide (flags / 2 % 2 = 1) ≠ tagClear then .error .tagFlag
  else if numAt f (h + 6) 6 = 0 then .error .frameNumber
  else
    .ok { streamId := numAt f (h + 4) 2, phase := if flags % 2 = 1 then 1 else 0, fn := numAt f (h + 6) 6,
          tagClear := tagClear }

/-- Where the ciphertext of an enveloped frame begins: after the header (R82). -/
def cipherStart (tagClear : Bool) : Nat := clearBytes tagClear + 12

/-- The associated data of an enveloped frame: bytes 1 to 24, or 1 to 28 with a clear tag (R82). -/
def openAad (f : Frame) (tagClear : Bool) : List Byte := f.take (cipherStart tagClear)

/-- Its ciphertext: from the byte after the header to the byte before the last 20 (R82). -/
def openCipher (f : Frame) (tagClear : Bool) : List Byte := (f.take (f.length - 20)).drop (cipherStart tagClear)

/-- Its integrity tag: the 16 bytes before the FCS (R82). -/
def openTag (f : Frame) : BitVec 128 := BitVec.ofNat 128 (natOfBytes ((frameBody f).drop (f.length - 20)))

/-! ### The replay test and window (R112, R118) -/

/-- The bits 0 to W−1 of a bitmap. -/
def windowMask (w : Nat) : BitVec 64 := BitVec.ofNat 64 (2 ^ w - 1)

/-- The replay test of frame number `p` against a slot's Lb, H and M with window size W (R112). -/
def replayPasses (sl : InSlot) (w p : Nat) : Bool :=
  if p < sl.lower then false
  else if sl.highest < p then true
  else if w = 0 then false
  else if w ≤ sl.highest - p then false
  else !sl.bitmap.getLsbD (sl.highest - p)

/-- The window after the delivery of frame number `p` (R118). -/
def InSlot.windowUpdated (sl : InSlot) (w p : Nat) : InSlot :=
  if sl.highest < p then
    { sl with
      highest := p
      bitmap := if w ≤ p - sl.highest then 1 &&& windowMask w
                else (sl.bitmap <<< (p - sl.highest) ||| 1) &&& windowMask w }
  else { sl with bitmap := sl.bitmap ||| BitVec.ofNat 64 (2 ^ (sl.highest - p)) }

/-! ### The grant (R108) -/

/-- The open inbound stream of a link with a stream id (R110). -/
def lookupStream (s : State) (l : LinkNo) (streamId : Nat) : Option StreamNo :=
  (List.finRange 64).find? fun i =>
    (s.inStream i).isOpen && decide ((s.inStream i).link = l) && (s.inStream i).streamId == streamId

/-- A slot the verifier can take a frame under: READY, ACTIVE or GRACE (R111). -/
def InSlotState.usable : InSlotState → Bool
  | .ready | .active | .grace => true
  | .empty | .loading | .draining => false

/-- The VERIFY item of a parsed frame (R114). -/
def verifyItem (l : LinkNo) (n : LaneNo) (i : StreamNo) (p : Parsed) (f : Frame) : Item :=
  { dir := .inn, link := l
    body := .verify { stream := i, slot := p.phase, fn := p.fn, tagClear := p.tagClear } (openAad f p.tagClear)
      (openCipher f p.tagClear) (openTag f) none
    length := f.length
    state := .onLane n }

/-- Step 7 of R108: the item joins the list on its lane and the slot counts it (R114). -/
def startVerify (l : LinkNo) (n : LaneNo) (i : StreamNo) (p : Parsed) (f : Frame) (s : State) : State :=
  let secret := (s.inSlot i p.phase).secret.getD { key := 0, salt := 0 }
  ((s.modLink l fun k => { k with inList := k.inList ++ [verifyItem l n i p f] }).setLane n
      (.verify l secret (nonceOf secret.salt p.fn))).modInSlot i p.phase fun sl =>
    { sl with inFlight := sl.inFlight + 1 }

/-- Steps 4 to 7 of R108 on a stream that lookup has found: slot selection (R111), key read (R27, R28), replay
pre-check (R113), VERIFY item (R114). -/
def examineStream (l : LinkNo) (n : LaneNo) (read : KeyRead) (i : StreamNo) (p : Parsed) (f : Frame) (s : State) :
    State :=
  if ¬ (s.inSlot i p.phase).state.usable then
    s.modIn i fun st => { st with noKeyDiscards := count48 st.noKeyDiscards 1 }
  else if read = .uncorrectable then inStoreError i p.phase s
  else if replayPasses (s.inSlot i p.phase) (s.inStream i).window p.fn then
    startVerify l n i p f (noteCorrection read s)
  else (noteCorrection read s).modIn i fun st => { st with replayDiscards := count48 st.replayDiscards 1 }

/-- Steps 1 to 7 of R108 on the head frame of link `l`'s inbound queue. -/
def examineIn (l : LinkNo) (n : LaneNo) (read : KeyRead) (f : Frame) (s : State) : State :=
  match recognise s.envelopeType f with
  | none =>
    if (s.link l).settings.clearIn = .passClear then
      s.modLink l fun k => { k with inList := k.inList ++ [passItem .inn l f] }
    else countIn l (fun c => { c with clearDiscards := count48 c.clearDiscards 1 }) s
  | some tagClear =>
    match parseHeader f tagClear with
    | .error _ => countIn l (fun c => { c with badHeader := count48 c.badHeader 1 }) s
    | .ok p =>
      match lookupStream s l p.streamId with
      | none => countIn l (fun c => { c with unknownStream := count48 c.unknownStream 1 }) s
      | some i => examineStream l n read i p f s

/-- A grant of lane `n` to the inbound queue of link `l` (R95, R108); a DRAINING link that this leaves empty enters
OFF (R134). -/
def grantInbound (l : LinkNo) (n : LaneNo) (read : KeyRead) (s : State) : State :=
  match (s.link l).inQueue with
  | [] => s
  | f :: _ =>
    drainCheck l (examineIn l n read f (s.modLink l fun k => { k with inQueue := k.inQueue.tail }))

/-- INBOUND_GRANT: the arbiter's next grant, where it goes to an inbound queue (R91, R92, R95). -/
def execInboundGrant (read : KeyRead) (s : State) : Host.Outcome State Fault Refusal :=
  .next (unlessHeld (fun s =>
    match nextGrant s with
    | some (.traffic r, n) =>
      if r.1 < 4 then s else grantInbound (requesterLink r) n read (noteTrafficGrant r s)
    | _ => s) s)

/-! ### Release (R101, R116 to R120) -/

/-- The frame rebuilt from a verified item: addresses, clear tag if it had one, plaintext, a new FCS (R83). -/
def rebuiltFrame (ref : KeyRef) (aad plain : List Byte) : Frame := withFcs (aad.take (clearBytes ref.tagClear) ++ plain)

/-- An integrity failure counted, with the alert at every threshold reached (R116 step 1, R124). -/
def countIntegrityFailure (i : StreamNo) (s : State) : State :=
  let st := s.inStream i
  let s1 := s.modIn i fun st => { st with integrityFailures := count48 st.integrityFailures 1 }
  if st.threshold = 0 then s1
  else if st.threshold ≤ st.failures + 1 then
    raise .integrityAlert (.inStream i) (s1.modIn i fun st => { st with failures := 0 })
  else s1.modIn i fun st => { st with failures := st.failures + 1 }

/-- The ACTIVE other slot at a flip: into GRACE, or out of service where the stream's grace is 0 (R120). -/
def sendToGrace (i : StreamNo) (k : SlotNo) (s : State) : State :=
  if (s.inStream i).grace = 0 then leaveInSlot i k s
  else s.modInSlot i k fun sl => { sl with state := .grace, grace := (s.inStream i).grace }

/-- The slot selector flip at a delivery under a READY slot `k` (R120). -/
def flipSelector (i : StreamNo) (k : SlotNo) (s : State) : State :=
  let s1 := s.modInSlot i k fun sl => { sl with state := .active }
  if (s.inSlot i (otherSlot k)).state = .active then
    raise .peerSwitched (.inStream i) (sendToGrace i (otherSlot k) s1)
  else s1

/-- A delivery under slot `k` of in-stream `i` (R118 to R120): window, counters, the rack face's transmitter, flip. -/
def deliver (l : LinkNo) (ref : KeyRef) (frame : Frame) (s : State) : State :=
  let sl := s.inSlot ref.stream ref.slot
  let s1 := s.modInSlot ref.stream ref.slot fun sl => sl.windowUpdated (s.inStream ref.stream).window ref.fn
  let s2 := s1.modIn ref.stream fun st => { st with delivered := count48 st.delivered 1 }
  let s3 := s2.modLink l fun k =>
    { k with
      rack := { k.rack with tx := .data frame }
      inCount := { k.inCount with delivered := count48 k.inCount.delivered 1,
                                  rackBytes := count48 k.inCount.rackBytes frame.length } }
  if sl.state = .ready then flipSelector ref.stream ref.slot s3 else s3

/-- The verifier's judgement of a DONE VERIFY head with the rack face up: integrity, final check, delivery (R116). -/
def judgeVerify (l : LinkNo) (ref : KeyRef) (aad : List Byte) (result : Option (Option (List Byte))) (s : State) :
    State :=
  match result with
  | some (some plain) =>
    if replayPasses (s.inSlot ref.stream ref.slot) (s.inStream ref.stream).window ref.fn then
      deliver l ref (rebuiltFrame ref aad plain) s
    else s.modIn ref.stream fun st => { st with replayDiscards := count48 st.replayDiscards 1 }
  | _ => countIntegrityFailure ref.stream s

/-- A DONE inbound head taken with the rack face up, before its slot count goes down (R101). -/
def judgeHead (l : LinkNo) (it : Item) (s : State) : State :=
  match it.body with
  | .pass f =>
    s.modLink l fun k =>
      { k with
        rack := { k.rack with tx := .data f }
        inCount := { k.inCount with clearPassed := count48 k.inCount.clearPassed 1,
                                    rackBytes := count48 k.inCount.rackBytes f.length } }
  | .verify ref aad _ _ result => judgeVerify l ref aad result s
  | .protect _ _ _ _ => s

/-- The inbound head may be taken: rack face up, transmitter idle, no pause owed (R88, R101). -/
def Link.canDeliver (k : Link) : Bool := k.rack.up && decide (k.rack.tx = .idle) && !k.pauseOwed

/-- The head leaves the inbound list. -/
def Link.dropInHead (k : Link) : Link := { k with inList := k.inList.tail }

/-- The head is discarded with the rack face down (R100). -/
def Link.discardIn (k : Link) : Link :=
  { k.dropInHead with inCount := { k.inCount with faceDown := count48 k.inCount.faceDown 1 } }

/-- The release of link `l`'s inbound head (R101). -/
def releaseInbound (l : LinkNo) (s : State) : State :=
  match (s.link l).inList with
  | [] => s
  | it :: _ =>
    if it.state = .done then
      if (s.link l).canDeliver then drainCheck l (itemLeft it (judgeHead l it (s.modLink l Link.dropInHead)))
      else if (s.link l).rack.up then s
      else drainCheck l (itemLeft it (s.modLink l Link.discardIn))
    else s

/-- INBOUND_RELEASE (R101). -/
def execInboundRelease (link : LinkNo) (s : State) : Host.Outcome State Fault Refusal :=
  .next (unlessHeld (releaseInbound link) s)

end Sys2Proof.Machine
end

