-- ==== Sys2Proof/Machine/Keys.lean ====
section
/-! DEFINITION. The key preparation unit at its lane: the grant and the completion of a load job (section 1.4). -/

namespace Sys2Proof.Machine

/-- The associated data of the unwrap: direction, stream number and slot (R20). -/
def Job.aad (j : Job) : List Byte :=
  [if j.range.dir = .out then 0x00 else 0x01, BitVec.ofNat 8 j.stream.1, BitVec.ofNat 8 j.slot.1]

/-- Key and salt read from an unwrapped plaintext: its first 32 bytes and its last 4 (R20). -/
def secretOf (plain : List Byte) : Secret :=
  { key := BitVec.ofNat 256 (natOfBytes (plain.take 32)),
    salt := BitVec.ofNat 32 (natOfBytes ((plain.drop 32).take 4)) }

/-- The first 4 bytes of the encryption of 16 zero bytes under a key (R20). -/
def checkValue (key : BitVec 256) : BitVec 32 := (Config.aesBlock key 0).extractLsb' 96 32

/-- The result of a load job under the key-wrap key read at its grant, with the key and salt of an OK result (R20). -/
def Job.outcome (j : Job) (kwk : BitVec 256) : LoadResult × Option Secret :=
  if j.cancelled then (.cancelled, none)
  else
    match Config.gcmOpen kwk j.nonce j.aad j.wrapped j.tag with
    | none => (.unwrapFailed, none)
    | some plain =>
      let secret := secretOf plain.toList
      if checkValue secret.key = j.check then (.ok, some secret) else (.checkFailed, none)

/-- An outbound slot as a successful load leaves it, READY (R21). -/
def OutSlot.loaded (secret : Secret) (initial soft hard : Nat) (kind : LifetimeKind) (limit warning : Nat) : OutSlot :=
  { state := .ready, secret := some secret, initialFn := initial, nextFn := initial, soft := soft, hard := hard,
    lifetimeKind := kind, limit := if kind = .none then 0 else limit, warning := if kind = .none then 0 else warning,
    accrued := 0, rekeyRaised := false, inFlight := 0, lastLoad := .ok }

/-- An inbound slot as a successful load leaves it, READY with H = Lb−1 (R21). -/
def InSlot.loaded (secret : Secret) (lower : Nat) : InSlot :=
  { state := .ready, secret := some secret, lower := lower, highest := lower - 1, bitmap := 0, grace := 0,
    inFlight := 0, lastLoad := .ok }

/-- A job ends with result OK: key, salt and limits installed, KEY_READY raised, and an outbound slot acted on by its
stream (R21, R22). -/
def installLoad (j : Job) (secret : Secret) (s : State) : State :=
  match j.range with
  | .out initial soft hard kind limit warning =>
    outSlotReady j.stream j.slot
      (raise .keyReady (.outStream j.stream)
        (s.modOutSlot j.stream j.slot fun _ => OutSlot.loaded secret initial soft hard kind limit warning))
  | .inn lower =>
    raise .keyReady (.inStream j.stream) (s.modInSlot j.stream j.slot fun _ => InSlot.loaded secret lower)

/-- The slot of a job enters EMPTY with a last load result (R23, R25). -/
def emptyLoading (j : Job) (r : LoadResult) (s : State) : State :=
  match j.range.dir with
  | .out => s.modOutSlot j.stream j.slot fun _ => OutSlot.empty r
  | .inn => s.modInSlot j.stream j.slot fun _ => InSlot.empty r

/-- An outbound stream's pending switch to this slot is dropped (R23, R25, R47). -/
def dropPending (j : Job) (s : State) : State :=
  match j.range.dir with
  | .out =>
    s.modOut j.stream fun st =>
      { st with pendingSwitch := if st.pendingSwitch = some j.slot then none else st.pendingSwitch }
  | .inn => s

/-- The notice member of a job's stream. -/
def Job.member (j : Job) : NoticeMember :=
  match j.range.dir with
  | .out => .outStream j.stream
  | .inn => .inStream j.stream

/-- A job ends UNWRAP_FAILED or CHECK_FAILED: the slot EMPTY, LOAD_FAILED, the pending switch dropped (R23). -/
def failLoad (j : Job) (r : LoadResult) (s : State) : State :=
  raise .loadFailed j.member (dropPending j (emptyLoading j r s))

/-- A job's end at its slot, by its result (R21, R23, R25). A CANCELLED end also drops a pending switch that a KEY_SWITCH
set after the cancel, because a pending switch names a LOADING slot (R47; DEDUCED, log entry 22). -/
def endJob (j : Job) (r : LoadResult) (secret : Option Secret) (s : State) : State :=
  match r, secret with
  | .ok, some sec => installLoad j sec s
  | .cancelled, _ => dropPending j (emptyLoading j .cancelled s)
  | r, _ => failLoad j r s

/-- A grant of lane `n` to the key preparation unit (R19): the head job becomes WORKING with the key-wrap key read now,
or ends UNWRAP_FAILED and returns the lane where the store is empty. -/
def grantKeyUnit (n : LaneNo) (s : State) : State :=
  match s.keyUnit.jobs with
  | [] => s
  | j :: _ =>
    match s.kwk with
    | some key => ({ s with keyUnit := { s.keyUnit with working := some n } }).setLane n (.job key)
    | none => removeHeadJob (endJob j .unwrapFailed none s)

/-- KEY_PREPARATION_GRANT: the arbiter's next grant, where it goes to the key preparation unit (R19, R92). -/
def execKeyPreparationGrant (s : State) : Host.Outcome State Fault Refusal :=
  .next (unlessHeld (fun s =>
    match nextGrant s with
    | some (.keyUnit, n) => grantKeyUnit n (resetCount s)
    | _ => s) s)

/-- The completion of the WORKING job on lane `n` (R20): its result fixed, the lane FREE, the job gone from the
queue. -/
def completeJob (n : LaneNo) (j : Job) (s : State) : State :=
  match s.lanes.get n with
  | .job kwk => removeHeadJob (endJob j (j.outcome kwk).1 (j.outcome kwk).2 (s.setLane n .free))
  | _ => s

/-- KEY_JOB_COMPLETION (R20). With no job WORKING there is none. -/
def execKeyJobCompletion (s : State) : Host.Outcome State Fault Refusal :=
  .next (unlessHeld (fun s =>
    match s.keyUnit.working, s.keyUnit.jobs with
    | some n, j :: _ => completeJob n j s
    | _, _ => s) s)

end Sys2Proof.Machine
end

