-- ==== Sys2Proof/Machine/Requests.lean ====
section
/-! DEFINITION. What every request shares: taking it, the order of refusals, mode admission and the reply (sections 10.2
and 10.3). -/

namespace Sys2Proof.Machine

/-- A refusal: class code and detail code (R183). -/
structure ReqRefusal where
  classCode : Nat
  detail : Nat
deriving DecidableEq, Repr

/-- BAD_PARAMETER with a detail code of Table 10-2. -/
def badParameter (detail : Nat) : ReqRefusal := ⟨0x04, detail⟩
/-- WRONG_STATE with a detail code of Table 10-3. -/
def wrongState (detail : Nat) : ReqRefusal := ⟨0x05, detail⟩
/-- NO_ROOM 0x01: the load queue is full. -/
def noRoom : ReqRefusal := ⟨0x06, 0x01⟩
/-- MALFORMED. -/
def malformed : ReqRefusal := ⟨0x01, 0x00⟩
/-- UNKNOWN. -/
def unknownCode : ReqRefusal := ⟨0x02, 0x00⟩
/-- ALARMED. -/
def alarmed : ReqRefusal := ⟨0x03, 0x00⟩

/-- What an admitted, well-formed request comes to: a refusal, which changes no state, or its answer (none for DONE,
the content for DATA) with the state its effect leaves. -/
abbrev Answer := Except ReqRefusal (Option ReplyContent × State)

/-- An answer of DONE. -/
def answerDone (s : State) : Answer := .ok (none, s)
/-- An answer of DATA with these bytes. -/
def answerBytes (data : List Byte) (s : State) : Answer := .ok (some (.bytes data), s)
/-- A refusal. -/
def refuse (r : ReqRefusal) : Answer := .error r

/-- The checks of a request in their order: the first that fails refuses (R183). -/
def firstFailing : List (Bool × ReqRefusal) → Option ReqRefusal
  | [] => none
  | (fails, r) :: rest => if fails then some r else firstFailing rest

/-- An answer behind its checks. -/
def checked (checks : List (Bool × ReqRefusal)) (a : Answer) : Answer :=
  match firstFailing checks with
  | some r => .error r
  | none => a

/-- One request of Table 10-4: its code, which parameters' length fits, and what it comes to. -/
structure Request where
  code : Byte
  fits : List Byte → Bool
  judge : List Byte → State → Answer

/-- A body of `n` bytes, the request code among them, fits (Table 10-4). -/
def lenIs (n : Nat) (ps : List Byte) : Bool := ps.length + 1 == n

/-- The requests ALARM admits (R185). -/
def alarmAdmits : List Byte :=
  [0x01, 0x02, 0x03, 0x04, 0x06, 0x24, 0x25, 0x32, 0x42, 0x56, 0x63, 0x05, 0x50, 0x51, 0x52, 0x62, 0x60, 0x61]

/-- The refusal at step 3 of R183, where the mode does not admit the request (R185). -/
def modeRefusal (m : Mode) (code : Byte) : Option ReqRefusal :=
  match m with
  | .running => none
  | .starting => if [0x01, 0x02, 0x03].contains code then none else some (wrongState 0x01)
  | .failed => if [0x01, 0x02, 0x03, 0x63, 0x60].contains code then none else some (wrongState 0x02)
  | .alarm => if alarmAdmits.contains code then none else some alarmed

/-- A REFUSED reply (R181). -/
def refusedReply (code : Byte) (r : ReqRefusal) : Reply :=
  { kind := .refused, code := code, content := .bytes (bytesOfNat 1 r.classCode ++ bytesOfNat 1 r.detail) }

/-- The reply an answer gives: DONE with the request code alone, or DATA (R181). -/
def answerReply (code : Byte) : Option ReplyContent → Reply
  | none => { kind := .done, code := code, content := .bytes [] }
  | some c => { kind := .data, code := code, content := c }

/-! ### The reply record (Table 10-1, R181) -/

/-- The kind in bits 7–5 of HEAD: 100 DONE, 101 DATA, 110 REFUSED (Table 10-1). -/
def ReplyKind.headBits : ReplyKind → Byte
  | .done => 0x80
  | .data => 0xA0
  | .refused => 0xC0

/-- HEAD of a reply: its kind, bits 4–3 zero, and the address of the part that answers (Table 10-1). -/
def replyHead (kind : ReplyKind) (address : BitVec 3) : Byte := kind.headBits ||| address.setWidth 8

/-- What follows the request code in a reply, as bytes. -/
def ReplyContent.data : ReplyContent → List Byte
  | .bytes data => data
  | .outStream view => (Config.outStreamLayout view).2.toList
  | .inStream view => (Config.inStreamLayout view).2.toList

/-- BODY of a reply: the request code, then the content (R181). -/
def Reply.body (r : Reply) : List Byte := r.code :: r.content.data

/-- A reply as the record the part drives on the pair: LEAD, HEAD, LEN, BODY, CHECK (Table 10-1, R181). -/
def Reply.record (address : BitVec 3) (r : Reply) : List Byte := recordBytes (replyHead r.kind address) r.body

/-- The reply record that is owed or being sent: what the host reads on the pair (R181). -/
def replyOnLine (s : State) : Option (List Byte) := s.line.reply.map (Reply.record s.address)

/-- The reply is owed from here, and the assembly is in HUNT (R179, R181). -/
def setReply (r : Reply) (s : State) : State := s.modLine fun ln => { ln with assembly := .hunt, reply := some r }

/-- The judgement of a request by the refusal classes in order: MALFORMED, mode, then its own checks (R183). -/
def judgement (r : Request) (ps : List Byte) (s : State) : Answer :=
  if ¬ r.fits ps then .error malformed
  else
    match modeRefusal s.mode r.code with
    | some e => .error e
    | none => r.judge ps s

/-- A request taken: judged, its effect made, its reply fixed, all in one event; a refused request changes no state
(R180, R181, R183). -/
def answerRequest (r : Request) (ps : List Byte) (s : State) : State :=
  match judgement r ps s with
  | .error e => setReply (refusedReply r.code e) s
  | .ok (content, s1) => setReply (answerReply r.code content) s1

/-- Bytes that arrive between a taken request and the end of its reply: discarded and counted as overlap (R181). -/
def countOverlap (n : Nat) (s : State) : State :=
  s.modLine fun ln => { ln with overlap := count16 ln.overlap n }

/-- A record whose LEN is `len` arrives whole: held in reset the part receives nothing; with a reply owed or being sent
each of its bytes is an overlap byte; otherwise it is judged by `f` (R166, R181; log entry 7). -/
def recordArrives (len : Nat) (f : State → State) (s : State) : State :=
  if s.resetHeld.isSome then s
  else if s.line.reply.isSome then countOverlap (recordLength len) s
  else f s

/-- A request record to this part arrives (R180, R181). -/
def takeRequest (r : Request) (ps : List Byte) (s : State) : State :=
  recordArrives (ps.length + 1) (answerRequest r ps) s

/-- A request whose code is not in Table 10-4: REFUSED UNKNOWN, whatever its length and the mode (R183). -/
def answerUnknown (code : Byte) (s : State) : State := setReply (refusedReply code unknownCode) s

end Sys2Proof.Machine
end

