-- ==== Sys2Proof/Machine/StatusRequests.lean ====
section
/-! DEFINITION. The status requests, the notice requests and DEVICE_SETUP (R74, R186 to R188, R192, R193). -/

namespace Sys2Proof.Machine

/-- Device mode as POLL encodes it (R186). -/
def Mode.encoded : Mode → Nat
  | .starting => 0
  | .running => 1
  | .alarm => 2
  | .failed => 3

/-- Reset cause as READ_STATUS encodes it (R187). -/
def ResetKind.encoded : ResetKind → Nat
  | .powerOn => 0
  | .pin => 1
  | .restart => 2

/-- Direction as requests and records encode it. -/
def dirCode : Dir → Nat
  | .out => 0
  | .inn => 1

/-! ### POLL and IDENTIFY (R186) -/

/-- POLL's content: the mode and the pending-kind set. -/
def pollData (s : State) : List Byte := bytesOfNat 1 s.mode.encoded ++ bytesOfNat 2 (pendingKinds s)

/-- POLL. -/
def reqPoll : Request :=
  { code := 0x01, fits := lenIs 1, judge := fun _ s => answerBytes (pollData s) s }

/-- POLL (R186). -/
def execPoll (ps : List Byte) (s : State) : Host.Outcome State Fault Refusal := .next (takeRequest reqPoll ps s)

/-- IDENTIFY's content: identity, address, rate, capacities. -/
def identifyData (s : State) : List Byte :=
  bytesOfNat 2 Config.vendorCode ++ bytesOfNat 2 Config.partCode ++ bytesOfNat 1 Config.revision ++
    bytesOfBits 1 s.address ++ flagByte s.rateHigh ++ [4, 8, 64, 128, 8, 4, 15]

/-- IDENTIFY. -/
def reqIdentify : Request :=
  { code := 0x02, fits := lenIs 1, judge := fun _ s => answerBytes (identifyData s) s }

/-- IDENTIFY (R186). -/
def execIdentify (ps : List Byte) (s : State) : Host.Outcome State Fault Refusal :=
  .next (takeRequest reqIdentify ps s)

/-! ### READ_STATUS (R187) -/

/-- The key store error record in 4 bytes: occupied, then direction, stream and slot. -/
def storeErrorData (e : Option (Dir × StreamNo × SlotNo)) : List Byte :=
  match e with
  | some (d, i, k) => [1] ++ bytesOfNat 1 (dirCode d) ++ bytesOfNat 1 i.1 ++ bytesOfNat 1 k.1
  | none => [0, 0, 0, 0]

/-- READ_STATUS' content, 17 bytes. That the time valid flag reads as 1 or 0 is log entry 8. -/
def statusData (s : State) : List Byte :=
  bytesOfNat 1 s.mode.encoded ++ bytesOfNat 1 s.resetCause.encoded ++ [s.lanesEnabled, s.lanesFailed] ++
    flagByte s.kwk.isSome ++ flagByte s.tamperAsserted ++ flagByte s.time.valid ++ bytesOfNat 2 s.envelopeType ++
    bytesOfNat 1 s.arbiter.rotation ++ bytesOfNat 1 (linkStateByte s) ++ [faceStatus s] ++
    bytesOfNat 1 s.keyUnit.jobs.length ++ storeErrorData s.storeError

/-- READ_STATUS: the status, and the key store error record emptied (R28, R187). -/
def reqReadStatus : Request :=
  { code := 0x03, fits := lenIs 1, judge := fun _ s => answerBytes (statusData s) { s with storeError := none } }

/-- READ_STATUS (R187). -/
def execReadStatus (ps : List Byte) (s : State) : Host.Outcome State Fault Refusal :=
  .next (takeRequest reqReadStatus ps s)

/-! ### READ_NOTICES and NOTICE_SETUP (R192, R193) -/

/-- READ_NOTICES' content for kind `k`, 20 bytes. That the pending flag reads as 1 or 0 is log entry 8. -/
def noticeData (k : Fin 15) (n : Notice) : List Byte :=
  bytesOfNat 1 k.1 ++ flagByte n.pending ++ bytesOfBits 8 n.outs ++ bytesOfBits 8 n.ins ++ bytesOfBits 1 n.triggers ++
    bytesOfBits 1 n.links

/-- The effect of READ_NOTICES on its kind (R193). -/
def clearNotice (k : Fin 15) (s : State) : State :=
  { s with notices := putAt s.notices k (s.notices.get k).cleared }

/-- READ_NOTICES: one kind's flag and sets, then cleared. -/
def reqReadNotices : Request :=
  { code := 0x04, fits := lenIs 2
    judge := fun ps s =>
      let k : Fin 15 := Fin.ofNat 15 (byteAt ps 0)
      checked [(decide (15 ≤ byteAt ps 0), badParameter 0x1C)]
        (answerBytes (noticeData k (s.notices.get k)) (clearNotice k s)) }

/-- READ_NOTICES (R193). -/
def execReadNotices (ps : List Byte) (s : State) : Host.Outcome State Fault Refusal :=
  .next (takeRequest reqReadNotices ps s)

/-- The enables and attention masks written, kind k from bit k (R192). -/
def setupNotices (enables attention : Nat) (v : Vector Notice 15) : Vector Notice 15 :=
  (List.finRange 15).foldl
    (fun v k => putAt v k { v.get k with enabled := enables.testBit k.1, attention := attention.testBit k.1 }) v

/-- NOTICE_SETUP: enables, attention masks and the link-change mask. -/
def reqNoticeSetup : Request :=
  { code := 0x05, fits := lenIs 6
    judge := fun ps s =>
      checked [((numAt ps 0 2).testBit 15 || (numAt ps 2 2).testBit 15, badParameter 0x1C)]
        (answerDone
          { s with notices := setupNotices (numAt ps 0 2) (numAt ps 2 2) s.notices,
                   linkChangeMask := ps.getD 4 0 }) }

/-- NOTICE_SETUP (R192). -/
def execNoticeSetup (ps : List Byte) (s : State) : Host.Outcome State Fault Refusal :=
  .next (takeRequest reqNoticeSetup ps s)

/-! ### READ_COUNTERS (R188) -/

/-- 48-bit counters as READ_COUNTERS gives them, 6 bytes each. -/
def counterBytes (cs : List Nat) : List Byte := cs.flatMap (bytesOfNat 6)

/-- Table 5-2's counters in that table's order. -/
def OutCounters.inOrder (c : OutCounters) : List Nat :=
  [c.accepted, c.queueFull, c.classifier, c.oversize, c.protectedSent, c.clearSent, c.campusBytes, c.faceDown, c.stop,
   c.pauseAssertions]

/-- The inbound link counters in R188's order. -/
def InCounters.inOrder (c : InCounters) : List Nat :=
  [c.accepted, c.queueFull, c.badHeader, c.unknownStream, c.clearDiscards, c.clearPassed, c.delivered, c.rackBytes,
   c.faceDown, c.stop]

/-- Table 7-2's counters in that table's order. -/
def FaceCounters.inOrder (c : FaceCounters) : List Nat :=
  [c.rackErrors, c.campusErrors, c.rackOff, c.campusOff, c.rackStopping, c.campusStopping]

/-- The counters of a scope as the reply gives them (R188): of link `l` for scopes 1 to 3, of stream `i` for scopes 4
and 5. -/
def scopeBytes (s : State) (scope : Nat) (l : LinkNo) (i : StreamNo) : List Byte :=
  match scope with
  | 0 =>
    counterBytes [s.storeCorrections, s.storeDiscards, s.time.outOfWindow] ++
      [s.line.broken, s.line.framing, s.line.check, s.line.overlap].flatMap (bytesOfNat 2)
  | 1 => counterBytes (s.link l).outCount.inOrder
  | 2 => counterBytes (s.link l).inCount.inOrder
  | 3 => counterBytes (s.link l).faceCount.inOrder
  | 4 =>
    counterBytes [(s.outStream i).protectedFrames, (s.outStream i).protectedBytes, (s.outStream i).noKeyDiscards]
  | _ =>
    counterBytes [(s.inStream i).delivered, (s.inStream i).integrityFailures, (s.inStream i).replayDiscards,
      (s.inStream i).noKeyDiscards]

/-- Every counter of a scope set to 0 (R188). -/
def zeroScope (scope : Nat) (l : LinkNo) (i : StreamNo) (s : State) : State :=
  match scope with
  | 0 =>
    { s with storeCorrections := 0, storeDiscards := 0, time := { s.time with outOfWindow := 0 },
             line := { s.line with broken := 0, framing := 0, check := 0, overlap := 0 } }
  | 1 => s.modLink l fun k => { k with outCount := OutCounters.zero }
  | 2 => s.modLink l fun k => { k with inCount := InCounters.zero }
  | 3 => s.modLink l fun k => { k with faceCount := FaceCounters.zero }
  | 4 => s.modOut i fun st => { st with protectedFrames := 0, protectedBytes := 0, noKeyDiscards := 0 }
  | _ =>
    s.modIn i fun st => { st with delivered := 0, integrityFailures := 0, replayDiscards := 0, noKeyDiscards := 0 }

/-- READ_COUNTERS: scope, index and the scope's counters, which the zero flag then zeroes. The index in the reply is the
request's own byte; that scope 0, for which it is not read, gives it back as well is log entry 24. -/
def reqReadCounters : Request :=
  { code := 0x06, fits := lenIs 4
    judge := fun ps s =>
      let scope := byteAt ps 0
      checked
        [(decide (5 < scope), badParameter 0x04),
         (decide (1 ≤ scope) && decide (scope ≤ 3) && decide (4 ≤ byteAt ps 1), badParameter 0x01),
         (decide (4 ≤ scope) && decide (64 ≤ byteAt ps 1), badParameter 0x02)]
        (answerBytes (bytesOfNat 1 scope ++ bytesOfNat 1 (byteAt ps 1) ++ scopeBytes s scope (linkAt ps 1) (streamAt ps 1))
          (if byteAt ps 2 = 0 then s else zeroScope scope (linkAt ps 1) (streamAt ps 1) s)) }

/-- READ_COUNTERS (R188). -/
def execReadCounters (ps : List Byte) (s : State) : Host.Outcome State Fault Refusal :=
  .next (takeRequest reqReadCounters ps s)

/-! ### DEVICE_SETUP (R74) -/

/-- Some link is LIVE or DRAINING (R74). -/
def anyLinkRuns (s : State) : Bool := s.links.toList.any fun k => decide (k.state ≠ .off)

/-- DEVICE_SETUP: envelope type and rotation. -/
def reqDeviceSetup : Request :=
  { code := 0x10, fits := lenIs 4
    judge := fun ps s =>
      let envelope := numAt ps 0 2
      let rotation := byteAt ps 2
      checked
        [(decide (envelope < 0x0600) || envelope == 0x8100, badParameter 0x19),
         (decide (rotation = 0) || decide (7 < rotation), badParameter 0x1A),
         (anyLinkRuns s, wrongState 0x03)]
        (answerDone { s with envelopeType := envelope, arbiter := { s.arbiter with rotation := rotation } }) }

/-- DEVICE_SETUP (R74). -/
def execDeviceSetup (ps : List Byte) (s : State) : Host.Outcome State Fault Refusal :=
  .next (takeRequest reqDeviceSetup ps s)

end Sys2Proof.Machine
end

