-- ==== Sys2Proof/Machine/DeviceRequests.lean ====
section
/-! DEFINITION. The start-up and alarm requests: RESTART, ZEROIZE, ALARM_CLEAR and READ_RETAINED (R172 to R174, R176). -/

namespace Sys2Proof.Machine

/-- RESTART: DONE first; the reset begins at the end of the reply. -/
def reqRestart : Request :=
  { code := 0x60, fits := lenIs 1
    judge := fun _ s => answerDone (s.modLine fun ln => { ln with restartPending := true }) }

/-- RESTART (R174). -/
def execRestart (ps : List Byte) (s : State) : Host.Outcome State Fault Refusal := .next (takeRequest reqRestart ps s)

/-- The effect of ZEROIZE by mode: ALARM entry in RUNNING, the store emptied in ALARM (R172). -/
def zeroizeEffect (s : State) : State := if s.mode = .running then alarmEntry .request s else { s with kwk := none }

/-- ZEROIZE. -/
def reqZeroize : Request :=
  { code := 0x61, fits := lenIs 1, judge := fun _ s => answerDone (zeroizeEffect s) }

/-- ZEROIZE (R172). -/
def execZeroize (ps : List Byte) (s : State) : Host.Outcome State Fault Refusal := .next (takeRequest reqZeroize ps s)

/-- ALARM_CLEAR. -/
def reqAlarmClear : Request :=
  { code := 0x62, fits := lenIs 1
    judge := fun _ s =>
      checked [(decide (s.mode ≠ .alarm), wrongState 0x14), (s.tamperAsserted, wrongState 0x13)]
        (answerDone { s with mode := .running }) }

/-- ALARM_CLEAR (R173). -/
def execAlarmClear (ps : List Byte) (s : State) : Host.Outcome State Fault Refusal :=
  .next (takeRequest reqAlarmClear ps s)

/-- Last alarm cause as READ_RETAINED encodes it (R176). -/
def alarmCauseCode : AlarmCause → Nat
  | .none => 0
  | .tamper => 1
  | .request => 2

/-- READ_RETAINED's content, 11 bytes (R176). That its three one-bit fields read as 1 or 0 is log entry 8. -/
def retainedData (s : State) : List Byte :=
  flagByte s.retained.valid ++ bytesOfNat 1 s.resetCause.encoded ++ bytesOfNat 1 (alarmCauseCode s.retained.cause) ++
    bytesOfNat 4 s.retained.seconds ++ flagByte s.retained.timeValid ++ [s.retained.lanesFailed] ++
    flagByte s.retained.testFailed ++ bytesOfNat 1 s.retained.alarmCount

/-- READ_RETAINED. -/
def reqReadRetained : Request :=
  { code := 0x63, fits := lenIs 1, judge := fun _ s => answerBytes (retainedData s) s }

/-- READ_RETAINED (R176). -/
def execReadRetained (ps : List Byte) (s : State) : Host.Outcome State Fault Refusal :=
  .next (takeRequest reqReadRetained ps s)

end Sys2Proof.Machine
end

