-- ==== Sys2Proof/Machine/LinkRequests.lean ====
section
/-! DEFINITION. The link requests and the rule list requests (R68 to R71, R129 to R133, R140, R145 to R147). -/

namespace Sys2Proof.Machine

/-! ### LINK_SETUP (R129, R130) -/

/-- DISCARD 0, PASS_CLEAR 1 (R129). -/
def policyOf (v : Nat) : ClearPolicy := if v = 1 then .passClear else .discard
/-- The same encoding, written. -/
def ClearPolicy.encoded : ClearPolicy → Nat
  | .discard => 0
  | .passClear => 1

/-- The settings LINK_SETUP's parameters spell (R129). -/
def settingsOf (ps : List Byte) : LinkSettings :=
  { defaultOut := policyOf (byteAt ps 1), clearIn := policyOf (byteAt ps 2), campusMax := numAt ps 3 2,
    highMark := numAt ps 5 2, lowMark := numAt ps 7 2, rate := numAt ps 9 3, burst := numAt ps 12 3 }

/-- Checks 1 to 8 of R129. -/
def linkSetupChecks (ps : List Byte) (s : State) : List (Bool × ReqRefusal) :=
  let k := s.link (linkAt ps 0)
  let v := settingsOf ps
  [(decide (4 ≤ byteAt ps 0), badParameter 0x01),
   (decide (1 < byteAt ps 1) || decide (1 < byteAt ps 2), badParameter 0x08),
   (decide (v.campusMax < 1550) || decide (9728 < v.campusMax), badParameter 0x0F),
   (decide (v.highMark = 0) || decide (512 < v.highMark) || decide (v.highMark ≤ v.lowMark), badParameter 0x0E),
   (decide (v.rate = 0) || decide (100000 < v.rate) || decide (v.burst < 77984) || decide (16000000 < v.burst),
    badParameter 0x0D),
   (k.ramp.any fun st => decide (v.rate < st.rate), badParameter 0x11),
   (decide (k.state = .live), wrongState 0x03),
   (decide (k.state = .draining), wrongState 0x05)]

/-- LINK_SETUP: the seven settings written and the set-up flag set. -/
def reqLinkSetup : Request :=
  { code := 0x20, fits := lenIs 16
    judge := fun ps s =>
      checked (linkSetupChecks ps s)
        (answerDone (s.modLink (linkAt ps 0) fun k => { k with settings := settingsOf ps, setUp := true })) }

/-- LINK_SETUP (R129, R130). -/
def execLinkSetup (ps : List Byte) (s : State) : Host.Outcome State Fault Refusal :=
  .next (takeRequest reqLinkSetup ps s)

/-! ### RAMP_SET (R145, R146) -/

/-- The stages RAMP_SET's parameters spell. -/
def stagesOf (ps : List Byte) : List Stage :=
  (List.range (byteAt ps 1)).map fun i => { rate := numAt ps (2 + 6 * i) 3, duration := numAt ps (5 + 6 * i) 3 }

/-- LEN equals 3 + 6 × n, and reaches n (R145, R183). -/
def rampFits (ps : List Byte) : Bool := decide (2 ≤ ps.length) && ps.length + 1 == 3 + 6 * byteAt ps 1

/-- The check of one stage: its rate, then its duration (R145 check 3). -/
def stageChecks (committed : Nat) (st : Stage) : List (Bool × ReqRefusal) :=
  [(decide (st.rate = 0) || decide (committed < st.rate), badParameter 0x11),
   (decide (st.duration = 0) || decide (1000000 < st.duration), badParameter 0x12)]

/-- Checks 1 to 7 of R145. -/
def rampSetChecks (ps : List Byte) (s : State) : List (Bool × ReqRefusal) :=
  let k := s.link (linkAt ps 0)
  [(decide (4 ≤ byteAt ps 0), badParameter 0x01), (decide (16 < byteAt ps 1), badParameter 0x10)] ++
    (stagesOf ps).flatMap (stageChecks k.settings.rate) ++
    [(decide (10000000 < ((stagesOf ps).map Stage.duration).sum), badParameter 0x13),
     (decide (k.state = .live), wrongState 0x03),
     (decide (k.state = .draining), wrongState 0x05),
     (!k.setUp, wrongState 0x04)]

/-- RAMP_SET: the whole profile replaced. -/
def reqRampSet : Request :=
  { code := 0x21, fits := rampFits
    judge := fun ps s =>
      checked (rampSetChecks ps s)
        (answerDone (s.modLink (linkAt ps 0) fun k => { k with ramp := stagesOf ps })) }

/-- RAMP_SET (R145, R146). -/
def execRampSet (ps : List Byte) (s : State) : Host.Outcome State Fault Refusal := .next (takeRequest reqRampSet ps s)

/-! ### LINK_START and LINK_STOP (R132, R133) -/

/-- LINK_START. -/
def reqLinkStart : Request :=
  { code := 0x22, fits := lenIs 2
    judge := fun ps s =>
      let k := s.link (linkAt ps 0)
      checked
        [(decide (4 ≤ byteAt ps 0), badParameter 0x01), (decide (k.state = .live), wrongState 0x03),
         (decide (k.state = .draining), wrongState 0x05), (!k.setUp, wrongState 0x04)]
        (answerDone (startLink (linkAt ps 0) s)) }

/-- LINK_START (R132). -/
def execLinkStart (ps : List Byte) (s : State) : Host.Outcome State Fault Refusal :=
  .next (takeRequest reqLinkStart ps s)

/-- The stop of a link by its action, DRAIN 0 or NOW 1 (R133). -/
def stopLink (l : LinkNo) (action : Nat) (s : State) : State :=
  if action = 0 then drainLink l .requestDrain s else stopLinkNow l .requestNow s

/-- LINK_STOP. -/
def reqLinkStop : Request :=
  { code := 0x23, fits := lenIs 3
    judge := fun ps s =>
      checked [(decide (4 ≤ byteAt ps 0), badParameter 0x01), (decide (1 < byteAt ps 1), badParameter 0x08)]
        (answerDone (stopLink (linkAt ps 0) (byteAt ps 1) s)) }

/-- LINK_STOP (R133). -/
def execLinkStop (ps : List Byte) (s : State) : Host.Outcome State Fault Refusal :=
  .next (takeRequest reqLinkStop ps s)

/-! ### READ_LINK and READ_LINK_CHANGES (R140, R147) -/

/-- Stop causes as READ_LINK encodes them (R147). -/
def StopCause.encoded : StopCause → Nat
  | .none => 0
  | .requestDrain => 1
  | .requestNow => 2
  | .triggerDrain => 3
  | .triggerNow => 4
  | .alarm => 5

/-- The settings in the encodings of LINK_SETUP, 14 bytes (R147). -/
def LinkSettings.encoded (v : LinkSettings) : List Byte :=
  bytesOfNat 1 v.defaultOut.encoded ++ bytesOfNat 1 v.clearIn.encoded ++ bytesOfNat 2 v.campusMax ++
    bytesOfNat 2 v.highMark ++ bytesOfNat 2 v.lowMark ++ bytesOfNat 3 v.rate ++ bytesOfNat 3 v.burst

/-- Pacer phase, stage number and microseconds remaining as READ_LINK encodes them (R147). -/
def PacerPhase.encoded : PacerPhase → List Byte
  | .idle => [0, 0] ++ bytesOfNat 3 0
  | .held => [1, 0] ++ bytesOfNat 3 0
  | .ramp k left => [2] ++ bytesOfNat 1 k ++ bytesOfNat 3 left
  | .steady => [3, 0] ++ bytesOfNat 3 0

/-- READ_LINK's content for part 0, 41 bytes (R147). -/
def linkData (l : LinkNo) (k : Link) : List Byte :=
  bytesOfNat 1 l.1 ++ [0] ++ bytesOfNat 1 (linkStateCode k.state) ++ flagByte k.setUp ++
    bytesOfNat 1 k.stopCause.encoded ++ k.settings.encoded ++
    bytesOfNat 1 ((if k.rack.up then 1 else 0) + (if k.campus.up then 2 else 0)) ++
    bytesOfNat 3 (occupancy k.outQueue) ++ bytesOfNat 3 (occupancy k.inQueue) ++ flagByte k.pauseAsserted ++
    bytesOfNat 1 k.outList.length ++ bytesOfNat 1 k.inList.length ++ k.pacer.phase.encoded ++
    bytesOfNat 3 k.pacer.rate ++ bytesOfInt 4 k.pacer.credit

/-- READ_LINK's content for part 1 (R147). -/
def rampData (l : LinkNo) (k : Link) : List Byte :=
  bytesOfNat 1 l.1 ++ [1] ++ bytesOfNat 1 k.ramp.length ++
    k.ramp.flatMap fun st => bytesOfNat 3 st.rate ++ bytesOfNat 3 st.duration

/-- READ_LINK. -/
def reqReadLink : Request :=
  { code := 0x24, fits := lenIs 3
    judge := fun ps s =>
      let l := linkAt ps 0
      checked [(decide (4 ≤ byteAt ps 0), badParameter 0x01), (decide (1 < byteAt ps 1), badParameter 0x04)]
        (answerBytes (if byteAt ps 1 = 0 then linkData l (s.link l) else rampData l (s.link l)) s) }

/-- READ_LINK (R147). -/
def execReadLink (ps : List Byte) (s : State) : Host.Outcome State Fault Refusal :=
  .next (takeRequest reqReadLink ps s)

/-- One entry of the link-change buffer, 11 bytes (R140). That the overwritten mark reads as 1 or 0 is log entry 8. -/
def LinkChange.encoded (c : LinkChange) : List Byte :=
  [c.changed, c.status] ++ bytesOfNat 4 c.seconds ++ bytesOfNat 4 c.micros ++ flagByte c.overwritten

/-- READ_LINK_CHANGES' content (R140). -/
def linkChangesData (s : State) : List Byte :=
  [faceStatus s] ++ bytesOfNat 1 s.linkChanges.length ++ s.linkChanges.flatMap LinkChange.encoded

/-- READ_LINK_CHANGES: the buffer read and emptied. -/
def reqReadLinkChanges : Request :=
  { code := 0x25, fits := lenIs 1
    judge := fun _ s => answerBytes (linkChangesData s) { s with linkChanges := [] } }

/-- READ_LINK_CHANGES (R140). -/
def execReadLinkChanges (ps : List Byte) (s : State) : Host.Outcome State Fault Refusal :=
  .next (takeRequest reqReadLinkChanges ps s)

/-! ### RULE_PUT, RULE_DROP and READ_RULE (R68 to R71) -/

/-- Tag match from the match parameter (R68). -/
def tagMatchOf (m : Nat) : TagMatch := if m / 4 = 0 then .any else if m / 4 = 1 then .untagged else .tagRange
/-- The same encoding, written. -/
def TagMatch.encoded : TagMatch → Nat
  | .any => 0
  | .untagged => 1
  | .tagRange => 2

/-- Destination class from the match parameter (R68). -/
def destClassOf (m : Nat) : DestClass :=
  if m % 4 = 0 then .any else if m % 4 = 1 then .unicast else if m % 4 = 2 then .multicast else .broadcast
/-- The same encoding, written. -/
def DestClass.encoded : DestClass → Nat
  | .any => 0
  | .unicast => 1
  | .multicast => 2
  | .broadcast => 3

/-- Action from its parameter (Table 3-3). -/
def ruleActionOf (v : Nat) : RuleAction := if v = 0 then .protect else if v = 1 then .passClear else .discard
/-- The same encoding, written. -/
def RuleAction.encoded : RuleAction → Nat
  | .protect => 0
  | .passClear => 1
  | .discard => 2

/-- The entry RULE_PUT's parameters spell, match count 0; what the tag match or the action does not read is 0
(R69). -/
def ruleOf (ps : List Byte) : Rule :=
  let tm := tagMatchOf (byteAt ps 2)
  let act := ruleActionOf (byteAt ps 6)
  { valid := true
    linkSet := BitVec.ofNat 4 (byteAt ps 1)
    tagMatch := tm
    tagBase := if tm = .tagRange then numAt ps 3 2 else 0
    tagExp := if tm = .tagRange then byteAt ps 5 else 0
    destClass := destClassOf (byteAt ps 2)
    action := act
    stream := if act = .protect then streamAt ps 7 else 0
    keepTag := decide (act = .protect) && decide (byteAt ps 8 ≠ 0)
    matchCount := 0 }

/-- A tag aperture is invalid: exponent above 12, base above 4,095, or base no multiple of 2^k (R59, R68). -/
def apertureInvalid (b k : Nat) : Bool := decide (12 < k) || decide (4095 < b) || decide (b % 2 ^ k ≠ 0)

/-- Checks 1 to 7 of R68. -/
def rulePutChecks (ps : List Byte) (s : State) : List (Bool × ReqRefusal) :=
  let protect := decide (byteAt ps 6 = 0)
  let st := s.outStream (streamAt ps 7)
  [(decide (128 ≤ byteAt ps 0), badParameter 0x05),
   (decide (byteAt ps 1 = 0) || decide (15 < byteAt ps 1), badParameter 0x07),
   (decide (11 < byteAt ps 2) || (decide (byteAt ps 2 / 4 = 2) && apertureInvalid (numAt ps 3 2) (byteAt ps 5)),
    badParameter 0x06),
   (decide (2 < byteAt ps 6), badParameter 0x08),
   (protect && decide (64 ≤ byteAt ps 7), badParameter 0x02),
   (protect && decide (st.state = .unused), badParameter 0x08),
   (protect && decide (byteAt ps 1 ≠ 2 ^ st.link.1), badParameter 0x07)]

/-- RULE_PUT: one entry made valid with its match count 0. -/
def reqRulePut : Request :=
  { code := 0x30, fits := lenIs 10
    judge := fun ps s =>
      checked (rulePutChecks ps s) (answerDone (s.modRule (ruleAt ps 0) fun _ => ruleOf ps)) }

/-- RULE_PUT (R68, R69). -/
def execRulePut (ps : List Byte) (s : State) : Host.Outcome State Fault Refusal := .next (takeRequest reqRulePut ps s)

/-- RULE_DROP: one entry made empty. -/
def reqRuleDrop : Request :=
  { code := 0x31, fits := lenIs 2
    judge := fun ps s =>
      checked [(decide (128 ≤ byteAt ps 0), badParameter 0x05)]
        (answerDone (s.modRule (ruleAt ps 0) fun _ => Rule.empty)) }

/-- RULE_DROP (R70). -/
def execRuleDrop (ps : List Byte) (s : State) : Host.Outcome State Fault Refusal :=
  .next (takeRequest reqRuleDrop ps s)

/-- READ_RULE's content (R71). That the validity and a set keep-tag-clear read as 1 is log entry 8. -/
def ruleData (i : RuleNo) (r : Rule) : List Byte :=
  bytesOfNat 1 i.1 ++ flagByte r.valid ++ bytesOfBits 1 r.linkSet ++
    bytesOfNat 1 (4 * r.tagMatch.encoded + r.destClass.encoded) ++ bytesOfNat 2 r.tagBase ++ bytesOfNat 1 r.tagExp ++
    bytesOfNat 1 r.action.encoded ++ bytesOfNat 1 r.stream.1 ++ flagByte r.keepTag ++ bytesOfNat 6 r.matchCount

/-- READ_RULE. -/
def reqReadRule : Request :=
  { code := 0x32, fits := lenIs 2
    judge := fun ps s =>
      checked [(decide (128 ≤ byteAt ps 0), badParameter 0x05)]
        (answerBytes (ruleData (ruleAt ps 0) (s.rules.get (ruleAt ps 0))) s) }

/-- READ_RULE (R71). -/
def execReadRule (ps : List Byte) (s : State) : Host.Outcome State Fault Refusal :=
  .next (takeRequest reqReadRule ps s)

end Sys2Proof.Machine
end

