-- ==== Sys2Proof/Machine/StreamRequests.lean ====
section
/-! DEFINITION. The stream and key requests: opening, closing and reading streams, loading, retiring and switching keys,
and the key-wrap key store (R4 to R8, R16 to R18, R24 to R26, R29, R30, R48, R49). -/

namespace Sys2Proof.Machine

/-- The direction a byte names; a byte that is neither 0 nor 1 is refused before it is used. -/
def dirAt (ps : List Byte) (i : Nat) : Dir := if byteAt ps i = 0 then .out else .inn

/-- The direction byte is neither OUT nor IN. -/
def dirBad (ps : List Byte) : Bool := decide (1 < byteAt ps 0)

/-- The stream of a direction is UNUSED. -/
def streamUnused (s : State) (d : Dir) (i : StreamNo) : Bool :=
  match d with
  | .out => decide ((s.outStream i).state = .unused)
  | .inn => !(s.inStream i).isOpen

/-! ### STREAM_OPEN (R4, R5) -/

/-- LEN is 7 with OUT, 11 with IN, 7 or 11 with any other direction value (R4). -/
def streamOpenFits (ps : List Byte) : Bool :=
  match byteAt ps 0 with
  | 0 => lenIs 7 ps
  | 1 => lenIs 11 ps
  | _ => lenIs 7 ps || lenIs 11 ps

/-- Another open stream of the direction on the link holds the stream id (R4 check 6). -/
def streamIdTaken (s : State) (d : Dir) (i : StreamNo) (l : LinkNo) (streamId : Nat) : Bool :=
  (List.finRange 64).any fun j =>
    decide (j ≠ i) &&
      match d with
      | .out =>
        decide ((s.outStream j).state ≠ .unused) && decide ((s.outStream j).link = l) &&
          (s.outStream j).streamId == streamId
      | .inn => (s.inStream j).isOpen && decide ((s.inStream j).link = l) && (s.inStream j).streamId == streamId

/-- The checks of R4. -/
def streamOpenChecks (ps : List Byte) (s : State) : List (Bool × ReqRefusal) :=
  let inbound := decide (byteAt ps 0 = 1)
  [(dirBad ps, badParameter 0x04), (decide (64 ≤ byteAt ps 1), badParameter 0x02),
   (decide (4 ≤ byteAt ps 2), badParameter 0x01),
   (inbound && decide (64 < byteAt ps 5), badParameter 0x0B),
   (inbound && decide (10000 < numAt ps 6 2), badParameter 0x0C),
   (streamIdTaken s (dirAt ps 0) (streamAt ps 1) (linkAt ps 2) (numAt ps 3 2), badParameter 0x1B),
   (!streamUnused s (dirAt ps 0) (streamAt ps 1), wrongState 0x07)]

/-- An outbound stream opened: the fields written, the counters cleared, the slots kept (R5). -/
def OutStream.openedWith (st : OutStream) (l : LinkNo) (streamId : Nat) (auto : Bool) : OutStream :=
  { st with state := .opened, link := l, streamId := streamId, autoSwitch := auto, pendingSwitch := none,
            protectedFrames := 0, protectedBytes := 0, noKeyDiscards := 0 }

/-- An inbound stream opened (R5). -/
def InStream.openedWith (st : InStream) (l : LinkNo) (streamId w grace threshold : Nat) : InStream :=
  { st with isOpen := true, link := l, streamId := streamId, window := w, grace := grace, threshold := threshold,
            failures := 0, delivered := 0, integrityFailures := 0, replayDiscards := 0, noKeyDiscards := 0 }

/-- The effect of an accepted STREAM_OPEN (R5). -/
def openStream (ps : List Byte) (s : State) : State :=
  match dirAt ps 0 with
  | .out =>
    s.modOut (streamAt ps 1) fun st => st.openedWith (linkAt ps 2) (numAt ps 3 2) (decide (byteAt ps 5 ≠ 0))
  | .inn =>
    s.modIn (streamAt ps 1) fun st =>
      st.openedWith (linkAt ps 2) (numAt ps 3 2) (byteAt ps 5) (numAt ps 6 2) (numAt ps 8 2)

/-- STREAM_OPEN. -/
def reqStreamOpen : Request :=
  { code := 0x40, fits := streamOpenFits
    judge := fun ps s => checked (streamOpenChecks ps s) (answerDone (openStream ps s)) }

/-- STREAM_OPEN (R4, R5). -/
def execStreamOpen (ps : List Byte) (s : State) : Host.Outcome State Fault Refusal :=
  .next (takeRequest reqStreamOpen ps s)

/-! ### STREAM_CLOSE (R6, R7) -/

/-- A valid rule names the out-stream in a PROTECT action (R6 check 2). -/
def ruleNames (s : State) (i : StreamNo) : Bool :=
  s.rules.toList.any fun r => r.valid && decide (r.action = .protect) && decide (r.stream = i)

/-- The streams an action lists. -/
def TriggerAction.streams : TriggerAction → List StreamNo
  | .switch streams => streams
  | .start _ => []
  | .stopDrain _ => []
  | .stopNow _ => []

/-- The link an action names. -/
def TriggerAction.link? : TriggerAction → Option LinkNo
  | .switch _ => none
  | .start l => some l
  | .stopDrain l => some l
  | .stopNow l => some l

/-- The stream a condition watches. -/
def TriggerCond.watched : TriggerCond → Option StreamNo
  | .onPulse _ => none
  | .atTime _ => none
  | .atNumber i _ => some i

/-- An ARMED trigger names the out-stream in its SWITCH list or watches it (R6 check 3, R157). -/
def triggerNames (s : State) (i : StreamNo) : Bool :=
  s.triggers.toList.any fun t =>
    match t with
    | .armed c a => a.streams.contains i || c.watched == some i
    | _ => false

/-- A slot of the stream has work in flight, or is LOADING or DRAINING (R6 check 4). -/
def streamBusy (s : State) (d : Dir) (i : StreamNo) : Bool :=
  match d with
  | .out =>
    (s.outStream i).slots.toList.any fun sl =>
      decide (0 < sl.inFlight) || sl.state == .loading || sl.state == .draining
  | .inn =>
    (s.inStream i).slots.toList.any fun sl =>
      decide (0 < sl.inFlight) || sl.state == .loading || sl.state == .draining

/-- The checks of R6. -/
def streamCloseChecks (ps : List Byte) (s : State) : List (Bool × ReqRefusal) :=
  let d := dirAt ps 0
  let i := streamAt ps 1
  [(dirBad ps, badParameter 0x04), (decide (64 ≤ byteAt ps 1), badParameter 0x02),
   (streamUnused s d i, wrongState 0x06),
   (decide (d = .out) && ruleNames s i, wrongState 0x08),
   (decide (d = .out) && triggerNames s i, wrongState 0x09),
   (streamBusy s d i, wrongState 0x0A)]

/-- An outbound stream closed: fields at their reset values, slots EMPTY, counters and last results kept (R7). -/
def OutStream.closed (st : OutStream) : OutStream :=
  { st with state := .unused, link := 0, streamId := 0, autoSwitch := false, pendingSwitch := none,
            slots := mapTable OutSlot.emptied st.slots }

/-- An inbound stream closed (R7). -/
def InStream.closed (st : InStream) : InStream :=
  { st with isOpen := false, link := 0, streamId := 0, window := 0, grace := 0, threshold := 0,
            slots := mapTable InSlot.emptied st.slots }

/-- The effect of an accepted STREAM_CLOSE, with SLOT_FREED where a READY, ACTIVE or GRACE slot enters EMPTY (R7). -/
def closeStream (d : Dir) (i : StreamNo) (s : State) : State :=
  match d with
  | .out =>
    let s1 := s.modOut i OutStream.closed
    if (s.outStream i).slots.toList.any fun sl => sl.state == .ready || sl.state == .active then
      raise .slotFreed (.outStream i) s1
    else s1
  | .inn =>
    let s1 := s.modIn i InStream.closed
    if (s.inStream i).slots.toList.any fun sl => sl.state == .ready || sl.state == .active || sl.state == .grace then
      raise .slotFreed (.inStream i) s1
    else s1

/-- STREAM_CLOSE. -/
def reqStreamClose : Request :=
  { code := 0x41, fits := lenIs 3
    judge := fun ps s =>
      checked (streamCloseChecks ps s) (answerDone (closeStream (dirAt ps 0) (streamAt ps 1) s)) }

/-- STREAM_CLOSE (R6, R7). -/
def execStreamClose (ps : List Byte) (s : State) : Host.Outcome State Fault Refusal :=
  .next (takeRequest reqStreamClose ps s)

/-! ### READ_STREAM (R8) -/

/-- An outbound slot without its hidden fields (R8). -/
def OutSlot.view (sl : OutSlot) : OutSlotView :=
  { state := sl.state, initialFn := sl.initialFn, nextFn := sl.nextFn, soft := sl.soft, hard := sl.hard,
    lifetimeKind := sl.lifetimeKind, limit := sl.limit, warning := sl.warning, accrued := sl.accrued,
    rekeyRaised := sl.rekeyRaised, inFlight := sl.inFlight, lastLoad := sl.lastLoad }

/-- What READ_STREAM carries of an outbound stream (R8). -/
def OutStream.view (st : OutStream) : OutStreamView :=
  { state := st.state, link := st.link, streamId := st.streamId, autoSwitch := st.autoSwitch,
    pendingSwitch := st.pendingSwitch, slots := mapTable OutSlot.view st.slots,
    protectedFrames := st.protectedFrames, protectedBytes := st.protectedBytes, noKeyDiscards := st.noKeyDiscards }

/-- An inbound slot without its hidden fields (R8). -/
def InSlot.view (sl : InSlot) : InSlotView :=
  { state := sl.state, lower := sl.lower, highest := sl.highest, bitmap := sl.bitmap, grace := sl.grace,
    inFlight := sl.inFlight, lastLoad := sl.lastLoad }

/-- What READ_STREAM carries of an inbound stream (R8). -/
def InStream.view (st : InStream) : InStreamView :=
  { state := st.state, link := st.link, streamId := st.streamId, window := st.window, grace := st.grace,
    threshold := st.threshold, failures := st.failures, slots := mapTable InSlot.view st.slots,
    delivered := st.delivered, integrityFailures := st.integrityFailures, replayDiscards := st.replayDiscards,
    noKeyDiscards := st.noKeyDiscards }

/-- The record READ_STREAM answers with (R8). -/
def streamContent (s : State) (d : Dir) (i : StreamNo) : ReplyContent :=
  match d with
  | .out => .outStream (s.outStream i).view
  | .inn => .inStream (s.inStream i).view

/-- READ_STREAM. -/
def reqReadStream : Request :=
  { code := 0x42, fits := lenIs 3
    judge := fun ps s =>
      checked [(dirBad ps, badParameter 0x04), (decide (64 ≤ byteAt ps 1), badParameter 0x02)]
        (.ok (some (streamContent s (dirAt ps 0) (streamAt ps 1)), s)) }

/-- READ_STREAM (R8). -/
def execReadStream (ps : List Byte) (s : State) : Host.Outcome State Fault Refusal :=
  .next (takeRequest reqReadStream ps s)

/-! ### KEY_LOAD (R16 to R18) -/

/-- LEN is 78 with IN, 99 with OUT, 78 or 99 with any other direction value (R16). -/
def keyLoadFits (ps : List Byte) : Bool :=
  match byteAt ps 0 with
  | 0 => lenIs 99 ps
  | 1 => lenIs 78 ps
  | _ => lenIs 78 ps || lenIs 99 ps

/-- The lifetime kind a byte names (Table 1-7). -/
def lifetimeKindOf (v : Nat) : LifetimeKind := if v = 1 then .seconds else if v = 2 then .mebibytes else .none

/-- What the job is to install, as KEY_LOAD's parameters spell it (Table 1-7). -/
def loadRangeOf (ps : List Byte) : LoadRange :=
  match dirAt ps 0 with
  | .out =>
    .out (numAt ps 71 6) (numAt ps 77 6) (numAt ps 83 6) (lifetimeKindOf (byteAt ps 89)) (numAt ps 90 4)
      (numAt ps 94 4)
  | .inn => .inn (numAt ps 71 6)

/-- The load job of a KEY_LOAD (R15). -/
def jobOf (ps : List Byte) : Job :=
  { stream := streamAt ps 1, slot := slotAt ps 2, nonce := BitVec.ofNat 96 (numAt ps 3 12),
    wrapped := (ps.drop 15).take 36, tag := BitVec.ofNat 128 (numAt ps 51 16), check := BitVec.ofNat 32 (numAt ps 67 4),
    range := loadRangeOf ps, cancelled := false }

/-- The frame numbers of a job fail R17 check 4. -/
def LoadRange.fnBad : LoadRange → Bool
  | .out initial soft hard _ _ _ =>
    !(decide (1 ≤ initial) && decide (initial ≤ soft) && decide (soft ≤ hard) && decide (hard ≤ Config.maxFn))
  | .inn lower => lower == 0

/-- The lifetime of an outbound KEY_LOAD fails R17 check 5. -/
def lifetimeBad (kind limit warning : Nat) : Bool :=
  decide (2 < kind) || (decide (1 ≤ kind) && (decide (limit = 0) || decide (limit < warning)))

/-- The slot of a direction is not EMPTY (R17 check 7). -/
def slotTaken (s : State) (d : Dir) (i : StreamNo) (k : SlotNo) : Bool :=
  match d with
  | .out => decide ((s.outSlot i k).state ≠ .empty)
  | .inn => decide ((s.inSlot i k).state ≠ .empty)

/-- The checks of R17. -/
def keyLoadChecks (ps : List Byte) (s : State) : List (Bool × ReqRefusal) :=
  let d := dirAt ps 0
  let i := streamAt ps 1
  [(dirBad ps, badParameter 0x04), (decide (64 ≤ byteAt ps 1), badParameter 0x02),
   (decide (1 < byteAt ps 2), badParameter 0x03), ((loadRangeOf ps).fnBad, badParameter 0x09),
   (decide (d = .out) && lifetimeBad (byteAt ps 89) (numAt ps 90 4) (numAt ps 94 4), badParameter 0x0A),
   (streamUnused s d i, wrongState 0x06), (slotTaken s d i (slotAt ps 2), wrongState 0x0B),
   (s.kwk.isNone, wrongState 0x0D), (decide (Config.loadQueueDepth ≤ s.keyUnit.jobs.length), noRoom)]

/-- The slot of a job enters LOADING with last load result NONE (R18). -/
def beginLoading (j : Job) (s : State) : State :=
  match j.range.dir with
  | .out => s.modOutSlot j.stream j.slot fun sl => { sl with state := .loading, lastLoad := .none }
  | .inn => s.modInSlot j.stream j.slot fun sl => { sl with state := .loading, lastLoad := .none }

/-- The job joins the queue; in an empty queue it becomes WAITING, from where the rotation counts (R15, R18, R92). -/
def appendJob (j : Job) (s : State) : State :=
  let s1 := { s with keyUnit := { s.keyUnit with jobs := s.keyUnit.jobs ++ [j] } }
  if s.keyUnit.jobs.isEmpty then resetCount s1 else s1

/-- KEY_LOAD. -/
def reqKeyLoad : Request :=
  { code := 0x43, fits := keyLoadFits
    judge := fun ps s =>
      checked (keyLoadChecks ps s) (answerDone (beginLoading (jobOf ps) (appendJob (jobOf ps) s))) }

/-- KEY_LOAD (R16, R17, R18). -/
def execKeyLoad (ps : List Byte) (s : State) : Host.Outcome State Fault Refusal := .next (takeRequest reqKeyLoad ps s)

/-! ### KEY_RETIRE (R24 to R26) -/

/-- The slot of a direction is EMPTY or DRAINING (R24). -/
def slotIdle (s : State) (d : Dir) (i : StreamNo) (k : SlotNo) : Bool :=
  match d with
  | .out => (s.outSlot i k).state == .empty || (s.outSlot i k).state == .draining
  | .inn => (s.inSlot i k).state == .empty || (s.inSlot i k).state == .draining

/-- The checks of R24. -/
def keyRetireChecks (ps : List Byte) (s : State) : List (Bool × ReqRefusal) :=
  let d := dirAt ps 0
  let i := streamAt ps 1
  [(dirBad ps, badParameter 0x04), (decide (64 ≤ byteAt ps 1), badParameter 0x02),
   (decide (1 < byteAt ps 2), badParameter 0x03), (streamUnused s d i, wrongState 0x06),
   (slotIdle s d i (slotAt ps 2), wrongState 0x0C)]

/-- A job loads the slot. -/
def Job.loads (j : Job) (d : Dir) (i : StreamNo) (k : SlotNo) : Bool :=
  decide (j.range.dir = d) && decide (j.stream = i) && decide (j.slot = k)

/-- A QUEUED or WAITING job taken from the queue; if it was the WAITING head, the next job becomes WAITING (R25). -/
def removeJob (d : Dir) (i : StreamNo) (k : SlotNo) (s : State) : State :=
  let rest := s.keyUnit.jobs.filter fun j => !j.loads d i k
  let wasHead := (s.keyUnit.jobs.head?.map fun j => j.loads d i k).getD false
  let s1 := { s with keyUnit := { s.keyUnit with jobs := rest } }
  if wasHead && !rest.isEmpty then resetCount s1 else s1

/-- The cancelled mark of the WORKING head set (R25). -/
def markCancelled (d : Dir) (i : StreamNo) (k : SlotNo) (s : State) : State :=
  { s with keyUnit := { s.keyUnit with
      jobs := s.keyUnit.jobs.map fun j => if j.loads d i k then { j with cancelled := true } else j } }

/-- The slot's job is the WORKING head. -/
def jobWorking (s : State) (d : Dir) (i : StreamNo) (k : SlotNo) : Bool :=
  s.keyUnit.working.isSome && (s.keyUnit.jobs.head?.map fun j => j.loads d i k).getD false

/-- A pending switch to the slot is dropped (R25, R47). -/
def clearPendingTo (i : StreamNo) (k : SlotNo) (s : State) : State :=
  s.modOut i fun st => { st with pendingSwitch := if st.pendingSwitch = some k then none else st.pendingSwitch }

/-- KEY_RETIRE of a LOADING outbound slot (R25). -/
def cancelOutLoad (i : StreamNo) (k : SlotNo) (s : State) : State :=
  clearPendingTo i k
    (if jobWorking s .out i k then markCancelled .out i k s
     else (removeJob .out i k s).modOutSlot i k fun _ => OutSlot.empty .cancelled)

/-- KEY_RETIRE of a LOADING inbound slot (R25). -/
def cancelInLoad (i : StreamNo) (k : SlotNo) (s : State) : State :=
  if jobWorking s .inn i k then markCancelled .inn i k s
  else (removeJob .inn i k s).modInSlot i k fun _ => InSlot.empty .cancelled

/-- KEY_RETIRE of an outbound slot, by its state (R25, R26). -/
def retireOut (i : StreamNo) (k : SlotNo) (s : State) : State :=
  match (s.outSlot i k).state with
  | .loading => cancelOutLoad i k s
  | .ready => leaveOutSlot i k s
  | .active => leaveActive i k s
  | .empty => s
  | .draining => s

/-- KEY_RETIRE of an inbound slot, by its state (R25, R26). -/
def retireIn (i : StreamNo) (k : SlotNo) (s : State) : State :=
  match (s.inSlot i k).state with
  | .loading => cancelInLoad i k s
  | .ready => leaveInSlot i k s
  | .active => leaveInSlot i k s
  | .grace => leaveInSlot i k s
  | .empty => s
  | .draining => s

/-- The effect of an accepted KEY_RETIRE. -/
def retireKey (d : Dir) (i : StreamNo) (k : SlotNo) (s : State) : State :=
  match d with
  | .out => retireOut i k s
  | .inn => retireIn i k s

/-- KEY_RETIRE. -/
def reqKeyRetire : Request :=
  { code := 0x44, fits := lenIs 4
    judge := fun ps s =>
      checked (keyRetireChecks ps s) (answerDone (retireKey (dirAt ps 0) (streamAt ps 1) (slotAt ps 2) s)) }

/-- KEY_RETIRE (R24 to R26). -/
def execKeyRetire (ps : List Byte) (s : State) : Host.Outcome State Fault Refusal :=
  .next (takeRequest reqKeyRetire ps s)

/-! ### KEY_SWITCH (R48, R49) -/

/-- The effect of KEY_SWITCH on an outbound stream, or why it cannot be made (R48 checks 3 to 5, R49). -/
def judgeSwitch (i : StreamNo) (s : State) : Answer :=
  match (s.outStream i).state with
  | .unused => refuse (wrongState 0x06)
  | .opened => refuse (wrongState 0x0F)
  | .stalled => refuse (wrongState 0x0F)
  | .active a =>
    match (s.outSlot i (otherSlot a)).state with
    | .ready => answerDone (requestSwitch i a s)
    | .loading => answerDone (requestSwitch i a s)
    | _ => refuse (wrongState 0x10)

/-- KEY_SWITCH. -/
def reqKeySwitch : Request :=
  { code := 0x45, fits := lenIs 3
    judge := fun ps s =>
      checked [(decide (byteAt ps 0 ≠ 0), badParameter 0x04), (decide (64 ≤ byteAt ps 1), badParameter 0x02)]
        (judgeSwitch (streamAt ps 1) s) }

/-- KEY_SWITCH (R48, R49). -/
def execKeySwitch (ps : List Byte) (s : State) : Host.Outcome State Fault Refusal :=
  .next (takeRequest reqKeySwitch ps s)

/-! ### The key-wrap key store (R29, R30) -/

/-- KWK_LOAD. -/
def reqKwkLoad : Request :=
  { code := 0x46, fits := lenIs 33
    judge := fun ps s =>
      checked [(s.kwk.isSome, wrongState 0x0E)]
        (answerDone { s with kwk := some (BitVec.ofNat 256 (numAt ps 0 32)) }) }

/-- KWK_LOAD (R29). -/
def execKwkLoad (ps : List Byte) (s : State) : Host.Outcome State Fault Refusal := .next (takeRequest reqKwkLoad ps s)

/-- KWK_ERASE. -/
def reqKwkErase : Request :=
  { code := 0x47, fits := lenIs 1
    judge := fun _ s => checked [(s.kwk.isNone, wrongState 0x0D)] (answerDone { s with kwk := none }) }

/-- KWK_ERASE (R30). -/
def execKwkErase (ps : List Byte) (s : State) : Host.Outcome State Fault Refusal :=
  .next (takeRequest reqKwkErase ps s)

end Sys2Proof.Machine
end

