-- ==== Sys2Proof/Machine/TimeRequests.lean ====
section
/-! DEFINITION. The time base requests and the trigger requests (R154 to R156, R158, R159, R162, R163). -/

namespace Sys2Proof.Machine

/-! ### TIME_SET, TIME_TRIM and TIME_READ (R154 to R156) -/

/-- The effect of TIME_SET: the count written and valid, then the AT_TIME triggers it reaches (R154). -/
def setTime (seconds : Nat) (s : State) : State :=
  triggersEvent (.timeSet seconds) { s with time := { s.time with seconds := seconds, micros := 0, valid := true } }

/-- TIME_SET. -/
def reqTimeSet : Request :=
  { code := 0x50, fits := lenIs 5, judge := fun ps s => answerDone (setTime (numAt ps 0 4) s) }

/-- TIME_SET (R154). -/
def execTimeSet (ps : List Byte) (s : State) : Host.Outcome State Fault Refusal := .next (takeRequest reqTimeSet ps s)

/-- The effect of TIME_TRIM (R155). -/
def setTrim (trim : Int) (discipline : Bool) (s : State) : State :=
  { s with time := { s.time with trim := trim, discipline := discipline } }

/-- TIME_TRIM. -/
def reqTimeTrim : Request :=
  { code := 0x51, fits := lenIs 3
    judge := fun ps s =>
      checked [(byteAt ps 0 == 0x80, badParameter 0x18)]
        (answerDone (setTrim (signedByte (byteAt ps 0)) (decide (byteAt ps 1 ≠ 0)) s)) }

/-- TIME_TRIM (R155). -/
def execTimeTrim (ps : List Byte) (s : State) : Host.Outcome State Fault Refusal :=
  .next (takeRequest reqTimeTrim ps s)

/-- TIME_READ's content, 17 bytes (R156). That the valid flag and the discipline setting read as 1 or 0, and the trim in
two's complement, is log entry 8. -/
def timeData (t : TimeBase) : List Byte :=
  bytesOfNat 4 t.seconds ++ bytesOfNat 4 t.micros ++ flagByte t.valid ++ bytesOfInt 1 t.trim ++
    flagByte t.discipline ++ bytesOfNat 6 t.outOfWindow

/-- TIME_READ. -/
def reqTimeRead : Request :=
  { code := 0x52, fits := lenIs 1, judge := fun _ s => answerBytes (timeData s.time) s }

/-- TIME_READ (R156). -/
def execTimeRead (ps : List Byte) (s : State) : Host.Outcome State Fault Refusal :=
  .next (takeRequest reqTimeRead ps s)

/-! ### TRIGGER_ARM (R158, R159)

Parameters: slot 0, kind 1, condition 2 to 8, action 9, operand count 10, operands from 11. -/

/-- LEN is 12 + n, and reaches n (R158, R183). -/
def triggerArmFits (ps : List Byte) : Bool := decide (11 ≤ ps.length) && ps.length + 1 == 12 + byteAt ps 10

/-- The operand bytes. -/
def armOperands (ps : List Byte) : List Nat := (ps.drop 11).map BitVec.toNat

/-- The condition TRIGGER_ARM's kind and condition bytes spell (R158). -/
def armCond (ps : List Byte) : TriggerCond :=
  match byteAt ps 1 with
  | 0 => .onPulse (numAt ps 7 2)
  | 1 => .atTime (numAt ps 5 4)
  | _ => .atNumber (streamAt ps 2) (numAt ps 3 6)

/-- The action TRIGGER_ARM's action and operand bytes spell (R158). -/
def armAction (ps : List Byte) : TriggerAction :=
  match byteAt ps 9 with
  | 0 => .switch ((armOperands ps).map (Fin.ofNat 64))
  | 1 => .start (linkAt ps 11)
  | 2 => .stopDrain (linkAt ps 11)
  | _ => .stopNow (linkAt ps 11)

/-- The link is named by the action of an ARMED trigger (R158 check 11). -/
def armedLink (s : State) (l : LinkNo) : Bool :=
  s.triggers.toList.any fun t =>
    match t with
    | .armed _ a => a.link? == some l
    | _ => false

/-- The stream stands in the SWITCH list of an ARMED trigger (R158 check 11). -/
def armedStream (s : State) (i : StreamNo) : Bool :=
  s.triggers.toList.any fun t =>
    match t with
    | .armed _ a => a.streams.contains i
    | _ => false

/-- What an action names is named by an ARMED trigger already (R158 check 11). -/
def actionNamed (s : State) (a : TriggerAction) : Bool :=
  a.streams.any (armedStream s) || (a.link?.map (armedLink s)).getD false

/-- The stream an AT_NUMBER condition watches, or a listed stream, is UNUSED (R158 check 9). -/
def armStreamUnused (s : State) (c : TriggerCond) (a : TriggerAction) : Bool :=
  (c.watched.toList ++ a.streams).any fun i => decide ((s.outStream i).state = .unused)

/-- The last assigned FN of an outbound stream: none without an ACTIVE slot (R33). -/
def lastAssigned (s : State) (i : StreamNo) : Option Nat :=
  (s.outStream i).activeSlot.map fun a => (s.outSlot i a).nextFn - 1

/-- An AT_NUMBER condition fails R158 check 10. -/
def numberPassed (s : State) : TriggerCond → Bool
  | .onPulse _ => false
  | .atTime _ => false
  | .atNumber i v =>
    match lastAssigned s i with
    | some p => decide (v ≤ p)
    | none => true

/-- A stream is given twice. -/
def hasRepeat : List Nat → Bool
  | [] => false
  | x :: xs => xs.contains x || hasRepeat xs

/-- The slot is EMPTY. -/
def TriggerSlot.isEmpty : TriggerSlot → Bool
  | .empty => true
  | .armed _ _ => false
  | .faulted _ _ _ _ => false

/-- The checks of R158. -/
def triggerArmChecks (ps : List Byte) (s : State) : List (Bool × ReqRefusal) :=
  let kind := byteAt ps 1
  let action := byteAt ps 9
  let n := byteAt ps 10
  let operands := armOperands ps
  let isSwitch := decide (action = 0)
  [(decide (8 ≤ byteAt ps 0), badParameter 0x14),
   (decide (2 < kind) || decide (3 < action) || (!isSwitch && decide (n ≠ 1)), badParameter 0x15),
   ((decide (kind = 0) && decide (numAt ps 7 2 = 0)) || (decide (kind = 1) && decide (numAt ps 5 4 ≤ s.time.seconds)),
    badParameter 0x17),
   (decide (kind = 2) && decide (64 ≤ byteAt ps 2), badParameter 0x02),
   (isSwitch && (decide (n = 0) || decide (8 < n) || hasRepeat operands), badParameter 0x16),
   (isSwitch && operands.any fun v => decide (64 ≤ v), badParameter 0x02),
   (!isSwitch && operands.any fun v => decide (4 ≤ v), badParameter 0x01),
   (!(s.triggers.get (triggerAt ps 0)).isEmpty, wrongState 0x12),
   (decide (kind = 1) && !s.time.valid, wrongState 0x11),
   (armStreamUnused s (armCond ps) (armAction ps), wrongState 0x06),
   (numberPassed s (armCond ps), wrongState 0x15),
   (actionNamed s (armAction ps), wrongState 0x09)]

/-- TRIGGER_ARM. -/
def reqTriggerArm : Request :=
  { code := 0x53, fits := triggerArmFits
    judge := fun ps s =>
      checked (triggerArmChecks ps s)
        (answerDone (s.setTrigger (triggerAt ps 0) (.armed (armCond ps) (armAction ps)))) }

/-- TRIGGER_ARM (R158, R159). -/
def execTriggerArm (ps : List Byte) (s : State) : Host.Outcome State Fault Refusal :=
  .next (takeRequest reqTriggerArm ps s)

/-! ### TRIGGER_CANCEL, TRIGGER_RELEASE and READ_TRIGGER (R162, R163) -/

/-- The slot is ARMED. -/
def TriggerSlot.isArmed : TriggerSlot → Bool
  | .empty => false
  | .armed _ _ => true
  | .faulted _ _ _ _ => false

/-- The slot is FAULTED. -/
def TriggerSlot.isFaulted : TriggerSlot → Bool
  | .empty => false
  | .armed _ _ => false
  | .faulted _ _ _ _ => true

/-- TRIGGER_CANCEL. -/
def reqTriggerCancel : Request :=
  { code := 0x54, fits := lenIs 2
    judge := fun ps s =>
      checked
        [(decide (8 ≤ byteAt ps 0), badParameter 0x14),
         (!(s.triggers.get (triggerAt ps 0)).isArmed, wrongState 0x12)]
        (answerDone (s.setTrigger (triggerAt ps 0) .empty)) }

/-- TRIGGER_CANCEL (R162). -/
def execTriggerCancel (ps : List Byte) (s : State) : Host.Outcome State Fault Refusal :=
  .next (takeRequest reqTriggerCancel ps s)

/-- TRIGGER_RELEASE. -/
def reqTriggerRelease : Request :=
  { code := 0x55, fits := lenIs 2
    judge := fun ps s =>
      checked
        [(decide (8 ≤ byteAt ps 0), badParameter 0x14),
         (!(s.triggers.get (triggerAt ps 0)).isFaulted, wrongState 0x12)]
        (answerDone (s.setTrigger (triggerAt ps 0) .empty)) }

/-- TRIGGER_RELEASE (R162). -/
def execTriggerRelease (ps : List Byte) (s : State) : Host.Outcome State Fault Refusal :=
  .next (takeRequest reqTriggerRelease ps s)

/-- Kind and 7-byte condition of a trigger (R158, R163). That the bytes the kind does not use read as 0 is log entry
21. -/
def TriggerCond.encoded : TriggerCond → List Byte
  | .onPulse n => [0] ++ bytesOfNat 5 0 ++ bytesOfNat 2 n
  | .atTime t => [1] ++ bytesOfNat 3 0 ++ bytesOfNat 4 t
  | .atNumber i v => [2] ++ bytesOfNat 1 i.1 ++ bytesOfNat 6 v

/-- Action, operand count and operands of a trigger (R158, R163). -/
def TriggerAction.encoded : TriggerAction → List Byte
  | .switch streams => [0] ++ bytesOfNat 1 streams.length ++ streams.flatMap fun i => bytesOfNat 1 i.1
  | .start l => [1, 1] ++ bytesOfNat 1 l.1
  | .stopDrain l => [2, 1] ++ bytesOfNat 1 l.1
  | .stopNow l => [3, 1] ++ bytesOfNat 1 l.1

/-- READ_TRIGGER's content after the slot number (R163). -/
def TriggerSlot.encoded : TriggerSlot → List Byte
  | .empty => [0] ++ List.replicate 10 0 ++ [0, 0]
  | .armed c a => [1] ++ c.encoded ++ a.encoded ++ [0, 0]
  | .faulted c a failing reason => [2] ++ c.encoded ++ a.encoded ++ bytesOfNat 1 failing ++ bytesOfNat 1 reason

/-- READ_TRIGGER. -/
def reqReadTrigger : Request :=
  { code := 0x56, fits := lenIs 2
    judge := fun ps s =>
      checked [(decide (8 ≤ byteAt ps 0), badParameter 0x14)]
        (answerBytes (bytesOfNat 1 (byteAt ps 0) ++ (s.triggers.get (triggerAt ps 0)).encoded) s) }

/-- READ_TRIGGER (R163). -/
def execReadTrigger (ps : List Byte) (s : State) : Host.Outcome State Fault Refusal :=
  .next (takeRequest reqReadTrigger ps s)

end Sys2Proof.Machine
end

