-- ==== Sys2Proof/Machine/LineBytes.lean ====
section
/-! DEFINITION. The management line: bytes assembled into records, records judged, and the end of a reply (R179 to R182,
R174). -/

namespace Sys2Proof.Machine

/-- Table 10-4. -/
def requestTable : List Request :=
  [reqPoll, reqIdentify, reqReadStatus, reqReadNotices, reqNoticeSetup, reqReadCounters, reqDeviceSetup] ++
  [reqLinkSetup, reqRampSet, reqLinkStart, reqLinkStop, reqReadLink, reqReadLinkChanges] ++
  [reqRulePut, reqRuleDrop, reqReadRule] ++
  [reqStreamOpen, reqStreamClose, reqReadStream, reqKeyLoad, reqKeyRetire, reqKeySwitch, reqKwkLoad, reqKwkErase] ++
  [reqTimeSet, reqTimeTrim, reqTimeRead, reqTriggerArm, reqTriggerCancel, reqTriggerRelease, reqReadTrigger] ++
  [reqRestart, reqZeroize, reqAlarmClear, reqReadRetained]

/-- The request a code names (Table 10-4). -/
def requestOf (code : Byte) : Option Request := requestTable.find? fun r => r.code == code

/-- A record goes without a reply: the assembly is in HUNT. -/
def toHunt (s : State) : State := s.modLine fun ln => { ln with assembly := .hunt }

/-- A record abandoned: the broken-record count goes up (R179). -/
def abandonRecord (s : State) : State :=
  s.modLine fun ln => { ln with assembly := .hunt, broken := count16 ln.broken 1 }

/-- HEAD is that of a request to this part: kind REQUEST, bits 4–3 zero, the part's own address (R180 step 2). -/
def addressedHere (s : State) (head : Byte) : Bool := head == requestHead s.address

/-- The request of a record whose check passes and that is addressed to this part (R180 step 3, R183). -/
def takeRecord (body : List Byte) (s : State) : State :=
  match body with
  | [] => toHunt s
  | code :: ps =>
    match requestOf code with
    | some r => answerRequest r ps s
    | none => answerUnknown code s

/-- A complete record judged in the order of R180: check, kind and address, taking. -/
def judgeRecord (head : Byte) (body : List Byte) (check : Byte) (s : State) : State :=
  if ¬ checkPasses head body check then
    s.modLine fun ln => { ln with assembly := .hunt, check := count16 ln.check 1 }
  else if addressedHere s head then takeRecord body s
  else toHunt s

/-! ### Whole records as commands (log entry 7) -/

/-- UNKNOWN_REQUEST: a request record to this part whose code is not in Table 10-4 (R183). -/
def execUnknownRequest (code : Byte) (ps : List Byte) (s : State) : Host.Outcome State Fault Refusal :=
  .next (recordArrives (ps.length + 1) (takeRecord (code :: ps)) s)

/-- RECORD_CHECK_FAILED: a complete record whose check fails (R180 step 1). -/
def execRecordCheckFailed (head : Byte) (body : List Byte) (check : Byte) (s : State) :
    Host.Outcome State Fault Refusal :=
  .next (recordArrives body.length (judgeRecord head body check) s)

/-- RECORD_IGNORED: a complete record that is no request to this part (R180 step 2). -/
def execRecordIgnored (head : Byte) (body : List Byte) (check : Byte) (s : State) : Host.Outcome State Fault Refusal :=
  .next (recordArrives body.length (judgeRecord head body check) s)

/-! ### Bytes (R179, R181) -/

/-- LEN is 1 to 120 (Table 10-1). -/
def lenValid (len : Byte) : Bool := decide (1 ≤ len.toNat) && decide (len.toNat ≤ 120)

/-- A byte with a good stop bit, by the state of the assembly (R179). -/
def assembleByte (byte : Byte) (s : State) : State :=
  match s.line.assembly with
  | .hunt => if byte = leadByte then s.modLine fun ln => { ln with assembly := .head } else s
  | .head => s.modLine fun ln => { ln with assembly := .len byte }
  | .len head =>
    if lenValid byte then s.modLine fun ln => { ln with assembly := .body head byte.toNat [] } else abandonRecord s
  | .body head left got =>
    if left ≤ 1 then s.modLine fun ln => { ln with assembly := .check head (got ++ [byte]) }
    else s.modLine fun ln => { ln with assembly := .body head (left - 1) (got ++ [byte]) }
  | .check head body => judgeRecord head body byte s

/-- A byte arrives: the assembly takes it, or it is an overlap byte (R179, R181). -/
def receiveByte (byte : Byte) (s : State) : State :=
  if s.line.reply.isSome then countOverlap 1 s else assembleByte byte s

/-- BYTE_RECEIVED (R179). -/
def execByteReceived (byte : Byte) (s : State) : Host.Outcome State Fault Refusal :=
  .next (unlessHeld (receiveByte byte) s)

/-- RECORD_LEN_INVALID: a byte that is no LEN arrives where the assembly waits for LEN (R179). Where the assembly does
not, or the byte is a LEN, the event does not occur. -/
def execRecordLenInvalid (len : Byte) (s : State) : Host.Outcome State Fault Refusal :=
  .next (unlessHeld (fun s =>
    match s.line.assembly with
    | .len _ => if s.line.reply.isSome || lenValid len then s else abandonRecord s
    | _ => s) s)

/-- A byte with a bad stop bit, by the state of the assembly (R179). -/
def badStopBit (s : State) : State :=
  match s.line.assembly with
  | .hunt => s
  | _ => s.modLine fun ln => { ln with assembly := .hunt, framing := count16 ln.framing 1 }

/-- FRAMING_ERROR (R179). While a reply is owed or being sent the byte is one that arrives in that interval, and counts
as overlap (R181; log entry 12). -/
def execFramingError (s : State) : Host.Outcome State Fault Refusal :=
  .next (unlessHeld (fun s => if s.line.reply.isSome then countOverlap 1 s else badStopBit s) s)

/-- RECORD_GAP_TIMEOUT: the gap inside a record reaches 1,000 µs (R179). In HUNT there is no record. -/
def execRecordGapTimeout (s : State) : Host.Outcome State Fault Refusal :=
  .next (unlessHeld (fun s =>
    match s.line.assembly with
    | .hunt => s
    | _ => abandonRecord s) s)

/-- OVERLAP_BYTE: a byte, whatever its value, between a taken request and the end of its reply (R181). With no reply owed
or being sent there is none. -/
def execOverlapByte (_byte : Byte) (s : State) : Host.Outcome State Fault Refusal :=
  .next (unlessHeld (fun s => if s.line.reply.isSome then countOverlap 1 s else s) s)

/-- The end of a reply: the assembly is in HUNT, and the reset of an accepted RESTART begins (R174, R181). -/
def endReply (s : State) : State :=
  let s1 := s.modLine fun ln => { ln with assembly := .hunt, reply := none }
  if s.line.restartPending then holdReset .restart s1 else s1

/-- REPLY_END (R181). With no reply owed or being sent there is none. -/
def execReplyEnd (s : State) : Host.Outcome State Fault Refusal :=
  .next (unlessHeld (fun s => if s.line.reply.isSome then endReply s else s) s)

end Sys2Proof.Machine
end

