-- ==== Sys2Proof/Machine/Startup.lean ====
section
/-! DEFINITION. Resets, the self-test and TAMPER_N (chapter 9). -/

namespace Sys2Proof.Machine

/-! ### Resets (R166) -/

/-- The retained record after a power-on: the valid marker clear and every other field undefined, a free value
(R175). -/
def Retained.afterPowerOn (n : Nat) : Retained :=
  { valid := false, cause := Config.freeAlarmCause n, seconds := (Config.freeWord n).toNat,
    timeValid := Config.freeFlag n, lanesFailed := Config.freeByte n, testFailed := Config.freeFlag (n + 1),
    alarmCount := (Config.freeByte (n + 1)).toNat }

/-- POWER_ON: the supply rises, the part is held in reset, the retained record is invalid (R166, R175). -/
def execPowerOn (s : State) : Host.Outcome State Fault Refusal :=
  .next { holdReset .powerOn s with retained := Retained.afterPowerOn s.freeCount, freeCount := s.freeCount + 2 }

/-- The reset cause RESET_N gives: a power-on that it overlaps stays POWER_ON, any other reset is PIN (R166). -/
def pinCause (held : Option ResetKind) : ResetKind := if held = some .powerOn then .powerOn else .pin

/-- PIN_RESET: RESET_N is asserted and the part is held in reset (R166). -/
def execPinReset (s : State) : Host.Outcome State Fault Refusal := .next (holdReset (pinCause s.resetHeld) s)

/-- Every block at its reset values, with what a reset keeps: the waiting commands, the retained record, the level of
TAMPER_N and, unless TAMPER_N is asserted at the release, the key-wrap key store (R29, R166, R167, R170, R175). -/
def released (kind : ResetKind) (address : BitVec 3) (rateHigh : Bool) (s : State) : State :=
  { State.reset with
    pending := s.pending
    resetCause := kind
    address := address
    rateHigh := rateHigh
    tamperAsserted := s.tamperAsserted
    tamperMark := s.tamperAsserted
    kwk := if s.tamperAsserted then none else s.kwk
    retained := s.retained
    freeCount := s.freeCount }

/-- RESET_RELEASE: the held reset is released and the self-test begins (R166). With no reset held there is none. -/
def execResetRelease (address : BitVec 3) (rateHigh : Bool) (s : State) : Host.Outcome State Fault Refusal :=
  .next
    (match s.resetHeld with
    | some kind => released kind address rateHigh s
    | none => s)

/-! ### The self-test (R168, R175) -/

/-- How many lanes a set holds. -/
def laneCount (lanes : BitVec 8) : Nat := ((List.range 8).filter fun n => lanes.getLsbD n).length

/-- The retained record at a self-test completion: a record that is not valid has its alarm fields initialised, then the
marker is set and the self-test fields written (R175). -/
def Retained.tested (r : Retained) (failed : BitVec 8) (testFailed : Bool) : Retained :=
  if r.valid then { r with lanesFailed := failed, testFailed := testFailed }
  else
    { valid := true, cause := .none, seconds := 0, timeValid := false, lanesFailed := failed, testFailed := testFailed,
      alarmCount := 0 }

/-- The self-test ends with the lanes of `passed` passing: lane pool, retained record, notice, mode (R168). -/
def completeSelfTest (passed : BitVec 8) (s : State) : State :=
  let few := decide (laneCount passed < 2)
  let s1 := { s with
    lanesEnabled := passed
    lanesFailed := ~~~ passed
    lanes := Vector.replicate 8 .free
    retained := s.retained.tested (~~~ passed) few }
  let s2 := if ~~~ passed = 0 then s1 else raise .lanesDegraded .none s1
  if few then { s2 with mode := .failed }
  else if s2.tamperMark then alarmEntry .tamper s2
  else { s2 with mode := .running }

/-- SELF_TEST_COMPLETE (R168). Only a part in STARTING runs a self-test. -/
def execSelfTestComplete (passed : BitVec 8) (s : State) : Host.Outcome State Fault Refusal :=
  .next (unlessHeld (fun s => if s.mode = .starting then completeSelfTest passed s else s) s)

/-! ### TAMPER_N (R170) -/

/-- The effect of an assertion beyond emptying the store, by mode; `s` already holds the level and the empty store
(R170). -/
def tamperByMode (s : State) : State :=
  match s.mode with
  | .starting => { s with tamperMark := true }
  | .running => alarmEntry .tamper s
  | .alarm => s
  | .failed => s

/-- TAMPER_ASSERT: a change of TAMPER_N from deasserted to asserted empties the key-wrap key store and acts by the mode;
in a held reset nothing more (R170). -/
def execTamperAssert (s : State) : Host.Outcome State Fault Refusal :=
  .next
    (if s.tamperAsserted then s
     else unlessHeld tamperByMode { s with tamperAsserted := true, kwk := none })

/-- TAMPER_DEASSERT: the level alone (R170). -/
def execTamperDeassert (s : State) : Host.Outcome State Fault Refusal := .next { s with tamperAsserted := false }

end Sys2Proof.Machine
end

