-- ==== Sys2Proof/Machine/Time.lean ====
section
/-! DEFINITION. The time base: reference ticks, the microsecond, millisecond and second events and the blocks they
reach, and pulse edges (chapter 8; R41, R122). -/

namespace Sys2Proof.Machine

/-! ### Grace timers (R122) -/

/-- A millisecond event at one inbound slot: a GRACE slot counts down and leaves service at 0 (R122). -/
def graceTick (i : StreamNo) (k : SlotNo) (s : State) : State :=
  let sl := s.inSlot i k
  if sl.state = .grace then
    if sl.grace ≤ 1 then leaveInSlot i k s else s.modInSlot i k fun sl => { sl with grace := sl.grace - 1 }
  else s

/-- A millisecond event of the time base: every grace timer (R152). -/
def milliEvent (s : State) : State :=
  (List.finRange 64).foldl (fun s i => graceTick i 1 (graceTick i 0 s)) s

/-! ### SECONDS lifetimes (R41) -/

/-- REKEY_DUE at a second event: flag clear, warning not 0 and reached (R41 test 1). -/
def OutSlot.rekeyDueNow (sl : OutSlot) : Bool :=
  !sl.rekeyRaised && decide (sl.warning ≠ 0) && sl.accrued == sl.warning

/-- A second event at the ACTIVE slot `a` of an out-stream, whose kind is SECONDS: it accrues, is tested for REKEY_DUE
and expires at its limit (R41). -/
def secondAtSlot (i : StreamNo) (a : SlotNo) (s : State) : State :=
  let s1 := s.modOutSlot i a fun sl => { sl with accrued := sl.accrued + 1 }
  let s2 := if (s1.outSlot i a).rekeyDueNow then raiseRekeyDue i a s1 else s1
  if (s2.outSlot i a).accrued = (s2.outSlot i a).limit then leaveActive i a s2 else s2

/-- A second event at one out-stream (R41). -/
def lifetimeTick (i : StreamNo) (s : State) : State :=
  match (s.outStream i).state with
  | .active a => if (s.outSlot i a).lifetimeKind = .seconds then secondAtSlot i a s else s
  | _ => s

/-- A second event at the SECONDS lifetimes of every out-stream (R41). -/
def lifetimesEvent (s : State) : State := (List.finRange 64).foldl (fun s i => lifetimeTick i s) s

/-- A second event of the time base: the SECONDS lifetimes first, then the AT_TIME triggers (R152). -/
def secondEvent (s : State) : State := triggersEvent (.secondEvent s.time.seconds) (lifetimesEvent s)

/-! ### Reference ticks (R151, R152) -/

/-- The seconds one on, from 4,294,967,295 round to 0 (R152). -/
def nextSecond (n : Nat) : Nat := if n < 4294967295 then n + 1 else 0

/-- The count advanced by one microsecond (R152). -/
def TimeBase.micro (t : TimeBase) : TimeBase :=
  if t.micros < 999999 then { t with micros := t.micros + 1 }
  else { t with micros := 0, seconds := nextSecond t.seconds }

/-- A microsecond event: the count, then the pacers and refresh counts, then a millisecond event at a multiple of
1,000 and a second event at 0 (R152). -/
def microEvent (s : State) : State :=
  let s1 := { s with time := s.time.micro, links := mapTable Link.micro s.links }
  let s2 := if s1.time.micros % 1000 = 0 then milliEvent s1 else s1
  if s1.time.micros = 0 then secondEvent s2 else s2

/-- The window position one on (R151). -/
def nextWindow (w : Nat) : Nat := if w < 1048575 then w + 1 else 0

/-- How many microsecond events a tick at a window position produces under a trim (R151). -/
def tickEvents (window : Nat) (trim : Int) : Nat :=
  if window % 8192 = 0 ∧ window / 8192 < trim.natAbs then (if 0 < trim then 2 else 0) else 1

/-- `n` microsecond events, one after the other. -/
def microEvents : Nat → State → State
  | 0, s => s
  | n + 1, s => microEvents n (microEvent s)

/-- A reference tick: the window position moves on, and the tick at that position produces its events (R151;
log entry 11). -/
def tick (s : State) : State :=
  let w := nextWindow s.time.window
  microEvents (tickEvents w s.time.trim) { s with time := { s.time with window := w } }

/-- REFERENCE_TICK (R151), in every device mode. -/
def execReferenceTick (s : State) : Host.Outcome State Fault Refusal := .next (unlessHeld tick s)

/-! ### Pulse edges (R153) -/

/-- What a disciplined edge does to the count, by its offset (R153). -/
def disciplineEdge (s : State) : State :=
  if 999900 ≤ s.time.micros then
    secondEvent (milliEvent { s with time := { s.time with micros := 0, seconds := nextSecond s.time.seconds } })
  else if s.time.micros ≤ 100 then { s with time := { s.time with micros := 0 } }
  else { s with time := { s.time with outOfWindow := count48 s.time.outOfWindow 1 } }

/-- A rising edge on PULSE_IN: the time base under discipline, then every ARMED ON_PULSE trigger (R153). -/
def edge (s : State) : State := triggersEvent .pulseEdge (if s.time.discipline then disciplineEdge s else s)

/-- PULSE_EDGE (R153). -/
def execPulseEdge (s : State) : Host.Outcome State Fault Refusal := .next (unlessHeld edge s)

/-! ### Expiries as events of their own -/

/-- GRACE_EXPIRY: the millisecond event that takes a GRACE slot's grace remaining to 0 reaches that slot (R122). -/
def execGraceExpiry (stream : StreamNo) (slot : SlotNo) (s : State) : Host.Outcome State Fault Refusal :=
  .next (unlessHeld (fun s =>
    if (s.inSlot stream slot).state = .grace ∧ (s.inSlot stream slot).grace ≤ 1 then leaveInSlot stream slot s
    else s) s)

/-- LIFETIME_EXPIRY: the second event that takes the ACTIVE slot's SECONDS lifetime to its limit reaches that slot
(R41, R44). -/
def execLifetimeExpiry (stream : StreamNo) (s : State) : Host.Outcome State Fault Refusal :=
  .next (unlessHeld (fun s =>
    match (s.outStream stream).state with
    | .active a =>
      if (s.outSlot stream a).lifetimeKind = .seconds ∧ (s.outSlot stream a).accrued + 1 = (s.outSlot stream a).limit
      then secondAtSlot stream a s else s
    | _ => s) s)

end Sys2Proof.Machine
end

