-- ==== Sys2Proof/Machine/Dispatch.lean ====
section
/-! DEFINITION. The meaning of every command: one direct call each. -/

namespace Sys2Proof.Machine

def exec (i : Instr) (s : State) : Host.Outcome State Fault Refusal :=
  match i with
  | .poll params => Sys2Proof.Machine.execPoll params s
  | .identify params => Sys2Proof.Machine.execIdentify params s
  | .readStatus params => Sys2Proof.Machine.execReadStatus params s
  | .readNotices params => Sys2Proof.Machine.execReadNotices params s
  | .noticeSetup params => Sys2Proof.Machine.execNoticeSetup params s
  | .readCounters params => Sys2Proof.Machine.execReadCounters params s
  | .deviceSetup params => Sys2Proof.Machine.execDeviceSetup params s
  | .linkSetup params => Sys2Proof.Machine.execLinkSetup params s
  | .rampSet params => Sys2Proof.Machine.execRampSet params s
  | .linkStart params => Sys2Proof.Machine.execLinkStart params s
  | .linkStop params => Sys2Proof.Machine.execLinkStop params s
  | .readLink params => Sys2Proof.Machine.execReadLink params s
  | .readLinkChanges params => Sys2Proof.Machine.execReadLinkChanges params s
  | .rulePut params => Sys2Proof.Machine.execRulePut params s
  | .ruleDrop params => Sys2Proof.Machine.execRuleDrop params s
  | .readRule params => Sys2Proof.Machine.execReadRule params s
  | .streamOpen params => Sys2Proof.Machine.execStreamOpen params s
  | .streamClose params => Sys2Proof.Machine.execStreamClose params s
  | .readStream params => Sys2Proof.Machine.execReadStream params s
  | .keyLoad params => Sys2Proof.Machine.execKeyLoad params s
  | .keyRetire params => Sys2Proof.Machine.execKeyRetire params s
  | .keySwitch params => Sys2Proof.Machine.execKeySwitch params s
  | .kwkLoad params => Sys2Proof.Machine.execKwkLoad params s
  | .kwkErase params => Sys2Proof.Machine.execKwkErase params s
  | .timeSet params => Sys2Proof.Machine.execTimeSet params s
  | .timeTrim params => Sys2Proof.Machine.execTimeTrim params s
  | .timeRead params => Sys2Proof.Machine.execTimeRead params s
  | .triggerArm params => Sys2Proof.Machine.execTriggerArm params s
  | .triggerCancel params => Sys2Proof.Machine.execTriggerCancel params s
  | .triggerRelease params => Sys2Proof.Machine.execTriggerRelease params s
  | .readTrigger params => Sys2Proof.Machine.execReadTrigger params s
  | .restart params => Sys2Proof.Machine.execRestart params s
  | .zeroize params => Sys2Proof.Machine.execZeroize params s
  | .alarmClear params => Sys2Proof.Machine.execAlarmClear params s
  | .readRetained params => Sys2Proof.Machine.execReadRetained params s
  | .unknownRequest code params => Sys2Proof.Machine.execUnknownRequest code params s
  | .recordCheckFailed head body check => Sys2Proof.Machine.execRecordCheckFailed head body check s
  | .recordIgnored head body check => Sys2Proof.Machine.execRecordIgnored head body check s
  | .recordLenInvalid len => Sys2Proof.Machine.execRecordLenInvalid len s
  | .framingError => Sys2Proof.Machine.execFramingError s
  | .recordGapTimeout => Sys2Proof.Machine.execRecordGapTimeout s
  | .overlapByte byte => Sys2Proof.Machine.execOverlapByte byte s
  | .replyEnd => Sys2Proof.Machine.execReplyEnd s
  | .powerOn => Sys2Proof.Machine.execPowerOn s
  | .pinReset => Sys2Proof.Machine.execPinReset s
  | .resetRelease address rateHigh => Sys2Proof.Machine.execResetRelease address rateHigh s
  | .selfTestComplete passed => Sys2Proof.Machine.execSelfTestComplete passed s
  | .tamperAssert => Sys2Proof.Machine.execTamperAssert s
  | .tamperDeassert => Sys2Proof.Machine.execTamperDeassert s
  | .referenceTick => Sys2Proof.Machine.execReferenceTick s
  | .rampStageEnd link => Sys2Proof.Machine.execRampStageEnd link s
  | .pauseRefresh link => Sys2Proof.Machine.execPauseRefresh link s
  | .graceExpiry stream slot => Sys2Proof.Machine.execGraceExpiry stream slot s
  | .lifetimeExpiry stream => Sys2Proof.Machine.execLifetimeExpiry stream s
  | .pulseEdge => Sys2Proof.Machine.execPulseEdge s
  | .triggerFire slot event => Sys2Proof.Machine.execTriggerFire slot event s
  | .faceUp link side => Sys2Proof.Machine.execFaceUp link side s
  | .faceDown link side => Sys2Proof.Machine.execFaceDown link side s
  | .frameReceived link side frame => Sys2Proof.Machine.execFrameReceived link side frame s
  | .pauseSend link => Sys2Proof.Machine.execPauseSend link s
  | .transmissionEnd link side => Sys2Proof.Machine.execTransmissionEnd link side s
  | .outboundGrant read => Sys2Proof.Machine.execOutboundGrant read s
  | .inboundGrant read => Sys2Proof.Machine.execInboundGrant read s
  | .keyPreparationGrant => Sys2Proof.Machine.execKeyPreparationGrant s
  | .laneCompletion lane => Sys2Proof.Machine.execLaneCompletion lane s
  | .keyJobCompletion => Sys2Proof.Machine.execKeyJobCompletion s
  | .outboundRelease link => Sys2Proof.Machine.execOutboundRelease link s
  | .inboundRelease link => Sys2Proof.Machine.execInboundRelease link s
  | .drainComplete link => Sys2Proof.Machine.execDrainComplete link s
  | .byteReceived byte => Sys2Proof.Machine.execByteReceived byte s

end Sys2Proof.Machine
end

