-- ==== Sys2Proof/Safety.lean ====
section
/-! DEFINITION. The terms statements are made in: when a request is taken, the three replies, refusals in their order,
the request commands of Table 10-4, what no reply may show, and the invariants of the part. -/

namespace Sys2Proof.Machine

/-! ### Taking requests -/

/-- No reset is held and no reply is owed or being sent, so the part takes the next request (R166, R181). -/
def State.listens (s : State) : Prop := s.resetHeld = none ∧ s.line.reply = none

/-- The part takes the next request and is RUNNING, the mode that admits every request (R185). -/
def State.serves (s : State) : Prop := s.listens ∧ s.mode = .running

/-- The part takes the next request in RUNNING or ALARM, the modes that admit the reading requests (R185). -/
def State.reads (s : State) : Prop := s.listens ∧ (s.mode = .running ∨ s.mode = .alarm)

/-- The part takes the next request in RUNNING, ALARM or FAILED. -/
def State.leftStarting (s : State) : Prop := s.listens ∧ s.mode ≠ .starting

/-- The state `s` with the reply DONE to a request owed (R181). -/
def answersDone (code : Byte) (s : State) : State := setReply { kind := .done, code := code, content := .bytes [] } s

/-- The state `s` with a DATA reply owed (R181). -/
def answersData (code : Byte) (data : List Byte) (s : State) : State :=
  setReply { kind := .data, code := code, content := .bytes data } s

/-- The state `s` with a REFUSED reply owed: refusal class, then detail (R181, R183). -/
def answersRefused (code classCode detail : Byte) (s : State) : State :=
  setReply { kind := .refused, code := code, content := .bytes [classCode, detail] } s

/-- The first of a list of checks that fails, with its refusal class and detail. -/
def firstRefusal : List (Bool × Byte × Byte) → Option (Byte × Byte)
  | [] => none
  | (fails, r) :: rest => if fails then some r else firstRefusal rest

/-- The request commands with their codes (Table 10-4). -/
def requestCommands : List (Byte × (List Byte → Instr)) :=
  [(0x01, .poll), (0x02, .identify), (0x03, .readStatus), (0x04, .readNotices), (0x05, .noticeSetup),
   (0x06, .readCounters), (0x10, .deviceSetup)] ++
  [(0x20, .linkSetup), (0x21, .rampSet), (0x22, .linkStart), (0x23, .linkStop), (0x24, .readLink),
   (0x25, .readLinkChanges), (0x30, .rulePut), (0x31, .ruleDrop), (0x32, .readRule)] ++
  [(0x40, .streamOpen), (0x41, .streamClose), (0x42, .readStream), (0x43, .keyLoad), (0x44, .keyRetire),
   (0x45, .keySwitch), (0x46, .kwkLoad), (0x47, .kwkErase)] ++
  [(0x50, .timeSet), (0x51, .timeTrim), (0x52, .timeRead), (0x53, .triggerArm), (0x54, .triggerCancel),
   (0x55, .triggerRelease), (0x56, .readTrigger)] ++
  [(0x60, .restart), (0x61, .zeroize), (0x62, .alarmClear), (0x63, .readRetained)]

/-- LEN, one more than the number of parameter bytes, fits the request code (Table 10-4; R4, R16, R145, R158). -/
def lengthFits (code : Byte) (ps : List Byte) : Bool :=
  let len := ps.length + 1
  if code = 0x21 then decide (3 ≤ len) && len == 3 + 6 * byteAt ps 1
  else if code = 0x53 then decide (12 ≤ len) && len == 12 + byteAt ps 10
  else if code = 0x40 then (len == 7 && byteAt ps 0 != 1) || (len == 11 && byteAt ps 0 != 0)
  else if code = 0x43 then (len == 78 && byteAt ps 0 != 0) || (len == 99 && byteAt ps 0 != 1)
  else if ([0x04, 0x22, 0x31, 0x32, 0x54, 0x55, 0x56] : List Byte).contains code then len == 2
  else if ([0x23, 0x24, 0x41, 0x42, 0x45, 0x51] : List Byte).contains code then len == 3
  else if ([0x06, 0x10, 0x44] : List Byte).contains code then len == 4
  else if code = 0x50 then len == 5
  else if code = 0x05 then len == 6
  else if code = 0x30 then len == 10
  else if code = 0x20 then len == 16
  else if code = 0x46 then len == 33
  else len == 1

/-- The commands a part held in reset still takes: resets, the release, and TAMPER_N (R166, R170). -/
def reachesHeldPart : Instr → Bool
  | .powerOn => true
  | .pinReset => true
  | .resetRelease _ _ => true
  | .tamperAssert => true
  | .tamperDeassert => true
  | _ => false

/-! ### Secrets (R8, R10, R29, R181) -/

/-- A key and salt covered. -/
def Secret.covered (_ : Secret) : Secret := { key := 0, salt := 0 }

/-- A slot with its hidden fields covered; whether they are present stays. -/
def OutSlot.covered (sl : OutSlot) : OutSlot := { sl with secret := sl.secret.map Secret.covered }

/-- A slot with its hidden fields covered. -/
def InSlot.covered (sl : InSlot) : InSlot := { sl with secret := sl.secret.map Secret.covered }

/-- A lane with its working copies covered. -/
def Lane.covered : Lane → Lane
  | .free => .free
  | .protect l x n => .protect l x.covered n
  | .verify l x n => .verify l x.covered n
  | .job _ => .job 0

/-- The state with every key, salt and key-wrap key covered: two states that agree here differ only in secrets. -/
def State.covered (s : State) : State :=
  { s with
    kwk := s.kwk.map fun _ => 0
    outs := mapTable (fun st => { st with slots := mapTable OutSlot.covered st.slots }) s.outs
    ins := mapTable (fun st => { st with slots := mapTable InSlot.covered st.slots }) s.ins
    lanes := mapTable Lane.covered s.lanes }

/-! ### Ranges of the settings and counters -/

/-- The ranges of R150. -/
def TimeBase.inRange (t : TimeBase) : Prop :=
  t.seconds < 2 ^ 32 ∧ t.micros ≤ 999999 ∧ t.window ≤ 1048575 ∧ -127 ≤ t.trim ∧ t.trim ≤ 127 ∧ t.outOfWindow < 2 ^ 48

/-- The envelope type is at least 0x0600 and never 0x8100 (R73); G is 1 to 7 and g at most 7 (R92). -/
def State.settingsInRange (s : State) : Prop :=
  0x0600 ≤ s.envelopeType ∧ s.envelopeType ≠ 0x8100 ∧ s.envelopeType < 2 ^ 16 ∧ 1 ≤ s.arbiter.rotation ∧
    s.arbiter.rotation ≤ 7 ∧ s.arbiter.count ≤ 7

/-- The assembly holds what the layout of Table 10-1 allows (R179). -/
def Assembly.fits : Assembly → Prop
  | .hunt => True
  | .head => True
  | .len _ => True
  | .body _head left got => 1 ≤ left ∧ got.length + left ≤ 120
  | .check _head bs => 1 ≤ bs.length ∧ bs.length ≤ 120

/-- The line counters are 16 bits wide (R182); the assembly is legal, and in HUNT while a reply is owed or being sent
(R179, R181); a RESTART waits only for the end of its reply (R174). -/
def Line.legal (ln : Line) : Prop :=
  ln.assembly.fits ∧ (ln.reply ≠ none → ln.assembly = .hunt) ∧ (ln.restartPending → ln.reply ≠ none) ∧
    ln.broken ≤ 65535 ∧ ln.framing ≤ 65535 ∧ ln.check ≤ 65535 ∧ ln.overlap ≤ 65535

/-! ### Links (R84, R98, R134, R139, R141, R145) -/

/-- The ranges of the seven settings, two of which have no other range than their type (Table 7-1). -/
def LinkSettings.inRange (v : LinkSettings) : Prop :=
  1550 ≤ v.campusMax ∧ v.campusMax ≤ 9728 ∧ 1 ≤ v.highMark ∧ v.highMark ≤ 512 ∧ v.lowMark < v.highMark ∧
    1 ≤ v.rate ∧ v.rate ≤ 100000 ∧ 77984 ≤ v.burst ∧ v.burst ≤ 16000000

/-- A ramp stage as RAMP_SET takes it, under a committed rate (R145). -/
def Stage.inRange (committed : Nat) (st : Stage) : Prop :=
  1 ≤ st.rate ∧ st.rate ≤ committed ∧ 1 ≤ st.duration ∧ st.duration ≤ 1000000

/-- The pacer's phase by the link's state and its campus face, the rate by the phase, and the bounds of the credit:
at most B, and above −77,984, because a send needs a credit above 0 and is charged at most 77,984 bits (R141, R143). -/
def Link.pacerLegal (k : Link) : Prop :=
  -77983 ≤ k.pacer.credit ∧ k.pacer.credit ≤ k.settings.burst ∧
    match k.pacer.phase with
    | .idle => k.state = .off ∧ k.pacer.credit = 0 ∧ k.pacer.rate = 0
    | .held => k.state ≠ .off ∧ k.campus.up = false ∧ k.pacer.credit = 0 ∧ k.pacer.rate = 0
    | .ramp n left =>
      k.state ≠ .off ∧ k.campus.up = true ∧ 1 ≤ n ∧ 1 ≤ left ∧
        ∃ st ∈ k.ramp[n - 1]?, k.pacer.rate = st.rate ∧ left ≤ st.duration
    | .steady => k.state ≠ .off ∧ k.campus.up = true ∧ k.pacer.rate = k.settings.rate

/-- What a link keeps: settings and ramp stages in their ranges; queues within their capacity and lists within 64 items,
none longer on the campus face than the campus maximum; an OFF link empty, a link that carries traffic set up; the pacer
as R141 has it. -/
def Link.legal (k : Link) : Prop :=
  k.settings.inRange ∧ k.ramp.length ≤ 16 ∧ (∀ st ∈ k.ramp, st.inRange k.settings.rate) ∧
    occupancy k.outQueue ≤ Config.queueCapacity ∧ occupancy k.inQueue ≤ Config.queueCapacity ∧
    k.outList.length ≤ Config.listCapacity ∧ k.inList.length ≤ Config.listCapacity ∧
    (∀ it ∈ k.outList, it.length ≤ k.settings.campusMax) ∧
    (k.state = .off → k.outQueue = [] ∧ k.inQueue = [] ∧ k.outList = [] ∧ k.inList = []) ∧
    (k.state ≠ .off → k.setUp = true) ∧ k.pacerLegal

/-- Every link is legal, and the link-change buffer holds at most 2 entries. -/
def State.linksLegal (s : State) : Prop := (∀ l, (s.link l).legal) ∧ s.linkChanges.length ≤ 2

/-! ### Notices (R189) -/

/-- A kind's sets are empty whenever it is not pending. -/
def Notice.legal (n : Notice) : Prop := n.pending = false → n.outs = 0 ∧ n.ins = 0 ∧ n.triggers = 0 ∧ n.links = 0

/-- Every notice kind is legal. -/
def State.noticesLegal (s : State) : Prop := ∀ k, (s.notices.get k).legal

/-- `after` is the notice kind `before` once it has been raised for exactly the members of `raised`: an enabled kind is
pending with those members added to its sets, a disabled one is as it was (R190). -/
def Notice.raisedFor (before after : Notice) (raised : NoticeMember → Prop) : Prop :=
  after.enabled = before.enabled ∧ after.attention = before.attention ∧
    (after.pending = true ↔ before.pending = true ∨ (before.enabled = true ∧ ∃ m, raised m)) ∧
    (∀ i : StreamNo,
      after.outs.getLsbD i.1 = true ↔ before.outs.getLsbD i.1 = true ∨ (before.enabled = true ∧ raised (.outStream i))) ∧
    (∀ i : StreamNo,
      after.ins.getLsbD i.1 = true ↔ before.ins.getLsbD i.1 = true ∨ (before.enabled = true ∧ raised (.inStream i))) ∧
    (∀ j : TriggerNo,
      after.triggers.getLsbD j.1 = true ↔
        before.triggers.getLsbD j.1 = true ∨ (before.enabled = true ∧ raised (.trigger j))) ∧
    ∀ l : LinkNo,
      after.links.getLsbD l.1 = true ↔ before.links.getLsbD l.1 = true ∨ (before.enabled = true ∧ raised (.link l))

/-- From `s` to `t` the notices raised are exactly those of `raised`, kind by kind: every other kind, set and mask is as
it was. The 15 kinds are all the notices there are. -/
def State.raisesExactly (s t : State) (raised : NoticeKind → NoticeMember → Prop) : Prop :=
  ∀ k : NoticeKind, (s.notices.get k.number).raisedFor (t.notices.get k.number) (raised k)

/-! ### Modes (R32, R165) -/

/-- No slot holds a key, no job waits, no link runs and no trigger is ARMED. -/
def State.quiet (s : State) : Prop :=
  (∀ i k, (s.outSlot i k).state = .empty ∧ (s.outSlot i k).secret = none) ∧
    (∀ i k, (s.inSlot i k).state = .empty ∧ (s.inSlot i k).secret = none) ∧
    (∀ i, (s.outStream i).state = .unused ∨ (s.outStream i).state = .opened) ∧
    s.keyUnit.jobs = [] ∧ s.keyUnit.working = none ∧ (∀ n, s.lanes.get n = .free) ∧
    (∀ l, (s.link l).state = .off ∧ (s.link l).outQueue = [] ∧ (s.link l).inQueue = [] ∧ (s.link l).outList = [] ∧
      (s.link l).inList = []) ∧
    (∀ j, s.triggers.get j = .empty)

/-- Outside RUNNING the part is quiet, and in ALARM its key-wrap key store is empty. -/
def State.quietOutsideRunning (s : State) : Prop :=
  (s.mode ≠ .running → s.quiet) ∧ (s.mode = .alarm → s.kwk = none)

/-! ### Streams, slots and load jobs (R3, R9 to R14, R15, R33, R47) -/

/-- The frame numbers of a loaded outbound slot: 1 ≤ initial ≤ S ≤ N ≤ 2^48 − 1, next FN not below the initial FN and
at most `last` (R17, R33). -/
def OutSlot.numbered (sl : OutSlot) (last : Nat) : Prop :=
  1 ≤ sl.initialFn ∧ sl.initialFn ≤ sl.soft ∧ sl.soft ≤ sl.hard ∧ sl.hard ≤ Config.maxFn ∧
    sl.initialFn ≤ sl.nextFn ∧ sl.nextFn ≤ last

/-- What an outbound slot keeps by its state: EMPTY with every field cleared, LOADING without a key, READY with nothing
in flight, DRAINING with something in flight, and from READY on a key with next FN within the load's range, or one past
the hard limit once it drains. -/
def OutSlot.legal (sl : OutSlot) : Prop :=
  match sl.state with
  | .empty => sl = OutSlot.empty sl.lastLoad
  | .loading => sl = { OutSlot.empty .none with state := .loading }
  | .ready => sl.secret ≠ none ∧ sl.inFlight = 0 ∧ sl.numbered sl.hard
  | .active => sl.secret ≠ none ∧ sl.numbered sl.hard
  | .draining => sl.secret ≠ none ∧ 0 < sl.inFlight ∧ sl.numbered (sl.hard + 1)

/-- What an outbound stream keeps: its ACTIVE slot is the one its state names, a READY slot only while it is ACTIVE, no
slot in use while UNUSED, and a pending switch only while ACTIVE and to a LOADING other slot. -/
def OutStream.legal (st : OutStream) : Prop :=
  (∀ k, (st.slots.get k).legal) ∧
    (∀ k, (st.slots.get k).state = .active ↔ st.state = .active k) ∧
    (∀ k, (st.slots.get k).state = .ready → ∃ a, st.state = .active a) ∧
    (st.state = .unused → ∀ k, (st.slots.get k).state = .empty) ∧
    (∀ k, st.pendingSwitch = some k →
      ∃ a, st.state = .active a ∧ k = otherSlot a ∧ (st.slots.get k).state = .loading)

/-- The replay state of a loaded inbound slot: the lower bound a valid frame number, the highest accepted not below the
lower bound minus 1, and no bit of the bitmap at or above the window (R8, R10, R112). -/
def InSlot.windowed (sl : InSlot) (window : Nat) : Prop :=
  1 ≤ sl.lower ∧ sl.lower ≤ Config.maxFn ∧ sl.lower - 1 ≤ sl.highest ∧
    ∀ b : Fin 64, window ≤ b.1 → sl.bitmap.getLsbD b.1 = false

/-- What an inbound slot keeps by its state, under its stream's window and grace: EMPTY with every field cleared, LOADING
without a key, READY with its window as loaded, GRACE with time left, DRAINING with something in flight. -/
def InSlot.legal (sl : InSlot) (window grace : Nat) : Prop :=
  match sl.state with
  | .empty => sl = InSlot.empty sl.lastLoad
  | .loading => sl = { InSlot.empty .none with state := .loading }
  | .ready =>
    sl.secret ≠ none ∧ sl.windowed window ∧ sl.grace = 0 ∧ sl.highest = sl.lower - 1 ∧ sl.bitmap = 0
  | .active => sl.secret ≠ none ∧ sl.windowed window ∧ sl.grace = 0
  | .grace => sl.secret ≠ none ∧ sl.windowed window ∧ 1 ≤ sl.grace ∧ sl.grace ≤ grace
  | .draining => sl.secret ≠ none ∧ sl.windowed window ∧ sl.grace = 0 ∧ 0 < sl.inFlight

/-- What an inbound stream keeps: its settings in their ranges, every slot legal, at most one ACTIVE slot, and no slot in
use while UNUSED. -/
def InStream.legal (st : InStream) : Prop :=
  st.window ≤ 64 ∧ st.grace ≤ 10000 ∧ (∀ k, (st.slots.get k).legal st.window st.grace) ∧
    (∀ k, (st.slots.get k).state = .active → (st.slots.get (otherSlot k)).state ≠ .active) ∧
    (st.isOpen = false → ∀ k, (st.slots.get k).state = .empty)

/-- The slot a job loads is LOADING, and its frame numbers are in order (R15, R17). -/
def Job.legal (s : State) (j : Job) : Prop :=
  match j.range with
  | .out initial soft hard _ _ _ =>
    (s.outSlot j.stream j.slot).state = .loading ∧ 1 ≤ initial ∧ initial ≤ soft ∧ soft ≤ hard ∧ hard ≤ Config.maxFn
  | .inn lower => (s.inSlot j.stream j.slot).state = .loading ∧ 1 ≤ lower ∧ lower ≤ Config.maxFn

/-- What a job loads. -/
def Job.target (j : Job) : Dir × StreamNo × SlotNo := (j.range.dir, j.stream, j.slot)

/-- The streams, slots and jobs keep their rules: every stream legal, at most 4 jobs, every job on a LOADING slot of its
own. -/
def State.slotsLegal (s : State) : Prop :=
  (∀ i, (s.outStream i).legal) ∧ (∀ i, (s.inStream i).legal) ∧ s.keyUnit.jobs.length ≤ Config.loadQueueDepth ∧
    (∀ j ∈ s.keyUnit.jobs, j.legal s) ∧ (s.keyUnit.jobs.map Job.target).Nodup

/-! ### Work in flight (R11) -/

/-- The slot a work item references. -/
def Item.reference (it : Item) : Option (Dir × StreamNo × SlotNo) :=
  match it.body with
  | .pass _ => none
  | .protect ref _ _ _ => some (.out, ref.stream, ref.slot)
  | .verify ref _ _ _ _ => some (.inn, ref.stream, ref.slot)

/-- How many items of the reorder lists reference a slot. -/
def State.references (s : State) (d : Dir) (i : StreamNo) (k : SlotNo) : Nat :=
  (s.links.toList.map fun x => ((x.outList ++ x.inList).filter fun it => it.reference == some (d, i, k)).length).sum

/-- Every slot's in-flight count equals the number of items that reference it (R11). -/
def State.countsInFlight (s : State) : Prop :=
  (∀ i k, (s.outSlot i k).inFlight = s.references .out i k) ∧ (∀ i k, (s.inSlot i k).inFlight = s.references .inn i k)

/-! ### Lanes (R15, R89, R96, R97) -/

/-- The link of the PROTECT item a lane holds. -/
def Lane.protects : Lane → Option LinkNo
  | .free => none
  | .protect l _ _ => some l
  | .verify _ _ _ => none
  | .job _ => none

/-- The link of the VERIFY item a lane holds. -/
def Lane.verifies : Lane → Option LinkNo
  | .free => none
  | .protect _ _ _ => none
  | .verify l _ _ => some l
  | .job _ => none

/-- The lane holds a load job. -/
def Lane.holdsJob : Lane → Bool
  | .free => false
  | .protect _ _ _ => false
  | .verify _ _ _ => false
  | .job _ => true

/-- How many items of a list are ON_LANE on lane `n`. -/
def itemsOnLane (n : LaneNo) (items : List Item) : Nat := (items.filter fun it => it.state == .onLane n).length

/-- An item of link `l`'s list of direction `d`, as its grant and its lane completion leave it: PASS is DONE from its
grant, a PROTECT item has a tag, and a VERIFY item a result, exactly when it is DONE (R96, R97). -/
def Item.legal (d : Dir) (l : LinkNo) (it : Item) : Prop :=
  it.dir = d ∧ it.link = l ∧
    match it.body with
    | .pass _ => it.state = .done
    | .protect _ _ _ tag => d = .out ∧ (it.state = .done ↔ tag ≠ none)
    | .verify _ _ _ _ result => d = .inn ∧ (it.state = .done ↔ result ≠ none)

/-- The lane pool: a BUSY lane is an enabled one, and holds either exactly one ON_LANE item, of the link and direction it
names, or the WORKING load job; no item and no job is on a lane that does not hold it; every item of a list is legal; in
RUNNING and ALARM at least 2 lanes are enabled. -/
def State.lanesLegal (s : State) : Prop :=
  (∀ n, s.lanes.get n ≠ .free → s.lanesEnabled.getLsbD n.1 = true) ∧
    (∀ n, s.keyUnit.working = some n ↔ (s.lanes.get n).holdsJob = true) ∧
    (s.keyUnit.working ≠ none → s.keyUnit.jobs ≠ []) ∧
    (∀ l n, itemsOnLane n (s.link l).outList = if (s.lanes.get n).protects = some l then 1 else 0) ∧
    (∀ l n, itemsOnLane n (s.link l).inList = if (s.lanes.get n).verifies = some l then 1 else 0) ∧
    (∀ l, (∀ it ∈ (s.link l).outList, it.legal .out l) ∧ ∀ it ∈ (s.link l).inList, it.legal .inn l) ∧
    (s.mode = .running ∨ s.mode = .alarm → 2 ≤ laneCount s.lanesEnabled)

/-! ### Rules and triggers (R72, R159) -/

/-- Every valid PROTECT rule names an out-stream that is not UNUSED, and its link set is that stream's link (R72). -/
def State.rulesNameOpenStreams (s : State) : Prop :=
  ∀ r, (s.rules.get r).valid = true → (s.rules.get r).action = .protect →
    (s.outStream (s.rules.get r).stream).state ≠ .unused ∧
      (s.rules.get r).linkSet = BitVec.ofNat 4 (2 ^ (s.outStream (s.rules.get r).stream).link.1)

/-- The streams listed and the link named by an ARMED trigger; none for any other slot. -/
def TriggerSlot.named : TriggerSlot → List StreamNo × Option LinkNo
  | .empty => ([], none)
  | .armed _ a => (a.streams, a.link?)
  | .faulted _ _ _ _ => ([], none)

/-- A stream appears in at most one ARMED trigger's SWITCH list, and once there; a link is named by at most one (R159). -/
def State.triggersDisjoint (s : State) : Prop :=
  (∀ j, (s.triggers.get j).named.1.Nodup) ∧
    ∀ j j', j ≠ j' →
      (∀ i, i ∈ (s.triggers.get j).named.1 → i ∉ (s.triggers.get j').named.1) ∧
        (∀ l, (s.triggers.get j).named.2 = some l → (s.triggers.get j').named.2 ≠ some l)

/-- How many streams a trigger slot's action lists. -/
def TriggerSlot.listed : TriggerSlot → Nat
  | .empty => 0
  | .armed _ a => a.streams.length
  | .faulted _ a _ _ => a.streams.length

/-- The triggers name streams and links disjointly, and none lists more than 8 streams (R158, R159). -/
def State.triggersLegal (s : State) : Prop := s.triggersDisjoint ∧ ∀ j, (s.triggers.get j).listed ≤ 8

/-! ### Replay (R112, R117, R118) -/

/-- A run of frame numbers judged one after the other under a slot, with those delivered, oldest first. -/
def deliveries (w : Nat) : InSlot → List Nat → List Nat
  | _, [] => []
  | sl, p :: ps => if replayPasses sl w p then p :: deliveries w (sl.windowUpdated w p) ps else deliveries w sl ps

end Sys2Proof.Machine
end

