-- ==== Sys2Proof/Certificates/Slice0/Obligations.lean ====
section
/-! DEFINITION. The statements for the provers, each with the rule of the manual it rests on. -/

open Sys2Proof Sys2Proof.Machine

/-- A step is one command, whole and indivisible. That an empty queue idles is the model's choice (log entry 1). -/
def Obligations.StepTakesFrontCommand : Prop :=
  (∀ (c : Instr) (rest : List Instr) (s : State), s.pending = c :: rest → step s = exec c { s with pending := rest }) ∧
    ∀ s : State, s.pending = [] → step s = .next s

/-- No command faults or is refused in any state, and none touches the commands that wait behind it. That an event command
whose condition does not hold answers the state as it is, and that the queue is the model's own, are the model's choices
(log entries 1 and 19). -/
def Obligations.EveryCommandCompletes : Prop :=
  ∀ (c : Instr) (s : State), ∃ t, exec c s = .next t ∧ t.pending = s.pending

/-- The bytes of a record, received one by one from HUNT, are taken as the request they spell (R179, R180): the byte
path and the command path of the model agree. -/
def Obligations.BytesMakeRequests : Prop :=
  ∀ (code : Byte) (mk : List Byte → Instr) (ps : List Byte) (s : State),
    (code, mk) ∈ requestCommands → ps.length + 1 ≤ 120 → s.listens → s.line.assembly = .hunt →
      Host.Core.run Sys2Proof.core (ps.length + 5)
          { s with pending := (recordBytes (requestHead s.address) (code :: ps)).map Instr.byteReceived ++ s.pending } =
        exec (mk ps) s

/-- While a reset is held the part answers nothing and does nothing (R166); only resets, the release and TAMPER_N reach
it. -/
def Obligations.HeldPartTakesOnlyResets : Prop :=
  ∀ (c : Instr) (s : State), s.resetHeld ≠ none → reachesHeldPart c = false → exec c s = .next s

/-- A refused request changes no state (R183): what is left is the reply. -/
def Obligations.RefusalsChangeOnlyTheLine : Prop :=
  ∀ (code : Byte) (mk : List Byte → Instr) (ps : List Byte) (s t : State) (r : Reply),
    (code, mk) ∈ requestCommands → s.line.reply = none → exec (mk ps) s = .next t → t.line.reply = some r →
      r.kind = .refused → t = { s with line := { s.line with assembly := .hunt, reply := some r } }

/-- LEN by Table 10-4 and then the mode table (R185), steps 2 and 3 of R183. -/
def Obligations.LengthThenModeAdmitsRequests : Prop :=
  ∀ (code : Byte) (mk : List Byte → Instr) (ps : List Byte) (s : State),
    (code, mk) ∈ requestCommands → s.listens →
      (lengthFits code ps = false → exec (mk ps) s = .next (answersRefused code 0x01 0x00 s)) ∧
      (lengthFits code ps = true → s.mode = .starting → code ∉ ([0x01, 0x02, 0x03] : List Byte) →
        exec (mk ps) s = .next (answersRefused code 0x05 0x01 s)) ∧
      (lengthFits code ps = true → s.mode = .failed → code ∉ ([0x01, 0x02, 0x03, 0x63, 0x60] : List Byte) →
        exec (mk ps) s = .next (answersRefused code 0x05 0x02 s)) ∧
      (lengthFits code ps = true → s.mode = .alarm →
        code ∉ ([0x01, 0x02, 0x03, 0x04, 0x06, 0x24, 0x25, 0x32, 0x42, 0x56, 0x63, 0x05, 0x50, 0x51, 0x52, 0x62, 0x60,
          0x61] : List Byte) → exec (mk ps) s = .next (answersRefused code 0x03 0x00 s))

/-- R181 with the reply half of Table 10-1: kinds 100 DONE, 101 DATA, 110 REFUSED, LEN at most 120. The bytes of a
READ_STREAM reply are a free function of its fields, at most 119 of them (log entry 6). -/
def Obligations.RepliesFitARecord : Prop :=
  ∀ (code : Byte) (mk : List Byte → Instr) (ps : List Byte) (s t : State) (r : Reply),
    (code, mk) ∈ requestCommands → s.linksLegal → s.triggersLegal → s.line.reply = none →
      exec (mk ps) s = .next t → t.line.reply = some r →
        let head := (match r.kind with
          | .done => 4
          | .data => 5
          | .refused => 6) * 32 + s.address.toNat
        r.code = code ∧ r.body.head? = some code ∧ r.body.length ≤ 120 ∧ (r.kind = .done → r.body = [code]) ∧
        (r.kind = .refused → ∃ classCode detail : Byte, r.body = [code, classCode, detail]) ∧
        ∃ check : Byte,
          replyOnLine t =
            some ([0xC6, BitVec.ofNat 8 head, BitVec.ofNat 8 r.body.length] ++ r.body ++ [check]) ∧
          (head + r.body.length + (r.body.map BitVec.toNat).sum + check.toNat) % 256 = 0

/-- No reply carries key material, a salt or the key-wrap key (R181). -/
def Obligations.RepliesShowNoSecret : Prop :=
  ∀ (code : Byte) (mk : List Byte → Instr) (ps : List Byte) (s s' t t' : State),
    (code, mk) ∈ requestCommands → s.covered = s'.covered → exec (mk ps) s = .next t → exec (mk ps) s' = .next t' →
      t.line.reply = t'.line.reply

/-- The ranges of R150, R73 and R92, and the law of R189 on the sets. -/
def Obligations.RangesAndNoticeSetsAreKept : Prop :=
  ∀ s t : State, s.time.inRange → s.settingsInRange → s.noticesLegal → step s = .next t →
    t.time.inRange ∧ t.settingsInRange ∧ t.noticesLegal

/-- The receive assembly and the line counters (R179, R181, R182). -/
def Obligations.LineStaysLegal : Prop :=
  ∀ s t : State, s.line.legal → step s = .next t → t.line.legal

/-- The links' own invariants (R84, R98, R129, R134, R139, R141, R143, R145). -/
def Obligations.LinksStayLegal : Prop :=
  ∀ s t : State, s.linksLegal → step s = .next t → t.linksLegal

/-- The modes' columns for links and key material (R165, R32). -/
def Obligations.OnlyRunningHoldsKeys : Prop :=
  ∀ s t : State, s.quietOutsideRunning → step s = .next t → t.quietOutsideRunning

/-- The laws of the stream table and the key preparation unit (R3, R8, R10, R12, R14, R15, R33, R47). The in-flight counts
enter as a premise because a delivery under a slot relies on them; CountsMatchItems keeps them. -/
def Obligations.SlotsKeepTheirStates : Prop :=
  ∀ s t : State, s.slotsLegal → s.countsInFlight → step s = .next t → t.slotsLegal

/-- Each slot's in-flight count equals the number of work items in the reorder lists that reference that slot (R11); a BUSY
lane is enabled and holds exactly one item or the WORKING job (R15, R89, R96, R97). -/
def Obligations.CountsMatchItems : Prop :=
  (∀ s t : State, s.slotsLegal → s.linksLegal → s.countsInFlight → step s = .next t → t.countsInFlight) ∧
    ∀ s t : State, s.quietOutsideRunning → s.lanesLegal → step s = .next t → t.lanesLegal

/-- The first sentence of R72. -/
def Obligations.RulesNameOpenStreams : Prop :=
  ∀ s t : State, s.rulesNameOpenStreams → step s = .next t → t.rulesNameOpenStreams

/-- The law of R159, and the 8 streams of R158. -/
def Obligations.TriggersStayDisjoint : Prop :=
  ∀ s t : State, s.triggersLegal → step s = .next t → t.triggersLegal

/-- The reset columns of the chapters meet the laws the steps keep. -/
def Obligations.ResetMeetsInvariants : Prop :=
  State.reset.time.inRange ∧ State.reset.settingsInRange ∧ State.reset.line.legal ∧ State.reset.linksLegal ∧
    State.reset.noticesLegal ∧ State.reset.quietOutsideRunning ∧ State.reset.slotsLegal ∧ State.reset.countsInFlight ∧
    State.reset.lanesLegal ∧ State.reset.rulesNameOpenStreams ∧ State.reset.triggersLegal

/-- R186 and R187, the layouts byte by byte. That the time valid flag reads as 1 or 0 is log entry 8. -/
def Obligations.StatusRequestsAnswer : Prop :=
  ∀ s : State, s.listens →
    exec (.poll []) s = .next (answersData 0x01 (bytesOfNat 1 s.mode.encoded ++ bytesOfNat 2 (pendingKinds s)) s) ∧
    (∀ k : Fin 15, (pendingKinds s).testBit k.1 = (s.notices.get k).pending) ∧ pendingKinds s < 2 ^ 15 ∧
    exec (.identify []) s =
      .next (answersData 0x02
        ([0x0F, 0x31, 0x04, 0x60, 0x01, s.address.setWidth 8, if s.rateHigh then 1 else 0, 4, 8, 64, 128, 8, 4, 15]) s) ∧
    exec (.readStatus []) s =
      .next (answersData 0x03
        (bytesOfNat 1 s.mode.encoded ++ bytesOfNat 1 s.resetCause.encoded ++ [s.lanesEnabled, s.lanesFailed] ++
          flagByte s.kwk.isSome ++ flagByte s.tamperAsserted ++ flagByte s.time.valid ++ bytesOfNat 2 s.envelopeType ++
          bytesOfNat 1 s.arbiter.rotation ++
          bytesOfNat 1 (linkStateCode (s.link 0).state + 4 * linkStateCode (s.link 1).state +
            16 * linkStateCode (s.link 2).state + 64 * linkStateCode (s.link 3).state) ++ [faceStatus s] ++
          bytesOfNat 1 s.keyUnit.jobs.length ++ storeErrorData s.storeError)
        { s with storeError := none })

/-- R191, R192 and R193. That READ_NOTICES' pending flag reads as 1 or 0 is log entry 8. -/
def Obligations.NoticeRequestsAct : Prop :=
  (∀ (ps : List Byte) (s : State), s.reads →
    (∀ k : Fin 15, ps = bytesOfNat 1 k.1 →
      exec (.readNotices ps) s =
        .next (answersData 0x04
          (bytesOfNat 1 k.1 ++ flagByte (s.notices.get k).pending ++ bytesOfBits 8 (s.notices.get k).outs ++
            bytesOfBits 8 (s.notices.get k).ins ++ bytesOfBits 1 (s.notices.get k).triggers ++
            bytesOfBits 1 (s.notices.get k).links)
          { s with
            notices := putAt s.notices k
              { s.notices.get k with pending := false, outs := 0, ins := 0, triggers := 0, links := 0 } })) ∧
    (ps.length = 5 → (numAt ps 0 2).testBit 15 = false → (numAt ps 2 2).testBit 15 = false →
      ∃ v : Vector Notice 15,
        exec (.noticeSetup ps) s =
          .next (answersDone 0x05 { s with notices := v, linkChangeMask := ps.getD 4 0 }) ∧
        ∀ k : Fin 15, v.get k =
          { s.notices.get k with
            enabled := (numAt ps 0 2).testBit k.1, attention := (numAt ps 2 2).testBit k.1 })) ∧
    ∀ s : State, attnAsserted s = true ↔
      s.resetHeld = none ∧ ∃ k : Fin 15, (s.notices.get k).pending = true ∧ (s.notices.get k).attention = true

/-- R190. -/
def Obligations.RaisingSetsFlagAndMember : Prop :=
  ∀ (k : NoticeKind) (m : NoticeMember) (s : State),
    ((s.notices.get k.number).enabled = false → raise k m s = s) ∧
    ((s.notices.get k.number).enabled = true →
      ∃ n : Notice,
        raise k m s = { s with notices := putAt s.notices k.number n } ∧ n.pending = true ∧ n.enabled = true ∧
        n.attention = (s.notices.get k.number).attention ∧
        (∀ i : StreamNo, n.outs.getLsbD i.1 = ((s.notices.get k.number).outs.getLsbD i.1 || m == .outStream i)) ∧
        (∀ i : StreamNo, n.ins.getLsbD i.1 = ((s.notices.get k.number).ins.getLsbD i.1 || m == .inStream i)) ∧
        (∀ j : TriggerNo, n.triggers.getLsbD j.1 = ((s.notices.get k.number).triggers.getLsbD j.1 || m == .trigger j)) ∧
        (∀ l : LinkNo, n.links.getLsbD l.1 = ((s.notices.get k.number).links.getLsbD l.1 || m == .link l)))

/-- R188, scope by scope. That the reply of scope 0 gives the request's index byte back is log entry 24 (DEDUCED). -/
def Obligations.CountersReadAndZero : Prop :=
  ∀ (index zero : Byte) (s : State), s.reads →
    (exec (.readCounters [0, index, zero]) s =
      .next (answersData 0x06
        ([0, index] ++ [s.storeCorrections, s.storeDiscards, s.time.outOfWindow].flatMap (bytesOfNat 6) ++
          [s.line.broken, s.line.framing, s.line.check, s.line.overlap].flatMap (bytesOfNat 2))
        (if zero = 0 then s
         else { s with
           storeCorrections := 0, storeDiscards := 0, time := { s.time with outOfWindow := 0 },
           line := { s.line with broken := 0, framing := 0, check := 0, overlap := 0 } }))) ∧
    (∀ l : LinkNo, index = BitVec.ofNat 8 l.1 →
      exec (.readCounters [1, index, zero]) s =
        .next (answersData 0x06 ([1, index] ++ (s.link l).outCount.inOrder.flatMap (bytesOfNat 6))
          (if zero = 0 then s else s.modLink l fun k => { k with outCount := OutCounters.zero })) ∧
      exec (.readCounters [2, index, zero]) s =
        .next (answersData 0x06 ([2, index] ++ (s.link l).inCount.inOrder.flatMap (bytesOfNat 6))
          (if zero = 0 then s else s.modLink l fun k => { k with inCount := InCounters.zero })) ∧
      exec (.readCounters [3, index, zero]) s =
        .next (answersData 0x06 ([3, index] ++ (s.link l).faceCount.inOrder.flatMap (bytesOfNat 6))
          (if zero = 0 then s else s.modLink l fun k => { k with faceCount := FaceCounters.zero }))) ∧
    (∀ i : StreamNo, index = BitVec.ofNat 8 i.1 →
      exec (.readCounters [4, index, zero]) s =
        .next (answersData 0x06
          ([4, index] ++ [(s.outStream i).protectedFrames, (s.outStream i).protectedBytes,
            (s.outStream i).noKeyDiscards].flatMap (bytesOfNat 6))
          (if zero = 0 then s
           else s.modOut i fun st => { st with protectedFrames := 0, protectedBytes := 0, noKeyDiscards := 0 })) ∧
      exec (.readCounters [5, index, zero]) s =
        .next (answersData 0x06
          ([5, index] ++ [(s.inStream i).delivered, (s.inStream i).integrityFailures, (s.inStream i).replayDiscards,
            (s.inStream i).noKeyDiscards].flatMap (bytesOfNat 6))
          (if zero = 0 then s
           else s.modIn i fun st =>
             { st with delivered := 0, integrityFailures := 0, replayDiscards := 0, noKeyDiscards := 0 })))

/-- R74. -/
def Obligations.DeviceSetupWrites : Prop :=
  ∀ (ps : List Byte) (s : State), s.serves → ps.length = 3 →
    let envelope := numAt ps 0 2
    let rotation := byteAt ps 2
    let good := 0x0600 ≤ envelope ∧ envelope ≠ 0x8100
    (good → 1 ≤ rotation → rotation ≤ 7 → (∀ l, (s.link l).state = .off) →
      exec (.deviceSetup ps) s =
        .next (answersDone 0x10
          { s with envelopeType := envelope, arbiter := { s.arbiter with rotation := rotation } })) ∧
    (¬ good → exec (.deviceSetup ps) s = .next (answersRefused 0x10 0x04 0x19 s)) ∧
    (good → (rotation = 0 ∨ 7 < rotation) → exec (.deviceSetup ps) s = .next (answersRefused 0x10 0x04 0x1A s)) ∧
    (good → 1 ≤ rotation → rotation ≤ 7 → (∃ l, (s.link l).state ≠ .off) →
      exec (.deviceSetup ps) s = .next (answersRefused 0x10 0x05 0x03 s))

/-- R129, R130, R145 and R146, for the settings and stages their records spell. -/
def Obligations.LinkSettingsAreWritten : Prop :=
  ∀ (l : LinkNo) (s : State), s.serves → (s.link l).state = .off →
    (∀ (out clear : ClearPolicy) (campus high low rate burst : Nat),
      1550 ≤ campus → campus ≤ 9728 → 1 ≤ high → high ≤ 512 → low < high → 1 ≤ rate → rate ≤ 100000 → 77984 ≤ burst →
      burst ≤ 16000000 → (∀ st ∈ (s.link l).ramp, st.rate ≤ rate) →
        exec (.linkSetup (bytesOfNat 1 l.1 ++ bytesOfNat 1 out.encoded ++ bytesOfNat 1 clear.encoded ++
            bytesOfNat 2 campus ++ bytesOfNat 2 high ++ bytesOfNat 2 low ++ bytesOfNat 3 rate ++ bytesOfNat 3 burst)) s =
          .next (answersDone 0x20 (s.modLink l fun k =>
            { k with
              settings := { defaultOut := out, clearIn := clear, campusMax := campus, highMark := high, lowMark := low,
                            rate := rate, burst := burst },
              setUp := true }))) ∧
    (∀ stages : List Stage,
      stages.length ≤ 16 →
      (∀ st ∈ stages, 1 ≤ st.rate ∧ st.rate ≤ (s.link l).settings.rate ∧ 1 ≤ st.duration ∧ st.duration ≤ 1000000) →
      (stages.map Stage.duration).sum ≤ 10000000 → (s.link l).settings.rate ≤ 100000 → (s.link l).setUp = true →
        exec (.rampSet (bytesOfNat 1 l.1 ++ bytesOfNat 1 stages.length ++
            stages.flatMap fun st => bytesOfNat 3 st.rate ++ bytesOfNat 3 st.duration)) s =
          .next (answersDone 0x21 (s.modLink l fun k => { k with ramp := stages })))

/-- R132 to R134 with the pacer's start (R144), and R86, R87 and R102 for the stop NOW. -/
def Obligations.LinksStartAndStop : Prop :=
  ∀ (l : LinkNo) (s : State),
    (s.serves → (s.link l).state = .off → (s.link l).setUp = true →
      exec (.linkStart (bytesOfNat 1 l.1)) s =
        .next (answersDone 0x22 (s.modLink l fun k =>
          { k with
            state := .live
            pacer :=
              if k.campus.up then
                match k.ramp with
                | [] => { phase := .steady, credit := 0, rate := k.settings.rate }
                | st :: _ => { phase := .ramp 1 st.duration, credit := 0, rate := st.rate }
              else { phase := .held, credit := 0, rate := 0 } }))) ∧
    (s.serves →
      exec (.linkStop (bytesOfNat 1 l.1 ++ [0])) s = .next (answersDone 0x23 (drainLink l .requestDrain s)) ∧
      exec (.linkStop (bytesOfNat 1 l.1 ++ [1])) s = .next (answersDone 0x23 (stopLinkNow l .requestNow s))) ∧
    (∀ cause : StopCause,
      ((s.link l).state = .live → (s.link l).quiet = false →
        drainLink l cause s = s.modLink l fun k => { k with state := .draining, stopCause := cause }) ∧
      ((s.link l).state = .live → (s.link l).quiet = true →
        drainLink l cause s =
          raise .linkStopped (.link l)
            (s.modLink l fun k => { k with state := .off, stopCause := cause, pacer := Pacer.idle })) ∧
      ((s.link l).state ≠ .live → drainLink l cause s = s) ∧
      ((s.link l).state = .off → stopLinkNow l cause s = s) ∧
      ((s.link l).state ≠ .off →
        let t := stopLinkNow l cause s
        let items := (s.link l).outList ++ (s.link l).inList
        let left := fun (d : Dir) (i : StreamNo) (k : SlotNo) =>
          (items.filter fun it => it.reference == some (d, i, k)).length
        let freedOut := fun (i : StreamNo) (k : SlotNo) =>
          (s.outSlot i k).state = .draining ∧ 0 < left .out i k ∧ (s.outSlot i k).inFlight ≤ left .out i k
        let freedIn := fun (i : StreamNo) (k : SlotNo) =>
          (s.inSlot i k).state = .draining ∧ 0 < left .inn i k ∧ (s.inSlot i k).inFlight ≤ left .inn i k
        let stopped := s.notices.get NoticeKind.linkStopped.number
        let freed := s.notices.get NoticeKind.slotFreed.number
        let freed' := t.notices.get NoticeKind.slotFreed.number
        (let k := s.link l
         t.link l = { k with
          state := .off, stopCause := cause, pacer := Pacer.idle, outQueue := [], inQueue := [], outList := [],
          inList := [], pauseAsserted := false, pauseOwed := (k.pauseOwed || k.pauseAsserted),
          outCount := { k.outCount with stop := count48 k.outCount.stop (k.outQueue.length + k.outList.length) },
          inCount := { k.inCount with stop := count48 k.inCount.stop (k.inQueue.length + k.inList.length) } }) ∧
        (∀ l', l' ≠ l → t.link l' = s.link l') ∧
        (∀ n, ((∃ it ∈ items, it.state = .onLane n) → t.lanes.get n = .free) ∧
          ((∀ it ∈ items, it.state ≠ .onLane n) → t.lanes.get n = s.lanes.get n)) ∧
        (∀ i, t.outStream i = { s.outStream i with slots := (t.outStream i).slots } ∧
          t.inStream i = { s.inStream i with slots := (t.inStream i).slots }) ∧
        (∀ i k,
          (freedOut i k → t.outSlot i k = OutSlot.empty (s.outSlot i k).lastLoad) ∧
          (¬ freedOut i k →
            t.outSlot i k = { s.outSlot i k with inFlight := (s.outSlot i k).inFlight - left .out i k }) ∧
          (freedIn i k → t.inSlot i k = InSlot.empty (s.inSlot i k).lastLoad) ∧
          (¬ freedIn i k →
            t.inSlot i k = { s.inSlot i k with inFlight := (s.inSlot i k).inFlight - left .inn i k })) ∧
        t.notices.get NoticeKind.linkStopped.number = stopped.raised (.link l) ∧
        (stopped.enabled = true →
          (stopped.raised (.link l)).pending = true ∧ (stopped.raised (.link l)).links.getLsbD l.1 = true) ∧
        freed' = { freed with pending := freed'.pending, outs := freed'.outs, ins := freed'.ins } ∧
        (freed'.pending = true ↔
          freed.pending = true ∨ (freed.enabled = true ∧ ∃ i k, freedOut i k ∨ freedIn i k)) ∧
        (∀ i, (freed'.outs.getLsbD i.1 = true ↔
            freed.outs.getLsbD i.1 = true ∨ (freed.enabled = true ∧ ∃ k, freedOut i k)) ∧
          (freed'.ins.getLsbD i.1 = true ↔
            freed.ins.getLsbD i.1 = true ∨ (freed.enabled = true ∧ ∃ k, freedIn i k))) ∧
        (∀ m, m ≠ NoticeKind.linkStopped.number → m ≠ NoticeKind.slotFreed.number →
          t.notices.get m = s.notices.get m) ∧
        t = { s with links := t.links, lanes := t.lanes, outs := t.outs, ins := t.ins, notices := t.notices })) ∧
    (s.resetHeld = none → (s.link l).state = .draining → (s.link l).quiet = true →
      exec (.drainComplete l) s =
        .next (raise .linkStopped (.link l) (s.modLink l fun k => { k with state := .off, pacer := Pacer.idle })))

/-- R147 and R140, byte by byte. That the overwritten mark reads as 1 or 0, and the signed credit in two's complement, is log
entry 8. -/
def Obligations.LinkReadsAnswer : Prop :=
  ∀ (l : LinkNo) (s : State), s.reads →
    (let k := s.link l
     exec (.readLink (bytesOfNat 1 l.1 ++ [0])) s =
      .next (answersData 0x24
        (bytesOfNat 1 l.1 ++ [0] ++ bytesOfNat 1 (linkStateCode k.state) ++ flagByte k.setUp ++
          bytesOfNat 1 k.stopCause.encoded ++ bytesOfNat 1 k.settings.defaultOut.encoded ++
          bytesOfNat 1 k.settings.clearIn.encoded ++ bytesOfNat 2 k.settings.campusMax ++
          bytesOfNat 2 k.settings.highMark ++ bytesOfNat 2 k.settings.lowMark ++ bytesOfNat 3 k.settings.rate ++
          bytesOfNat 3 k.settings.burst ++
          bytesOfNat 1 ((if k.rack.up then 1 else 0) + (if k.campus.up then 2 else 0)) ++
          bytesOfNat 3 (occupancy k.outQueue) ++ bytesOfNat 3 (occupancy k.inQueue) ++ flagByte k.pauseAsserted ++
          bytesOfNat 1 k.outList.length ++ bytesOfNat 1 k.inList.length ++ k.pacer.phase.encoded ++
          bytesOfNat 3 k.pacer.rate ++ bytesOfInt 4 k.pacer.credit) s)) ∧
    exec (.readLink (bytesOfNat 1 l.1 ++ [1])) s =
      .next (answersData 0x24
        (bytesOfNat 1 l.1 ++ [1] ++ bytesOfNat 1 (s.link l).ramp.length ++
          (s.link l).ramp.flatMap fun st => bytesOfNat 3 st.rate ++ bytesOfNat 3 st.duration) s) ∧
    exec (.readLinkChanges []) s =
      .next (answersData 0x25
        ([faceStatus s] ++ bytesOfNat 1 s.linkChanges.length ++
          s.linkChanges.flatMap fun c =>
            [c.changed, c.status] ++ bytesOfNat 4 c.seconds ++ bytesOfNat 4 c.micros ++ flagByte c.overwritten)
        { s with linkChanges := [] })

/-- R68 to R71. That READ_RULE's validity and a set keep-tag-clear read as 1 is log entry 8. -/
def Obligations.RuleRequestsWriteOneEntry : Prop :=
  ∀ (ps : List Byte) (r : RuleNo) (s : State), byteAt ps 0 = r.1 →
    (s.serves → ps.length = 9 → 1 ≤ byteAt ps 1 → byteAt ps 1 ≤ 15 → byteAt ps 2 ≤ 11 → byteAt ps 6 ≤ 2 →
      (byteAt ps 2 / 4 = 2 → byteAt ps 5 ≤ 12 ∧ numAt ps 3 2 ≤ 4095 ∧ numAt ps 3 2 % 2 ^ byteAt ps 5 = 0) →
      (byteAt ps 6 = 0 → ∃ i : StreamNo, byteAt ps 7 = i.1 ∧ (s.outStream i).state ≠ .unused ∧
        byteAt ps 1 = 2 ^ (s.outStream i).link.1) →
      ∃ e : Rule,
        exec (.rulePut ps) s = .next (answersDone 0x30 { s with rules := putAt s.rules r e }) ∧
        e.valid = true ∧ e.linkSet = BitVec.ofNat 4 (byteAt ps 1) ∧ e.tagMatch.encoded = byteAt ps 2 / 4 ∧
        e.destClass.encoded = byteAt ps 2 % 4 ∧ e.action.encoded = byteAt ps 6 ∧ e.matchCount = 0 ∧
        (byteAt ps 2 / 4 = 2 → e.tagBase = numAt ps 3 2 ∧ e.tagExp = byteAt ps 5) ∧
        (byteAt ps 2 / 4 ≠ 2 → e.tagBase = 0 ∧ e.tagExp = 0) ∧
        (byteAt ps 6 = 0 → e.stream.1 = byteAt ps 7 ∧ (e.keepTag = true ↔ byteAt ps 8 ≠ 0)) ∧
        (byteAt ps 6 ≠ 0 → e.stream = 0 ∧ e.keepTag = false)) ∧
    (s.serves → ps.length = 1 →
      exec (.ruleDrop ps) s = .next (answersDone 0x31 { s with rules := putAt s.rules r Rule.empty })) ∧
    (s.reads → ps.length = 1 →
      exec (.readRule ps) s =
        .next (answersData 0x32
          (bytesOfNat 1 r.1 ++ flagByte (s.rules.get r).valid ++ bytesOfBits 1 (s.rules.get r).linkSet ++
            bytesOfNat 1 (4 * (s.rules.get r).tagMatch.encoded + (s.rules.get r).destClass.encoded) ++
            bytesOfNat 2 (s.rules.get r).tagBase ++ bytesOfNat 1 (s.rules.get r).tagExp ++
            bytesOfNat 1 (s.rules.get r).action.encoded ++ bytesOfNat 1 (s.rules.get r).stream.1 ++
            flagByte (s.rules.get r).keepTag ++ bytesOfNat 6 (s.rules.get r).matchCount) s))

/-- R4, R5 and R8. READ_STREAM's reply is carried as fields (log entry 6). -/
def Obligations.StreamsOpenAndAreRead : Prop :=
  ∀ (i : StreamNo) (s : State),
    (∀ (l : LinkNo) (streamId : Nat) (auto : Byte),
      s.serves → streamId < 65536 → (s.outStream i).state = .unused →
      (∀ j, j ≠ i → (s.outStream j).state ≠ .unused → (s.outStream j).link = l → (s.outStream j).streamId ≠ streamId) →
        exec (.streamOpen ([0] ++ bytesOfNat 1 i.1 ++ bytesOfNat 1 l.1 ++ bytesOfNat 2 streamId ++ [auto])) s =
          .next (answersDone 0x40 (s.modOut i fun st =>
            { st with
              state := .opened, link := l, streamId := streamId, autoSwitch := decide (auto ≠ 0), pendingSwitch := none,
              protectedFrames := 0, protectedBytes := 0, noKeyDiscards := 0 }))) ∧
    (∀ (l : LinkNo) (streamId w grace threshold : Nat),
      s.serves → streamId < 65536 → w ≤ 64 → grace ≤ 10000 → threshold < 65536 → (s.inStream i).isOpen = false →
      (∀ j, j ≠ i → (s.inStream j).isOpen = true → (s.inStream j).link = l → (s.inStream j).streamId ≠ streamId) →
        exec (.streamOpen ([1] ++ bytesOfNat 1 i.1 ++ bytesOfNat 1 l.1 ++ bytesOfNat 2 streamId ++ bytesOfNat 1 w ++
            bytesOfNat 2 grace ++ bytesOfNat 2 threshold)) s =
          .next (answersDone 0x40 (s.modIn i fun st =>
            { st with
              isOpen := true, link := l, streamId := streamId, window := w, grace := grace, threshold := threshold,
              failures := 0, delivered := 0, integrityFailures := 0, replayDiscards := 0, noKeyDiscards := 0 }))) ∧
    (s.reads →
      exec (.readStream ([0] ++ bytesOfNat 1 i.1)) s =
        .next (setReply
          { kind := .data, code := 0x42
            content := .outStream
              { state := (s.outStream i).state, link := (s.outStream i).link, streamId := (s.outStream i).streamId
                autoSwitch := (s.outStream i).autoSwitch, pendingSwitch := (s.outStream i).pendingSwitch
                slots := mapTable (fun sl =>
                  { state := sl.state, initialFn := sl.initialFn, nextFn := sl.nextFn, soft := sl.soft, hard := sl.hard
                    lifetimeKind := sl.lifetimeKind, limit := sl.limit, warning := sl.warning, accrued := sl.accrued
                    rekeyRaised := sl.rekeyRaised, inFlight := sl.inFlight, lastLoad := sl.lastLoad })
                  (s.outStream i).slots
                protectedFrames := (s.outStream i).protectedFrames, protectedBytes := (s.outStream i).protectedBytes
                noKeyDiscards := (s.outStream i).noKeyDiscards } } s) ∧
      exec (.readStream ([1] ++ bytesOfNat 1 i.1)) s =
        .next (setReply
          { kind := .data, code := 0x42
            content := .inStream
              { state := (s.inStream i).state, link := (s.inStream i).link, streamId := (s.inStream i).streamId
                window := (s.inStream i).window, grace := (s.inStream i).grace, threshold := (s.inStream i).threshold
                failures := (s.inStream i).failures
                slots := mapTable (fun sl =>
                  { state := sl.state, lower := sl.lower, highest := sl.highest, bitmap := sl.bitmap, grace := sl.grace
                    inFlight := sl.inFlight, lastLoad := sl.lastLoad }) (s.inStream i).slots
                delivered := (s.inStream i).delivered, integrityFailures := (s.inStream i).integrityFailures
                replayDiscards := (s.inStream i).replayDiscards, noKeyDiscards := (s.inStream i).noKeyDiscards } } s)) ∧
    (((s.inStream i).state = .active ↔
        (s.inStream i).isOpen = true ∧ ∃ k, ((s.inStream i).slots.get k).state = .active) ∧
      ((s.inStream i).state = .unused ↔ (s.inStream i).isOpen = false))

/-- R6 and R7. -/
def Obligations.StreamsClose : Prop :=
  ∀ (i : StreamNo) (s : State), s.serves →
    ((s.outStream i).state ≠ .unused →
      (∀ r, (s.rules.get r).valid = true → (s.rules.get r).action = .protect → (s.rules.get r).stream ≠ i) →
      (∀ j c a, s.triggers.get j = .armed c a → i ∉ a.streams ∧ c.watched ≠ some i) →
      (∀ k, (s.outSlot i k).inFlight = 0 ∧ (s.outSlot i k).state ≠ .loading ∧ (s.outSlot i k).state ≠ .draining) →
        let closed := s.modOut i fun st =>
          { st with
            state := .unused, link := 0, streamId := 0, autoSwitch := false, pendingSwitch := none
            slots := mapTable (fun sl => OutSlot.empty sl.lastLoad) st.slots }
        ((∃ k, (s.outSlot i k).state ≠ .empty) →
          exec (.streamClose ([0] ++ bytesOfNat 1 i.1)) s =
            .next (answersDone 0x41 (raise .slotFreed (.outStream i) closed))) ∧
        ((∀ k, (s.outSlot i k).state = .empty) →
          exec (.streamClose ([0] ++ bytesOfNat 1 i.1)) s = .next (answersDone 0x41 closed))) ∧
    ((s.inStream i).isOpen = true →
      (∀ k, (s.inSlot i k).inFlight = 0 ∧ (s.inSlot i k).state ≠ .loading ∧ (s.inSlot i k).state ≠ .draining) →
        let closed := s.modIn i fun st =>
          { st with
            isOpen := false, link := 0, streamId := 0, window := 0, grace := 0, threshold := 0
            slots := mapTable (fun sl => InSlot.empty sl.lastLoad) st.slots }
        ((∃ k, (s.inSlot i k).state ≠ .empty) →
          exec (.streamClose ([1] ++ bytesOfNat 1 i.1)) s =
            .next (answersDone 0x41 (raise .slotFreed (.inStream i) closed))) ∧
        ((∀ k, (s.inSlot i k).state = .empty) →
          exec (.streamClose ([1] ++ bytesOfNat 1 i.1)) s = .next (answersDone 0x41 closed)))

/-- R16 to R18, the parameters of Table 1-7 by their places. -/
def Obligations.KeyLoadQueuesAJob : Prop :=
  ∀ (ps : List Byte) (i : StreamNo) (k : SlotNo) (s : State),
    s.serves → byteAt ps 1 = i.1 → byteAt ps 2 = k.1 → s.kwk ≠ none → s.keyUnit.jobs.length < 4 →
    let job := fun range : LoadRange =>
      { stream := i, slot := k, nonce := BitVec.ofNat 96 (numAt ps 3 12), wrapped := (ps.drop 15).take 36,
        tag := BitVec.ofNat 128 (numAt ps 51 16), check := BitVec.ofNat 32 (numAt ps 67 4), range := range,
        cancelled := false : Job }
    let queued := fun (x : State) (j : Job) =>
      { x with
        keyUnit := { s.keyUnit with jobs := s.keyUnit.jobs ++ [j] }
        arbiter := if s.keyUnit.jobs = [] then { s.arbiter with count := 0 } else s.arbiter : State }
    (∀ kind : LifetimeKind,
      ps.length = 98 → byteAt ps 0 = 0 → (s.outStream i).state ≠ .unused → (s.outSlot i k).state = .empty →
      1 ≤ numAt ps 71 6 → numAt ps 71 6 ≤ numAt ps 77 6 → numAt ps 77 6 ≤ numAt ps 83 6 →
      (byteAt ps 89 = 0 ∧ kind = .none ∨
        (byteAt ps 89 = 1 ∧ kind = .seconds ∨ byteAt ps 89 = 2 ∧ kind = .mebibytes) ∧ 1 ≤ numAt ps 90 4 ∧
          numAt ps 94 4 ≤ numAt ps 90 4) →
        exec (.keyLoad ps) s =
          .next (answersDone 0x43
            (queued (s.modOutSlot i k fun sl => { sl with state := .loading, lastLoad := .none })
              (job (.out (numAt ps 71 6) (numAt ps 77 6) (numAt ps 83 6) kind (numAt ps 90 4) (numAt ps 94 4)))))) ∧
    (ps.length = 77 → byteAt ps 0 = 1 → (s.inStream i).isOpen = true → (s.inSlot i k).state = .empty →
      1 ≤ numAt ps 71 6 →
        exec (.keyLoad ps) s =
          .next (answersDone 0x43
            (queued (s.modInSlot i k fun sl => { sl with state := .loading, lastLoad := .none })
              (job (.inn (numAt ps 71 6))))))

/-- R24 to R26; what leaving service does is SlotsLeaveService. -/
def Obligations.KeyRetireActsByTheSlot : Prop :=
  ∀ (i : StreamNo) (k : SlotNo) (s : State), s.serves →
    ((s.outStream i).state ≠ .unused →
      let ps : List Byte := [0] ++ bytesOfNat 1 i.1 ++ bytesOfNat 1 k.1
      ((s.outSlot i k).state = .ready → exec (.keyRetire ps) s = .next (answersDone 0x44 (leaveOutSlot i k s))) ∧
      ((s.outSlot i k).state = .active → exec (.keyRetire ps) s = .next (answersDone 0x44 (leaveActive i k s))) ∧
      (∀ (j : Job) (rest : List Job) (n : LaneNo),
        (s.outSlot i k).state = .loading → s.keyUnit.jobs = j :: rest → s.keyUnit.working = some n →
        j.target = (.out, i, k) → (∀ x ∈ rest, x.target ≠ (.out, i, k)) →
          exec (.keyRetire ps) s =
            .next (answersDone 0x44
              { s.modOut i fun st =>
                  { st with pendingSwitch := if st.pendingSwitch = some k then none else st.pendingSwitch } with
                keyUnit := { s.keyUnit with jobs := { j with cancelled := true } :: rest } })) ∧
      (∀ (j : Job) (before after : List Job),
        (s.outSlot i k).state = .loading → s.keyUnit.jobs = before ++ j :: after → j.target = (.out, i, k) →
        (∀ x ∈ before ++ after, x.target ≠ (.out, i, k)) → (before = [] → s.keyUnit.working = none) →
          exec (.keyRetire ps) s =
            .next (answersDone 0x44
              { (s.modOutSlot i k fun _ => OutSlot.empty .cancelled).modOut i fun st =>
                  { st with pendingSwitch := if st.pendingSwitch = some k then none else st.pendingSwitch } with
                keyUnit := { s.keyUnit with jobs := before ++ after }
                arbiter :=
                  if before = [] ∧ after ≠ [] then { s.arbiter with count := 0 } else s.arbiter }))) ∧
    ((s.inStream i).isOpen = true →
      let ps : List Byte := [1] ++ bytesOfNat 1 i.1 ++ bytesOfNat 1 k.1
      ((s.inSlot i k).state.usable = true → exec (.keyRetire ps) s = .next (answersDone 0x44 (leaveInSlot i k s))) ∧
      (∀ (j : Job) (rest : List Job) (n : LaneNo),
        (s.inSlot i k).state = .loading → s.keyUnit.jobs = j :: rest → s.keyUnit.working = some n →
        j.target = (.inn, i, k) → (∀ x ∈ rest, x.target ≠ (.inn, i, k)) →
          exec (.keyRetire ps) s =
            .next (answersDone 0x44
              { s with keyUnit := { s.keyUnit with jobs := { j with cancelled := true } :: rest } })) ∧
      (∀ (j : Job) (before after : List Job),
        (s.inSlot i k).state = .loading → s.keyUnit.jobs = before ++ j :: after → j.target = (.inn, i, k) →
        (∀ x ∈ before ++ after, x.target ≠ (.inn, i, k)) → (before = [] → s.keyUnit.working = none) →
          exec (.keyRetire ps) s =
            .next (answersDone 0x44
              { s.modInSlot i k fun _ => InSlot.empty .cancelled with
                keyUnit := { s.keyUnit with jobs := before ++ after }
                arbiter :=
                  if before = [] ∧ after ≠ [] then { s.arbiter with count := 0 } else s.arbiter })))

/-- R12, R13, R44 and R46, for the operations every departure from service goes through. -/
def Obligations.SlotsLeaveService : Prop :=
  ∀ (i : StreamNo) (k : SlotNo) (s : State),
    ((s.outSlot i k).inFlight = 0 →
      leaveOutSlot i k s =
        raise .slotFreed (.outStream i) (s.modOutSlot i k fun sl => OutSlot.empty sl.lastLoad)) ∧
    ((s.outSlot i k).inFlight ≠ 0 →
      leaveOutSlot i k s = s.modOutSlot i k fun sl => { sl with state := .draining }) ∧
    ((s.inSlot i k).inFlight = 0 →
      leaveInSlot i k s = raise .slotFreed (.inStream i) (s.modInSlot i k fun sl => InSlot.empty sl.lastLoad)) ∧
    ((s.inSlot i k).inFlight ≠ 0 →
      leaveInSlot i k s = s.modInSlot i k fun sl => { sl with state := .draining, grace := 0 }) ∧
    (let t := leaveActive i k s
     let sl := s.outSlot i k
     let other := s.outSlot i (otherSlot k)
     t = { s with outs := t.outs, notices := t.notices } ∧ (∀ j, j ≠ i → t.outStream j = s.outStream j) ∧
      t.outStream i = { s.outStream i with
        state := if other.state = .ready then .active (otherSlot k) else .stalled, pendingSwitch := none,
        slots := (t.outStream i).slots } ∧
      t.outSlot i k = (if sl.inFlight = 0 then OutSlot.empty sl.lastLoad else { sl with state := .draining }) ∧
      t.outSlot i (otherSlot k) = (if other.state = .ready then { other with state := .active } else other) ∧
      s.raisesExactly t fun n m =>
        m = .outStream i ∧
          ((n = .switched ∧ other.state = .ready) ∨ (n = .stalled ∧ other.state ≠ .ready) ∨
            (n = .slotFreed ∧ sl.inFlight = 0)))

/-- R48, R49, R29 and R30. -/
def Obligations.KeySwitchAndWrapKey : Prop :=
  ∀ (i : StreamNo) (a : SlotNo) (s : State), s.serves →
    ((s.outStream i).state = .active a → (s.outSlot i (otherSlot a)).state = .ready →
      let sl := s.outSlot i a
      let other := s.outSlot i (otherSlot a)
      ∃ t, exec (.keySwitch ([0] ++ bytesOfNat 1 i.1)) s = .next (answersDone 0x45 t) ∧
        t = { s with outs := t.outs, notices := t.notices } ∧ (∀ j, j ≠ i → t.outStream j = s.outStream j) ∧
        t.outStream i = { s.outStream i with
          state := .active (otherSlot a), pendingSwitch := none, slots := (t.outStream i).slots } ∧
        t.outSlot i (otherSlot a) = { other with state := .active } ∧
        t.outSlot i a = (if sl.inFlight = 0 then OutSlot.empty sl.lastLoad else { sl with state := .draining }) ∧
        s.raisesExactly t fun n m =>
          m = .outStream i ∧ (n = .switched ∨ (n = .slotFreed ∧ sl.inFlight = 0))) ∧
    ((s.outStream i).state = .active a → (s.outSlot i (otherSlot a)).state = .loading →
      exec (.keySwitch ([0] ++ bytesOfNat 1 i.1)) s =
        .next (answersDone 0x45 (s.modOut i fun st => { st with pendingSwitch := some (otherSlot a) }))) ∧
    (∀ key : BitVec 256, s.kwk = none →
      exec (.kwkLoad (bytesOfBits 32 key)) s = .next (answersDone 0x46 { s with kwk := some key })) ∧
    (s.kwk ≠ none → exec (.kwkErase []) s = .next (answersDone 0x47 { s with kwk := none }))

/-- R154 to R156; what the event does at the triggers is TriggersFireWhole. That TIME_READ's valid flag and discipline
setting read as 1 or 0, and the trim in two's complement, is log entry 8. -/
def Obligations.TimeRequestsAct : Prop :=
  ∀ s : State, s.reads →
    (∀ seconds : Nat, seconds < 2 ^ 32 →
      let t := triggersEvent (.timeSet seconds)
        { s with time := { s.time with seconds := seconds, micros := 0, valid := true } }
      exec (.timeSet (bytesOfNat 4 seconds)) s = .next (answersDone 0x50 t) ∧
        t.time = { s.time with seconds := seconds, micros := 0, valid := true } ∧
        (∃ k ls o i n tr, t =
          { s with time := t.time, links := k, lanes := ls, outs := o, ins := i, notices := n, triggers := tr }) ∧
        ((∀ j target a, s.triggers.get j = .armed (.atTime target) a → seconds < target) →
          t = { s with time := t.time })) ∧
    (∀ trim discipline : Byte, trim ≠ 0x80 →
      exec (.timeTrim [trim, discipline]) s =
        .next (answersDone 0x51
          { s with time := { s.time with trim := trim.toInt, discipline := decide (discipline ≠ 0) } })) ∧
    exec (.timeRead []) s =
      .next (answersData 0x52
        (bytesOfNat 4 s.time.seconds ++ bytesOfNat 4 s.time.micros ++ flagByte s.time.valid ++
          bytesOfInt 1 s.time.trim ++ flagByte s.time.discipline ++ bytesOfNat 6 s.time.outOfWindow) s)

/-- R158 and R159. -/
def Obligations.TriggersAreArmed : Prop :=
  ∀ (j : TriggerNo) (c : TriggerCond) (a : TriggerAction) (cond : List Byte) (s : State),
    s.serves → s.triggers.get j = .empty →
    (match c with
      | .onPulse n => 1 ≤ n ∧ n ≤ 65535 ∧ ∃ pad : List Byte, pad.length = 5 ∧ cond = [0] ++ pad ++ bytesOfNat 2 n
      | .atTime t =>
        s.time.seconds < t ∧ t < 2 ^ 32 ∧ s.time.valid = true ∧
          ∃ pad : List Byte, pad.length = 3 ∧ cond = [1] ++ pad ++ bytesOfNat 4 t
      | .atNumber i v =>
        (∃ k, (s.outStream i).state = .active k ∧ (s.outSlot i k).nextFn - 1 < v) ∧ v ≤ Config.maxFn ∧
          cond = [2] ++ bytesOfNat 1 i.1 ++ bytesOfNat 6 v) →
    (match a with
      | .switch streams =>
        1 ≤ streams.length ∧ streams.length ≤ 8 ∧ streams.Nodup ∧ ∀ i ∈ streams, (s.outStream i).state ≠ .unused
      | .start _ => True
      | .stopDrain _ => True
      | .stopNow _ => True) →
    (∀ j' c' a', s.triggers.get j' = .armed c' a' →
      (∀ i ∈ a.streams, i ∉ a'.streams) ∧ ∀ l, a.link? = some l → a'.link? ≠ some l) →
      exec (.triggerArm (bytesOfNat 1 j.1 ++ cond ++ a.encoded)) s =
        .next (answersDone 0x53 { s with triggers := putAt s.triggers j (.armed c a) })

/-- R162, every clause of it, in RUNNING. -/
def Obligations.TriggersAreCancelledAndReleased : Prop :=
  ∀ (ps : List Byte) (s : State), s.serves →
    (ps.length ≠ 1 →
      exec (.triggerCancel ps) s = .next (answersRefused 0x54 0x01 0x00 s) ∧
      exec (.triggerRelease ps) s = .next (answersRefused 0x55 0x01 0x00 s)) ∧
    (ps.length = 1 → 8 ≤ byteAt ps 0 →
      exec (.triggerCancel ps) s = .next (answersRefused 0x54 0x04 0x14 s) ∧
      exec (.triggerRelease ps) s = .next (answersRefused 0x55 0x04 0x14 s)) ∧
    (∀ j : TriggerNo, ps = bytesOfNat 1 j.1 →
      ((∀ c a, s.triggers.get j ≠ .armed c a) →
        exec (.triggerCancel ps) s = .next (answersRefused 0x54 0x05 0x12 s)) ∧
      ((∃ c a, s.triggers.get j = .armed c a) →
        exec (.triggerCancel ps) s = .next (answersDone 0x54 { s with triggers := putAt s.triggers j .empty })) ∧
      ((∀ c a f r, s.triggers.get j ≠ .faulted c a f r) →
        exec (.triggerRelease ps) s = .next (answersRefused 0x55 0x05 0x12 s)) ∧
      ((∃ c a f r, s.triggers.get j = .faulted c a f r) →
        exec (.triggerRelease ps) s = .next (answersDone 0x55 { s with triggers := putAt s.triggers j .empty }))) ∧
    TriggerSlot.empty.named = ([], none)

/-- R163, byte by byte. That the condition bytes a kind does not use read as 0 is log entry 21. -/
def Obligations.TriggersAreRead : Prop :=
  ∀ (j : TriggerNo) (s : State), s.reads →
    let condBytes : TriggerCond → List Byte := fun c =>
      match c with
      | .onPulse n => [0, 0, 0, 0, 0, 0] ++ bytesOfNat 2 n
      | .atTime t => [1, 0, 0, 0] ++ bytesOfNat 4 t
      | .atNumber i v => [2] ++ bytesOfNat 1 i.1 ++ bytesOfNat 6 v
    let actionBytes : TriggerAction → List Byte := fun a =>
      match a with
      | .switch streams => [0] ++ bytesOfNat 1 streams.length ++ streams.flatMap fun i => bytesOfNat 1 i.1
      | .start l => [1, 1] ++ bytesOfNat 1 l.1
      | .stopDrain l => [2, 1] ++ bytesOfNat 1 l.1
      | .stopNow l => [3, 1] ++ bytesOfNat 1 l.1
    exec (.readTrigger (bytesOfNat 1 j.1)) s =
      .next (answersData 0x56
        (bytesOfNat 1 j.1 ++
          match s.triggers.get j with
          | .empty => [0, 0, 0, 0, 0, 0, 0, 0, 0, 0, 0, 0, 0]
          | .armed c a => [1] ++ condBytes c ++ actionBytes a ++ [0, 0]
          | .faulted c a failing reason =>
            [2] ++ condBytes c ++ actionBytes a ++ bytesOfNat 1 failing ++ bytesOfNat 1 reason) s)

/-- R172 to R174 and R176; ALARM entry is AlarmEntryErasesKeys. That READ_RETAINED's three flags read as 1 or 0 is log
entry 8. -/
def Obligations.DeviceRequestsAct : Prop :=
  ∀ s : State, s.listens →
    (s.mode ≠ .starting →
      exec (.restart []) s = .next (answersDone 0x60 { s with line := { s.line with restartPending := true } })) ∧
    (s.mode = .running → exec (.zeroize []) s = .next (answersDone 0x61 (alarmEntry .request s))) ∧
    (s.mode = .alarm → exec (.zeroize []) s = .next (answersDone 0x61 { s with kwk := none })) ∧
    (s.mode = .alarm → s.tamperAsserted = false →
      exec (.alarmClear []) s = .next (answersDone 0x62 { s with mode := .running })) ∧
    (s.mode = .alarm → s.tamperAsserted = true →
      exec (.alarmClear []) s = .next (answersRefused 0x62 0x05 0x13 s)) ∧
    (s.mode = .running → exec (.alarmClear []) s = .next (answersRefused 0x62 0x05 0x14 s)) ∧
    (s.mode ≠ .starting →
      exec (.readRetained []) s =
        .next (answersData 0x63
          (flagByte s.retained.valid ++ bytesOfNat 1 s.resetCause.encoded ++
            bytesOfNat 1 (alarmCauseCode s.retained.cause) ++ bytesOfNat 4 s.retained.seconds ++
            flagByte s.retained.timeValid ++ [s.retained.lanesFailed] ++ flagByte s.retained.testFailed ++
            bytesOfNat 1 s.retained.alarmCount) s))

/-- R180 and class UNKNOWN of R183, on whole records (log entry 7). -/
def Obligations.RecordsAreJudged : Prop :=
  ∀ (head check code : Byte) (body ps : List Byte) (s : State), s.listens →
    let sum := head.toNat + body.length + (body.map BitVec.toNat).sum + check.toNat
    ((∀ p ∈ requestCommands, p.1 ≠ code) →
      exec (.unknownRequest code ps) s = .next (answersRefused code 0x02 0x00 s)) ∧
    (1 ≤ body.length → body.length ≤ 120 → sum % 256 ≠ 0 →
      exec (.recordCheckFailed head body check) s =
        .next { s with line := { s.line with assembly := .hunt, check := min (s.line.check + 1) 65535 } }) ∧
    (1 ≤ body.length → body.length ≤ 120 → sum % 256 = 0 →
      (head.toNat / 32 ≠ 1 ∨ head.toNat / 8 % 4 ≠ 0 ∨ head.toNat % 8 ≠ s.address.toNat) →
        exec (.recordIgnored head body check) s = .next { s with line := { s.line with assembly := .hunt } })

/-- R179, R181, R182 and R174; what a held reset does is ResetsTakeHold. -/
def Obligations.LineErrorsAreCounted : Prop :=
  ∀ (len byte head : Byte) (s : State), s.resetHeld = none →
    (s.line.reply = none → s.line.assembly = .len head → (len.toNat = 0 ∨ 120 < len.toNat) →
      exec (.recordLenInvalid len) s =
        .next { s with line := { s.line with assembly := .hunt, broken := min (s.line.broken + 1) 65535 } }) ∧
    (s.line.reply = none → s.line.assembly ≠ .hunt →
      exec .framingError s =
        .next { s with line := { s.line with assembly := .hunt, framing := min (s.line.framing + 1) 65535 } }) ∧
    (s.line.reply = none → s.line.assembly = .hunt → exec .framingError s = .next s) ∧
    (s.line.assembly ≠ .hunt →
      exec .recordGapTimeout s =
        .next { s with line := { s.line with assembly := .hunt, broken := min (s.line.broken + 1) 65535 } }) ∧
    (s.line.assembly = .hunt → exec .recordGapTimeout s = .next s) ∧
    (s.line.reply ≠ none →
      exec (.overlapByte byte) s =
        .next { s with line := { s.line with overlap := min (s.line.overlap + 1) 65535 } } ∧
      exec (.byteReceived byte) s =
        .next { s with line := { s.line with overlap := min (s.line.overlap + 1) 65535 } }) ∧
    (s.line.reply ≠ none → s.line.restartPending = false →
      exec .replyEnd s = .next { s with line := { s.line with assembly := .hunt, reply := none } }) ∧
    (s.line.reply ≠ none → s.line.restartPending = true →
      exec .replyEnd s =
        .next (holdReset .restart { s with line := { s.line with assembly := .hunt, reply := none } }))

/-- The table of R179, state by state, and the three steps of R180 at the CHECK byte. -/
def Obligations.BytesAssembleIntoRecords : Prop :=
  ∀ (byte : Byte) (s : State), s.listens →
    let inState := fun a : Assembly => Host.Outcome.next (ρ := Refusal) (φ := Fault)
      { s with line := { s.line with assembly := a } }
    (s.line.assembly = .hunt → byte = 0xC6 → exec (.byteReceived byte) s = inState .head) ∧
    (s.line.assembly = .hunt → byte ≠ 0xC6 → exec (.byteReceived byte) s = .next s) ∧
    (s.line.assembly = .head → exec (.byteReceived byte) s = inState (.len byte)) ∧
    (∀ head, s.line.assembly = .len head →
      (1 ≤ byte.toNat → byte.toNat ≤ 120 → exec (.byteReceived byte) s = inState (.body head byte.toNat [])) ∧
      (byte.toNat = 0 ∨ 120 < byte.toNat →
        exec (.byteReceived byte) s =
          .next { s with line := { s.line with assembly := .hunt, broken := min (s.line.broken + 1) 65535 } })) ∧
    (∀ head left got, s.line.assembly = .body head left got →
      (2 ≤ left → exec (.byteReceived byte) s = inState (.body head (left - 1) (got ++ [byte]))) ∧
      (left = 1 → exec (.byteReceived byte) s = inState (.check head (got ++ [byte])))) ∧
    (∀ head code ps mk, s.line.assembly = .check head (code :: ps) → (code, mk) ∈ requestCommands →
      (head.toNat + (ps.length + 1) + ((code :: ps).map BitVec.toNat).sum + byte.toNat) % 256 = 0 → ps.length ≤ 119 →
      head.toNat = 32 + s.address.toNat → exec (.byteReceived byte) s = exec (mk ps) s) ∧
    (∀ head code ps, s.line.assembly = .check head (code :: ps) → ps.length ≤ 119 →
      let sum := head.toNat + (ps.length + 1) + ((code :: ps).map BitVec.toNat).sum + byte.toNat
      (sum % 256 ≠ 0 →
        exec (.byteReceived byte) s =
          .next { s with line := { s.line with assembly := .hunt, check := min (s.line.check + 1) 65535 } }) ∧
      (sum % 256 = 0 → head.toNat ≠ 32 + s.address.toNat → exec (.byteReceived byte) s = inState .hunt) ∧
      (sum % 256 = 0 → head.toNat = 32 + s.address.toNat → (∀ p ∈ requestCommands, p.1 ≠ code) →
        exec (.byteReceived byte) s = .next (answersRefused code 0x02 0x00 s)))

/-- R166 with the reset columns of the chapters. The waiting commands and the counter of free values are the model's own
(log entries 1 and 5). That a release with TAMPER_N asserted empties the key-wrap key store and sets the tamper mark is
read from R170 and R167 (log entry 17, DEDUCED). -/
def Obligations.ResetsTakeHold : Prop :=
  ∀ (address : BitVec 3) (rate : Bool) (kind : ResetKind) (s : State),
    (∃ t, exec .powerOn s = .next t ∧ t.resetHeld = some .powerOn ∧ t.retained.valid = false ∧ t.kwk = s.kwk ∧
      t.line.reply = none ∧ attnAsserted t = false ∧
      ∀ l, (t.link l).rack.tx = .idle ∧ (t.link l).campus.tx = .idle) ∧
    (∃ t, exec .pinReset s = .next t ∧
      t.resetHeld = some (if s.resetHeld = some .powerOn then .powerOn else .pin) ∧ t.retained = s.retained ∧
      t.kwk = s.kwk ∧ t.line.reply = none ∧ attnAsserted t = false ∧
      ∀ l, (t.link l).rack.tx = .idle ∧ (t.link l).campus.tx = .idle) ∧
    (s.resetHeld = some kind →
      exec (.resetRelease address rate) s =
        .next { State.reset with
          pending := s.pending, freeCount := s.freeCount, resetCause := kind, address := address, rateHigh := rate,
          tamperAsserted := s.tamperAsserted, tamperMark := s.tamperAsserted,
          kwk := (if s.tamperAsserted then none else s.kwk), retained := s.retained }) ∧
    State.reset.mode = .starting ∧ State.reset.lanesEnabled = 0 ∧ State.reset.lanesFailed = 0 ∧
    State.reset.envelopeType = 0x8C5E ∧ State.reset.arbiter = { pointer := 0, count := 0, rotation := 4 } ∧
    State.reset.keyUnit = { jobs := [], working := none } ∧ State.reset.storeError = none ∧
    State.reset.storeCorrections = 0 ∧ State.reset.storeDiscards = 0 ∧ State.reset.linkChanges = [] ∧
    State.reset.linkChangeMask = 0xFF ∧
    State.reset.time = { seconds := 0, micros := 0, valid := false, trim := 0, discipline := false, window := 0,
                         outOfWindow := 0 } ∧
    (∀ i, State.reset.outStream i = OutStream.reset) ∧ (∀ i, State.reset.inStream i = InStream.reset) ∧
    (∀ l, State.reset.link l = Link.reset) ∧ (∀ r, State.reset.rules.get r = Rule.empty) ∧
    (∀ j, State.reset.triggers.get j = .empty) ∧ (∀ n, State.reset.lanes.get n = .free) ∧
    (∀ k, State.reset.notices.get k =
      { pending := false, enabled := true, attention := true, outs := 0, ins := 0, triggers := 0, links := 0 })

/-- R168 and the self-test lines of R175; what ALARM entry does to the state it finds is AlarmEntryErasesKeys. -/
def Obligations.SelfTestDecidesTheMode : Prop :=
  ∀ (passed : BitVec 8) (s : State), s.resetHeld = none → s.mode = .starting →
    let few := (List.finRange 8).countP (fun n => passed.getLsbD n.1) < 2
    let kept := s.retained.valid = true
    ∃ t, exec (.selfTestComplete passed) s = .next t ∧ t.lanesEnabled = passed ∧ t.lanesFailed = ~~~ passed ∧
      (∀ n, t.lanes.get n = .free) ∧ t.retained.valid = true ∧ t.retained.lanesFailed = ~~~ passed ∧
      (t.retained.testFailed = true ↔ few) ∧
      (few → t.mode = .failed) ∧ (¬ few → s.tamperMark = true → t.mode = .alarm ∧ t.kwk = none) ∧
      (¬ few → s.tamperMark = false → t.mode = .running) ∧
      (¬ few → s.tamperMark = true →
        t.retained.cause = .tamper ∧ t.retained.seconds = s.time.seconds ∧ t.retained.timeValid = s.time.valid ∧
        (kept → t.retained.alarmCount = min (s.retained.alarmCount + 1) 255) ∧
        (¬ kept → t.retained.alarmCount = 1)) ∧
      ((few ∨ s.tamperMark = false) →
        (kept → t.retained.cause = s.retained.cause ∧ t.retained.seconds = s.retained.seconds ∧
          t.retained.timeValid = s.retained.timeValid ∧ t.retained.alarmCount = s.retained.alarmCount) ∧
        (¬ kept → t.retained.cause = .none ∧ t.retained.seconds = 0 ∧ t.retained.timeValid = false ∧
          t.retained.alarmCount = 0) ∧
        t = { s with
          mode := t.mode, lanesEnabled := t.lanesEnabled, lanesFailed := t.lanesFailed, lanes := t.lanes,
          retained := t.retained, notices := t.notices } ∧
        s.raisesExactly t fun n m => n = .lanesDegraded ∧ m = .none ∧ passed ≠ 0xFF) ∧
      (¬ few → s.tamperMark = true →
        ∃ x, t = alarmEntry .tamper x ∧
          x = { s with
            lanesEnabled := passed, lanesFailed := ~~~ passed, lanes := t.lanes, retained := x.retained,
            notices := x.notices } ∧
          s.raisesExactly x fun n m => n = .lanesDegraded ∧ m = .none ∧ passed ≠ 0xFF)

/-- R170. -/
def Obligations.TamperActsByTheMode : Prop :=
  ∀ s : State,
    (s.tamperAsserted = false → s.resetHeld ≠ none →
      exec .tamperAssert s = .next { s with tamperAsserted := true, kwk := none }) ∧
    (s.tamperAsserted = false → s.resetHeld = none → s.mode = .starting →
      exec .tamperAssert s = .next { s with tamperAsserted := true, kwk := none, tamperMark := true }) ∧
    (s.tamperAsserted = false → s.resetHeld = none → s.mode = .running →
      exec .tamperAssert s = .next (alarmEntry .tamper { s with tamperAsserted := true, kwk := none })) ∧
    (s.tamperAsserted = false → s.resetHeld = none → s.mode = .alarm ∨ s.mode = .failed →
      exec .tamperAssert s = .next { s with tamperAsserted := true, kwk := none }) ∧
    (s.tamperAsserted = true → exec .tamperAssert s = .next s) ∧
    exec .tamperDeassert s = .next { s with tamperAsserted := false }

/-- R171 with each block's own response. -/
def Obligations.AlarmEntryErasesKeys : Prop :=
  ∀ (cause : AlarmCause) (s : State),
    let t := alarmEntry cause s
    t.mode = .alarm ∧ t.kwk = none ∧
    (∀ i k, t.outSlot i k =
      OutSlot.empty (if (s.outSlot i k).state = .loading then .cancelled else (s.outSlot i k).lastLoad)) ∧
    (∀ i k, t.inSlot i k =
      InSlot.empty (if (s.inSlot i k).state = .loading then .cancelled else (s.inSlot i k).lastLoad)) ∧
    (∀ i, t.outStream i = { s.outStream i with
      state := (if (s.outStream i).state = .unused then .unused else .opened), pendingSwitch := none,
      slots := (t.outStream i).slots }) ∧
    (∀ i, t.inStream i = { s.inStream i with slots := (t.inStream i).slots }) ∧
    t.keyUnit = { jobs := [], working := none } ∧ (∀ n, t.lanes.get n = .free) ∧
    t.arbiter = { s.arbiter with pointer := 0, count := 0 } ∧ (∀ j, t.triggers.get j = .empty) ∧
    (∀ l, let k := s.link l
      t.link l = { k with
        state := .off, stopCause := .alarm, outQueue := [], inQueue := [], outList := [], inList := [],
        pauseAsserted := false, pauseOwed := (k.pauseOwed || (k.pauseAsserted && k.rack.up)), pacer := Pacer.idle,
        rack := (match k.rack.tx with
          | .data _ => { k.rack with tx := .idle, lastEnding := .cutBadFcs }
          | .pause _ => k.rack
          | .idle => k.rack),
        campus := (match k.campus.tx with
          | .data _ => { k.campus with tx := .idle, lastEnding := .cutBadFcs }
          | .pause _ => k.campus
          | .idle => k.campus),
        outCount := { k.outCount with stop := count48 k.outCount.stop (k.outQueue.length + k.outList.length) },
        inCount := { k.inCount with stop := count48 k.inCount.stop (k.inQueue.length + k.inList.length) } }) ∧
    t.retained = { s.retained with
      cause := cause, seconds := s.time.seconds, timeValid := s.time.valid,
      alarmCount := min (s.retained.alarmCount + 1) 255 } ∧
    (s.raisesExactly t fun n m =>
      (n = .alarm ∧ m = .none) ∨ (n = .linkStopped ∧ ∃ l, m = .link l ∧ (s.link l).state ≠ .off)) ∧
    t = { s with
      mode := t.mode, kwk := t.kwk, outs := t.outs, ins := t.ins, keyUnit := t.keyUnit, lanes := t.lanes,
      arbiter := t.arbiter, links := t.links, triggers := t.triggers, retained := t.retained, notices := t.notices }

/-- R151 and R152. That the position is judged after its advance is the model's reading (log entry 11, DEDUCED), and so is
the order inside one microsecond event: pacers and refresh counts first, then the grace timers, then the blocks of the
second event (log entry 14, DEDUCED). What a microsecond event does at a link is PacersRefillAndPausesRefresh, what
millisecond and second events do is ExpiriesEndService. -/
def Obligations.TicksAdvanceTheCount : Prop :=
  ∀ s : State, s.resetHeld = none → s.time.inRange →
    let position := (s.time.window + 1) % 1048576
    let adjusted := position % 8192 = 0 ∧ position / 8192 < s.time.trim.natAbs
    ∀ events : Nat, (¬ adjusted → events = 1) → (adjusted → 0 < s.time.trim → events = 2) →
      (adjusted → s.time.trim < 0 → events = 0) →
      ∃ t, exec .referenceTick s = .next t ∧ t.time.window = position ∧
        t.time.seconds * 1000000 + t.time.micros =
          (s.time.seconds * 1000000 + s.time.micros + events) % (2 ^ 32 * 1000000) ∧
        t.time.trim = s.time.trim ∧ t.time.discipline = s.time.discipline ∧ t.time.valid = s.time.valid ∧
        t.time.outOfWindow = s.time.outOfWindow ∧
        (∃ k ls o i n tr, t =
          { s with time := t.time, links := k, lanes := ls, outs := o, ins := i, notices := n, triggers := tr }) ∧
        let moved : State := { s with time := { s.time with window := position } }
        let event := fun x : State =>
          let counted : State := { x with time := x.time.micro, links := mapTable Link.micro x.links }
          let milli := if x.time.micro.micros % 1000 = 0 then milliEvent counted else counted
          if x.time.micro.micros = 0 then secondEvent milli else milli
        (events = 0 → t = moved) ∧ (events = 1 → t = event moved) ∧ (events = 2 → t = event (event moved))

/-- R153 and the ON_PULSE line of R160; what a millisecond and a second event do is ExpiriesEndService. That the millisecond
event of an early boundary comes before its second event is the model's reading (log entry 14, DEDUCED), and so is that a
slot which faults at the edge holds 0 edges remaining (log entry 23, DEDUCED). -/
def Obligations.PulseEdgesAlignAndCount : Prop :=
  ∀ s : State, s.resetHeld = none → s.time.micros ≤ 999999 →
    let early := s.time.discipline = true ∧ 999900 ≤ s.time.micros
    let late := s.time.discipline = true ∧ s.time.micros ≤ 100
    let outside := s.time.discipline = true ∧ 101 ≤ s.time.micros ∧ s.time.micros ≤ 999899
    ∃ t, exec .pulseEdge s = .next t ∧
      (s.time.discipline = false → t.time = s.time) ∧
      (early → t.time = { s.time with
        micros := 0, seconds := (if s.time.seconds < 4294967295 then s.time.seconds + 1 else 0) }) ∧
      (late → t.time = { s.time with micros := 0 }) ∧
      (outside → t.time = { s.time with outOfWindow := count48 s.time.outOfWindow 1 }) ∧
      (∀ j n a, s.triggers.get j = .armed (.onPulse n) a →
        (2 ≤ n → t.triggers.get j = .armed (.onPulse (n - 1)) a) ∧
        (n = 1 → t.triggers.get j = .empty ∨ ∃ f r, t.triggers.get j = .faulted (.onPulse 0) a f r)) ∧
      (∃ k ls o i n tr, t =
        { s with time := t.time, links := k, lanes := ls, outs := o, ins := i, notices := n, triggers := tr }) ∧
      (early → t = triggersEvent .pulseEdge (secondEvent (milliEvent { s with time := t.time }))) ∧
      (¬ early → t = triggersEvent .pulseEdge { s with time := t.time }) ∧
      ((∀ j c a, s.triggers.get j ≠ .armed c a) → ¬ early → t = { s with time := t.time })

/-- R142 and the refresh of R88. That the refresh count runs in either pause state is log entry 16 (DEDUCED); that
RAMP_STAGE_END and PAUSE_REFRESH are the deciding microsecond event at one object alone is log entry 1 (DEDUCED). -/
def Obligations.PacersRefillAndPausesRefresh : Prop :=
  ∀ (l : LinkNo) (s : State) (n left : Nat),
    let k := s.link l
    let credit : Int := min (k.pacer.credit + k.pacer.rate) k.settings.burst
    let onward : Pacer :=
      match k.ramp[n]? with
      | some st => { phase := .ramp (n + 1) st.duration, credit := credit, rate := st.rate }
      | none => { phase := .steady, credit := credit, rate := k.settings.rate }
    ((k.pacer.phase = .idle ∨ k.pacer.phase = .held) → k.micro.pacer = k.pacer) ∧
    (k.pacer.phase = .steady → k.micro.pacer = { k.pacer with credit := credit }) ∧
    (k.pacer.phase = .ramp n left → 2 ≤ left →
      k.micro.pacer = { k.pacer with phase := .ramp n (left - 1), credit := credit }) ∧
    (k.pacer.phase = .ramp n left → left = 1 → k.micro.pacer = onward) ∧
    (s.resetHeld = none → k.pacer.phase = .ramp n left → left = 1 →
      exec (.rampStageEnd l) s = .next (s.modLink l fun x => { x with pacer := onward })) ∧
    (s.resetHeld = none → k.refresh = some 99 → k.pauseAsserted = true → k.rack.up = true →
      exec (.pauseRefresh l) s = .next (s.modLink l fun x => { x with refresh := some 0, pauseOwed := true })) ∧
    (k.refresh = none → k.micro = { k with pacer := k.micro.pacer }) ∧
    (k.refresh = some n → n < 99 → k.micro = { k with pacer := k.micro.pacer, refresh := some (n + 1) }) ∧
    (k.refresh = some 99 →
      k.micro = { k with
        pacer := k.micro.pacer, refresh := some 0, pauseOwed := k.pauseOwed || (k.pauseAsserted && k.rack.up) })

/-- R122, R41 and R152. That GRACE_EXPIRY and LIFETIME_EXPIRY are the deciding event at one object, the last second accrued
and REKEY_DUE raised in it, is log entry 1 (DEDUCED). -/
def Obligations.ExpiriesEndService : Prop :=
  ∀ (i : StreamNo) (k : SlotNo) (s : State), s.resetHeld = none →
    (let t := milliEvent s
     t = { s with ins := t.ins, notices := t.notices } ∧
      t.inStream i = { s.inStream i with slots := (t.inStream i).slots } ∧
      s.raisesExactly t fun n m =>
        n = .slotFreed ∧ ∃ j a, m = .inStream j ∧ (s.inSlot j a).state = .grace ∧ (s.inSlot j a).grace ≤ 1 ∧
          (s.inSlot j a).inFlight = 0) ∧
    ((milliEvent s).inSlot i k =
      if (s.inSlot i k).state = .grace then
        (if (s.inSlot i k).grace ≤ 1 then
          (if (s.inSlot i k).inFlight = 0 then InSlot.empty (s.inSlot i k).lastLoad
           else { s.inSlot i k with state := .draining, grace := 0 })
         else { s.inSlot i k with grace := (s.inSlot i k).grace - 1 })
      else s.inSlot i k) ∧
    ((s.inSlot i k).state = .grace → (s.inSlot i k).grace = 1 →
      exec (.graceExpiry i k) s = .next (leaveInSlot i k s)) ∧
    (let sl := s.outSlot i k
     (s.outStream i).state = .active k → sl.lifetimeKind = .seconds → sl.accrued + 1 = sl.limit →
      (sl.rekeyRaised = true ∨ sl.warning ≠ sl.limit →
        exec (.lifetimeExpiry i) s =
          .next (leaveActive i k (s.modOutSlot i k fun x => { x with accrued := sl.limit }))) ∧
      (sl.rekeyRaised = false → sl.warning = sl.limit →
        exec (.lifetimeExpiry i) s =
          .next (leaveActive i k
            (raise .rekeyDue (.outStream i)
              (s.modOutSlot i k fun x => { x with accrued := sl.limit, rekeyRaised := true }))))) ∧
    secondEvent s = triggersEvent (.secondEvent s.time.seconds) (lifetimesEvent s) ∧
    (let u := lifetimesEvent s
     let counts := fun j a => (s.outStream j).state = .active a ∧ (s.outSlot j a).lifetimeKind = .seconds
     let due := fun j a =>
       (s.outSlot j a).rekeyRaised = false ∧ (s.outSlot j a).warning ≠ 0 ∧
         (s.outSlot j a).accrued + 1 = (s.outSlot j a).warning
     let ends := fun j a => (s.outSlot j a).accrued + 1 = (s.outSlot j a).limit
     let second := fun sl : OutSlot =>
       { sl with
         accrued := sl.accrued + 1
         rekeyRaised := sl.rekeyRaised || decide (sl.warning ≠ 0 ∧ sl.accrued + 1 = sl.warning) }
     u = { s with outs := u.outs, notices := u.notices } ∧
      (counts i k → ¬ ends i k → u.outStream i = (s.modOutSlot i k second).outStream i) ∧
      (counts i k → ends i k →
        u.outStream i = (leaveActive i k (s.modOutSlot i k second)).outStream i) ∧
      ((∀ a, ¬ counts i a) → u.outStream i = s.outStream i) ∧
      s.raisesExactly u fun n m =>
        ∃ j a, m = .outStream j ∧ counts j a ∧
          ((n = .rekeyDue ∧ due j a) ∨
            (ends j a ∧
              ((n = .switched ∧ (s.outSlot j (otherSlot a)).state = .ready) ∨
                (n = .stalled ∧ (s.outSlot j (otherSlot a)).state ≠ .ready) ∨
                (n = .slotFreed ∧ (s.outSlot j a).inFlight = 0)))))

/-- R160 and R161. That TRIGGER_FIRE carries and delivers the deciding event at one trigger, the last pulse counted in it,
is log entry 1 (DEDUCED); that it does nothing at a trigger the event does not make true is a DESIGN CHOICE of the same
entry; that a slot which faults at an edge holds 0 edges remaining is log entry 23 (DEDUCED); that an event reaches the
slots in the order of their numbers is log entry 14 (DESIGN CHOICE). -/
def Obligations.TriggersFireWhole : Prop :=
  (∀ (j : TriggerNo) (c : TriggerCond) (a : TriggerAction) (e : FireEvent) (s : State),
    s.resetHeld = none → s.triggers.get j = .armed c a →
    ((c = .onPulse 1 ∧ e = .pulseEdge) ∨ (∃ t, c = .atTime t ∧ e = .secondEvent t) ∨
      (∃ t now, c = .atTime t ∧ e = .timeSet now ∧ t ≤ now) ∨
      (∃ i v p, c = .atNumber i v ∧ e = .assigned i p ∧ v ≤ p)) →
    let c' := if c = .onPulse 1 then .onPulse 0 else c
    let faults := fun failing reason : Nat =>
      exec (.triggerFire j e) s =
        .next (raise .triggerFault (.trigger j)
          { s with triggers := putAt s.triggers j (.faulted c' a failing reason) })
    let fires := fun f : State → State =>
      exec (.triggerFire j e) s =
        .next (raise .triggerFired (.trigger j) (f { s with triggers := putAt s.triggers j .empty }))
    let ready := fun i : StreamNo =>
      ∃ k, (s.outStream i).state = .active k ∧
        ((s.outSlot i (otherSlot k)).state = .ready ∨ (s.outSlot i (otherSlot k)).state = .loading)
    (∀ before i after, a = .switch (before ++ i :: after) → (∀ x ∈ before, ready x) →
      ((∀ k, (s.outStream i).state ≠ .active k) → faults i.1 0x0F) ∧
      ((∃ k, (s.outStream i).state = .active k) → ¬ ready i → faults i.1 0x10)) ∧
    (∀ l, a = .start l →
      ((s.link l).state = .live → faults l.1 0x03) ∧ ((s.link l).state = .draining → faults l.1 0x05) ∧
      ((s.link l).state = .off → (s.link l).setUp = false → faults l.1 0x04) ∧
      ((s.link l).state = .off → (s.link l).setUp = true → fires (startLink l))) ∧
    (∀ l, a = .stopDrain l → fires (drainLink l .triggerDrain)) ∧
    (∀ l, a = .stopNow l → fires (stopLinkNow l .triggerNow)) ∧
    (∀ streams, a = .switch streams → streams.Nodup → (∀ i ∈ streams, ready i) →
      ∃ t, exec (.triggerFire j e) s = .next t ∧ t.triggers = putAt s.triggers j .empty ∧
        t = { s with outs := t.outs, notices := t.notices, triggers := t.triggers } ∧
        (∀ i, i ∉ streams → t.outStream i = s.outStream i) ∧
        (∀ i ∈ streams, ∀ k, (s.outStream i).state = .active k →
          ((s.outSlot i (otherSlot k)).state = .ready →
            t.outStream i = { s.outStream i with
              state := .active (otherSlot k), pendingSwitch := none, slots := (t.outStream i).slots } ∧
            t.outSlot i (otherSlot k) = { s.outSlot i (otherSlot k) with state := .active } ∧
            t.outSlot i k =
              (if (s.outSlot i k).inFlight = 0 then OutSlot.empty (s.outSlot i k).lastLoad
               else { s.outSlot i k with state := .draining })) ∧
          ((s.outSlot i (otherSlot k)).state = .loading →
            t.outStream i = { s.outStream i with pendingSwitch := some (otherSlot k) })) ∧
        s.raisesExactly t fun n m =>
          (n = .triggerFired ∧ m = .trigger j) ∨
            ∃ i ∈ streams, ∃ k, m = .outStream i ∧ (s.outStream i).state = .active k ∧
              (s.outSlot i (otherSlot k)).state = .ready ∧
              (n = .switched ∨ (n = .slotFreed ∧ (s.outSlot i k).inFlight = 0)))) ∧
    (∀ (j : TriggerNo) (e : FireEvent) (s : State), s.resetHeld = none →
      (∀ c a, s.triggers.get j = .armed c a →
        match c, e with
        | .onPulse n, .pulseEdge => 2 ≤ n
        | .atTime t, .secondEvent now => t ≠ now
        | .atTime t, .timeSet now => now < t
        | .atNumber i v, .assigned i' p => i ≠ i' ∨ p < v
        | _, _ => True) →
        exec (.triggerFire j e) s = .next s) ∧
    ∀ (e : FireEvent) (s : State), s.resetHeld = none → e ≠ .pulseEdge →
      Host.Core.run Sys2Proof.core 8
          { s with pending := (List.finRange 8).map (fun j => Instr.triggerFire j e) ++ s.pending } =
        .next (triggersEvent e s)

/-- R131, R137, R139 and R88. -/
def Obligations.FacesAndFrames : Prop :=
  ∀ (l : LinkNo) (frame : Frame) (s : State), s.resetHeld = none →
    let k := s.link l
    let changed := fun (side : Side) (x : Link) =>
      let y := s.modLink l fun _ => x
      let bit : BitVec 8 := BitVec.ofNat 8 (2 ^ (2 * l.1 + if side = .campus then 1 else 0))
      let entry := fun (bits : BitVec 8) (merged : Bool) =>
        { changed := bits, status := faceStatus y, seconds := s.time.seconds, micros := s.time.micros,
          overwritten := merged : LinkChange }
      if s.linkChangeMask &&& bit = 0 then y
      else
        raise .linkChange .none
          { y with
            linkChanges :=
              match s.linkChanges with
              | [] => [entry bit false]
              | [a] => [a, entry bit false]
              | a :: b :: _ => [a, entry (b.changed ||| bit) true] }
    let down := fun f : Face =>
      { up := false, tx := .idle, lastEnding := if f.tx = .idle then f.lastEnding else .lost : Face }
    let good := 64 ≤ frame.length ∧ frame.length ≤ 9728 ∧
      frame.drop (frame.length - 4) = bytesOfBits 4 (Config.fcs (frame.take (frame.length - 4)))
    (k.rack.up = false →
      exec (.faceUp l .rack) s =
        .next (changed .rack { k with rack := { k.rack with up := true }, pauseOwed := k.pauseAsserted })) ∧
    (k.rack.up = true →
      exec (.faceDown l .rack) s =
        .next (changed .rack { k with rack := down k.rack, pauseOwed := false, refresh := none })) ∧
    (k.campus.up = false →
      exec (.faceUp l .campus) s =
        .next (changed .campus
          { k with
            campus := { k.campus with up := true }
            pacer :=
              if k.state = .off then k.pacer
              else
                match k.ramp with
                | [] => { phase := .steady, credit := 0, rate := k.settings.rate }
                | st :: _ => { phase := .ramp 1 st.duration, credit := 0, rate := st.rate } })) ∧
    (k.campus.up = true →
      exec (.faceDown l .campus) s =
        .next (changed .campus
          { k with
            campus := down k.campus
            pacer := if k.state = .off then k.pacer else { phase := .held, credit := 0, rate := 0 } })) ∧
    (k.pauseOwed = true → k.rack.up = true → k.rack.tx = .idle →
      exec (.pauseSend l) s =
        .next (s.modLink l fun _ =>
          { k with
            rack := { k.rack with
              tx := .pause (withFcs ([0x01, 0x80, 0xC2, 0, 0, 1, 0, 0, 0, 0, 0, 0, 0x88, 0x08, 0x00, 0x01] ++
                (if k.pauseAsserted then [0xFF, 0xFF] else [0, 0]) ++ List.replicate 42 0)) }
            pauseOwed := false
            refresh := some 0 })) ∧
    (k.rack.tx ≠ .idle →
      exec (.transmissionEnd l .rack) s =
        .next (s.modLink l fun _ => { k with rack := { k.rack with tx := .idle, lastEnding := .complete } })) ∧
    (k.campus.tx ≠ .idle →
      exec (.transmissionEnd l .campus) s =
        .next (s.modLink l fun _ => { k with campus := { k.campus with tx := .idle, lastEnding := .complete } })) ∧
    (k.rack.up = true →
      let becomes := fun x : Link => exec (.frameReceived l .rack frame) s = .next (s.modLink l fun _ => x)
      let c := k.faceCount
      let o := k.outCount
      (¬ good → becomes { k with faceCount := { c with rackErrors := count48 c.rackErrors 1 } }) ∧
      (good → k.state = .off → becomes { k with faceCount := { c with rackOff := count48 c.rackOff 1 } }) ∧
      (good → k.state = .draining →
        becomes { k with faceCount := { c with rackStopping := count48 c.rackStopping 1 } }) ∧
      (good → k.state = .live → 524288 < occupancy k.outQueue + frame.length →
        becomes { k with outCount := { o with queueFull := count48 o.queueFull 1 } }) ∧
      (good → k.state = .live → occupancy k.outQueue + frame.length ≤ 524288 →
        (k.pauseAsserted = true ∨ occupancy k.outQueue + frame.length < k.settings.highMark * 1024 →
          becomes { k with
            outQueue := k.outQueue ++ [frame], outCount := { o with accepted := count48 o.accepted 1 } }) ∧
        (k.pauseAsserted = false → k.settings.highMark * 1024 ≤ occupancy k.outQueue + frame.length →
          becomes { k with
            outQueue := k.outQueue ++ [frame], pauseAsserted := true, pauseOwed := true,
            outCount := { o with
              accepted := count48 o.accepted 1, pauseAssertions := count48 o.pauseAssertions 1 } }))) ∧
    (k.campus.up = true →
      let becomes := fun x : Link => exec (.frameReceived l .campus frame) s = .next (s.modLink l fun _ => x)
      let c := k.faceCount
      let i := k.inCount
      (¬ good → becomes { k with faceCount := { c with campusErrors := count48 c.campusErrors 1 } }) ∧
      (good → k.state = .off → becomes { k with faceCount := { c with campusOff := count48 c.campusOff 1 } }) ∧
      (good → k.state = .draining →
        becomes { k with faceCount := { c with campusStopping := count48 c.campusStopping 1 } }) ∧
      (good → k.state = .live → 524288 < occupancy k.inQueue + frame.length →
        becomes { k with inCount := { i with queueFull := count48 i.queueFull 1 } }) ∧
      (good → k.state = .live → occupancy k.inQueue + frame.length ≤ 524288 →
        becomes { k with
          inQueue := k.inQueue ++ [frame], inCount := { i with accepted := count48 i.accepted 1 } }))

/-- R90 to R92. That a grant command of another kind than the next grant is no occurrence is the model's choice (log
entry 1). -/
def Obligations.GrantsAreArbitrated : Prop :=
  ∀ (n : LaneNo) (s : State),
    let requests := fun r : Fin 8 =>
      if r.1 < 4 then
        (s.link (requesterLink r)).outQueue ≠ [] ∧ (s.link (requesterLink r)).outList.length < 64
      else (s.link (requesterLink r)).inQueue ≠ [] ∧ (s.link (requesterLink r)).inList.length < 64
    let unit := s.keyUnit.jobs ≠ [] ∧ s.keyUnit.working = none
    let free := fun m : LaneNo => s.lanesEnabled.getLsbD m.1 = true ∧ s.lanes.get m = .free
    (∀ r : Fin 8, (requesterLink r).1 = r.1 % 4) ∧
    ((s.mode ≠ .running ∨ ∀ m, ¬ free m) → nextGrant s = none) ∧
    (s.mode = .running → free n → (∀ m < n, ¬ free m) →
      (unit → (s.arbiter.rotation ≤ s.arbiter.count ∨ ∀ r, ¬ requests r) → nextGrant s = some (.keyUnit, n)) ∧
      (∀ d : Fin 8, ¬ (unit ∧ s.arbiter.rotation ≤ s.arbiter.count) → requests (s.arbiter.pointer + d) →
        (∀ d' < d, ¬ requests (s.arbiter.pointer + d')) →
          nextGrant s = some (.traffic (s.arbiter.pointer + d), n)) ∧
      (¬ unit → (∀ r, ¬ requests r) → nextGrant s = none)) ∧
    (∀ r, noteTrafficGrant r s =
      { s with
        arbiter := { s.arbiter with
          pointer := r + 1, count := if s.arbiter.count < 7 then s.arbiter.count + 1 else 7 } }) ∧
    (∀ read : KeyRead, (∀ r m, r.1 < 4 → nextGrant s ≠ some (.traffic r, m)) → exec (.outboundGrant read) s = .next s) ∧
    (∀ read : KeyRead, (∀ r m, 4 ≤ r.1 → nextGrant s ≠ some (.traffic r, m)) → exec (.inboundGrant read) s = .next s) ∧
    ((∀ m, nextGrant s ≠ some (.keyUnit, m)) → exec .keyPreparationGrant s = .next s)

/-- R57 to R60. -/
def Obligations.FramesAreClassified : Prop :=
  ∀ (l : LinkNo) (f : Frame) (s : State),
    let tagged := numAt f 12 2 = 0x8100
    let broadcast := f.take 6 = [0xFF, 0xFF, 0xFF, 0xFF, 0xFF, 0xFF]
    let matching := fun r : Rule =>
      r.valid = true ∧ r.linkSet.getLsbD l.1 = true ∧
        (match r.tagMatch with
          | .any => True
          | .untagged => ¬ tagged
          | .tagRange => tagged ∧ numAt f 14 2 % 4096 / 2 ^ r.tagExp * 2 ^ r.tagExp = r.tagBase) ∧
        (match r.destClass with
          | .any => True
          | .unicast => byteAt f 0 % 2 = 0
          | .multicast => byteAt f 0 % 2 = 1 ∧ ¬ broadcast
          | .broadcast => broadcast)
    (∀ i, matching (s.rules.get i) → (∀ j < i, ¬ matching (s.rules.get j)) →
      classify s l f =
        { action := (s.rules.get i).action, stream := (s.rules.get i).stream, keepTag := (s.rules.get i).keepTag } ∧
      countMatch l f s =
        { s with
          rules := putAt s.rules i
            { s.rules.get i with matchCount := count48 (s.rules.get i).matchCount 1 } }) ∧
    ((∀ i, ¬ matching (s.rules.get i)) →
      (classify s l f).keepTag = false ∧ countMatch l f s = s ∧
      ((s.link l).settings.defaultOut = .discard → (classify s l f).action = .discard) ∧
      ((s.link l).settings.defaultOut = .passClear → (classify s l f).action = .passClear))

/-- R61 with the assignment of R34, steps 1 to 7. That the match count stays added where the key read is uncorrectable is log
entry 15 (DEDUCED from R60 and R28). -/
def Obligations.OutboundGrants : Prop :=
  ∀ (r : Fin 8) (n : LaneNo) (read : KeyRead) (f : Frame) (rest : List Frame) (s : State),
    s.resetHeld = none → nextGrant s = some (.traffic r, n) → r.1 < 4 →
    (s.link (requesterLink r)).outQueue = f :: rest →
    let l := requesterLink r
    let d := classify s l f
    let i := d.stream
    let k := s.link l
    let dropped : Link :=
      if k.pauseAsserted = true ∧ occupancy rest ≤ k.settings.lowMark * 1024 then
        { k with outQueue := rest, pauseAsserted := false, pauseOwed := true }
      else { k with outQueue := rest }
    let base := countMatch l f { noteTrafficGrant r s with links := putAt s.links l dropped }
    let settled := fun x : State =>
      if (x.link l).state = .draining ∧ (x.link l).quiet = true then
        raise .linkStopped (.link l) (x.modLink l fun k => { k with state := .off, pacer := Pacer.idle })
      else x
    let grants := fun x : State => exec (.outboundGrant read) s = .next (settled x)
    let oversize := base.modLink l fun k =>
      { k with outCount := { k.outCount with oversize := count48 k.outCount.oversize 1 } }
    (d.action = .discard →
      grants (base.modLink l fun k =>
        { k with outCount := { k.outCount with classifier := count48 k.outCount.classifier 1 } })) ∧
    (d.action = .passClear → k.settings.campusMax < f.length → grants oversize) ∧
    (d.action = .passClear → f.length ≤ k.settings.campusMax →
      grants (base.modLink l fun k =>
        { k with
          outList := k.outList ++ [{ dir := .out, link := l, body := .pass f, length := f.length, state := .done }] })) ∧
    (d.action = .protect → k.settings.campusMax < f.length + 28 → grants oversize) ∧
    (d.action = .protect → f.length + 28 ≤ k.settings.campusMax →
      ((∀ a, (s.outStream i).state ≠ .active a) →
        grants (base.modOut i fun st => { st with noKeyDiscards := count48 st.noKeyDiscards 1 })) ∧
      (∀ a, (s.outStream i).state = .active a → read = .uncorrectable →
        grants (raise .keyStoreError .none
          { leaveActive i a (base.modOutSlot i a fun sl => { sl with lastLoad := .storeError }) with
            storeDiscards := count48 s.storeDiscards 1
            storeError :=
              match s.storeError with
              | some e => some e
              | none => some (.out, i, a) })) ∧
      (∀ a x, (s.outStream i).state = .active a → read ≠ .uncorrectable → (s.outSlot i a).secret = some x →
        let sl := s.outSlot i a
        let other := s.outSlot i (otherSlot a)
        let p := sl.nextFn
        let tagClear := d.keepTag && decide (numAt f 12 2 = 0x8100)
        let h := if tagClear then 16 else 12
        let bytes := if tagClear then f.length - 20 else f.length - 16
        let accrued := if sl.lifetimeKind = .mebibytes then sl.accrued + bytes else sl.accrued
        let due := !sl.rekeyRaised && (decide (sl.soft ≤ p) ||
          decide (sl.lifetimeKind = .mebibytes ∧ sl.warning ≠ 0 ∧ sl.warning * 1048576 ≤ accrued))
        let ends := decide (p = sl.hard) || decide (sl.lifetimeKind = .mebibytes ∧ sl.limit * 1048576 ≤ accrued)
        let leaves := ends || ((s.outStream i).autoSwitch && decide (sl.soft ≤ p ∧ other.state = .ready))
        let onward := leaves && decide (other.state = .ready)
        let item : Item :=
          { dir := .out, link := l
            body := .protect { stream := i, slot := a, fn := p, tagClear := tagClear }
              (f.take h ++ bytesOfNat 2 s.envelopeType ++ [0x01, (if a = 1 then 1 else 0) + (if tagClear then 2 else 0)] ++
                bytesOfNat 2 (s.outStream i).streamId ++ bytesOfNat 6 p)
              ((f.take (f.length - 4)).drop h) none
            length := f.length + 28
            state := .onLane n }
        ∃ y o nt,
          grants (triggersEvent (.assigned i p) y) ∧
          y = { base with
            links := putAt base.links l { dropped with outList := k.outList ++ [item] }
            lanes := putAt s.lanes n (.protect l x (x.salt ++ (0 : BitVec 16) ++ BitVec.ofNat 48 p))
            outs := o
            notices := nt
            storeCorrections := if read = .corrected then count48 s.storeCorrections 1 else s.storeCorrections } ∧
          (∀ j, j ≠ i → y.outStream j = s.outStream j) ∧
          y.outStream i = { s.outStream i with
            state := if leaves then (if onward then .active (otherSlot a) else .stalled) else .active a
            pendingSwitch := if leaves then none else (s.outStream i).pendingSwitch
            slots := (y.outStream i).slots
            protectedFrames := count48 (s.outStream i).protectedFrames 1
            protectedBytes := count48 (s.outStream i).protectedBytes bytes } ∧
          y.outSlot i a = { sl with
            state := if leaves then .draining else sl.state, nextFn := p + 1, inFlight := sl.inFlight + 1,
            accrued := accrued, rekeyRaised := sl.rekeyRaised || due } ∧
          y.outSlot i (otherSlot a) = (if onward then { other with state := .active } else other) ∧
          nt.get NoticeKind.rekeyDue.number =
            (if due then (s.notices.get NoticeKind.rekeyDue.number).raised (.outStream i)
             else s.notices.get NoticeKind.rekeyDue.number) ∧
          nt.get NoticeKind.switched.number =
            (if onward then (s.notices.get NoticeKind.switched.number).raised (.outStream i)
             else s.notices.get NoticeKind.switched.number) ∧
          nt.get NoticeKind.stalled.number =
            (if leaves && !onward then (s.notices.get NoticeKind.stalled.number).raised (.outStream i)
             else s.notices.get NoticeKind.stalled.number) ∧
          ∀ m, m ≠ NoticeKind.rekeyDue.number → m ≠ NoticeKind.switched.number → m ≠ NoticeKind.stalled.number →
            nt.get m = s.notices.get m))

/-- The seven steps of R108; the replay test is ReplayNeverRepeats. -/
def Obligations.InboundGrants : Prop :=
  ∀ (r : Fin 8) (n : LaneNo) (read : KeyRead) (f : Frame) (rest : List Frame) (s : State),
    s.resetHeld = none → nextGrant s = some (.traffic r, n) → 4 ≤ r.1 →
    (s.link (requesterLink r)).inQueue = f :: rest → s.envelopeType ≠ 0x8100 →
    let l := requesterLink r
    let base := { noteTrafficGrant r s with links := putAt s.links l { s.link l with inQueue := rest } }
    let settled := fun x : State =>
      if (x.link l).state = .draining ∧ (x.link l).quiet = true then
        raise .linkStopped (.link l) (x.modLink l fun k => { k with state := .off, pacer := Pacer.idle })
      else x
    let grants := fun x : State => exec (.inboundGrant read) s = .next (settled x)
    let counted := fun g : InCounters → InCounters => base.modLink l fun k => { k with inCount := g k.inCount }
    let enveloped := fun b : Bool =>
      (b = false ∧ numAt f 12 2 = s.envelopeType) ∨
        (b = true ∧ numAt f 12 2 = 0x8100 ∧ numAt f 16 2 = s.envelopeType)
    ((∀ b, ¬ enveloped b) →
      ((s.link l).settings.clearIn = .passClear →
        grants (base.modLink l fun k =>
          { k with
            inList := k.inList ++ [{ dir := .inn, link := l, body := .pass f, length := f.length, state := .done }] })) ∧
      ((s.link l).settings.clearIn = .discard →
        grants (counted fun c => { c with clearDiscards := count48 c.clearDiscards 1 }))) ∧
    (∀ b, enveloped b →
      let h := if b then 16 else 12
      let flags := byteAt f (h + 3)
      let p := numAt f (h + 6) 6
      let slot : SlotNo := if flags % 2 = 1 then 1 else 0
      let bad := f.length < 92 ∨ byteAt f (h + 2) ≠ 1 ∨ 4 ≤ flags ∨ flags / 2 % 2 ≠ (if b then 1 else 0) ∨ p = 0
      let named := fun j : StreamNo =>
        (s.inStream j).isOpen = true ∧ (s.inStream j).link = l ∧ (s.inStream j).streamId = numAt f (h + 4) 2
      let corrected : State := { base with
        storeCorrections := if read = KeyRead.corrected then count48 s.storeCorrections 1 else s.storeCorrections }
      (bad → grants (counted fun c => { c with badHeader := count48 c.badHeader 1 })) ∧
      (¬ bad → (∀ j, ¬ named j) → grants (counted fun c => { c with unknownStream := count48 c.unknownStream 1 })) ∧
      (∀ i, ¬ bad → named i → (∀ j < i, ¬ named j) →
        let sl := s.inSlot i slot
        let usable := sl.state = .ready ∨ sl.state = .active ∨ sl.state = .grace
        (¬ usable → grants (base.modIn i fun st => { st with noKeyDiscards := count48 st.noKeyDiscards 1 })) ∧
        (usable → read = .uncorrectable →
          grants (raise .keyStoreError .none
            { leaveInSlot i slot (base.modInSlot i slot fun x => { x with lastLoad := .storeError }) with
              storeDiscards := count48 s.storeDiscards 1
              storeError :=
                match s.storeError with
                | some e => some e
                | none => some (.inn, i, slot) })) ∧
        (usable → read ≠ .uncorrectable → replayPasses sl (s.inStream i).window p = false →
          grants (corrected.modIn i fun st => { st with replayDiscards := count48 st.replayDiscards 1 })) ∧
        (∀ x : Secret, usable → read ≠ .uncorrectable → replayPasses sl (s.inStream i).window p = true → sl.secret = some x →
          grants
            ((({ corrected with
                lanes := putAt s.lanes n (.verify l x (x.salt ++ (0 : BitVec 16) ++ BitVec.ofNat 48 p)) } : State).modLink l
              fun k =>
                { k with
                  inList := k.inList ++
                    [{ dir := .inn, link := l
                       body := .verify { stream := i, slot := slot, fn := p, tagClear := b } (f.take (h + 12))
                         ((f.take (f.length - 20)).drop (h + 12)) (BitVec.ofNat 128 (numAt f (f.length - 20) 16)) none
                       length := f.length, state := .onLane n }] }).modInSlot i slot
              fun x => { x with inFlight := x.inFlight + 1 }))))

/-- R19 to R25 at the lane, R47 and R97. That a CANCELLED end drops a pending switch set after the cancel is log entry 22
(DEDUCED from R47). -/
def Obligations.KeyJobsAndLanes : Prop :=
  ∀ (n : LaneNo) (j : Job) (rest : List Job) (s : State), s.resetHeld = none →
    let emptied := fun (r : LoadResult) (x : State) =>
      match j.range.dir with
      | .out => x.modOutSlot j.stream j.slot fun _ => OutSlot.empty r
      | .inn => x.modInSlot j.stream j.slot fun _ => InSlot.empty r
    let dropped := fun x : State =>
      match j.range.dir with
      | .out =>
        x.modOut j.stream fun st =>
          { st with pendingSwitch := if st.pendingSwitch = some j.slot then none else st.pendingSwitch }
      | .inn => x
    let failed := fun (r : LoadResult) (x : State) =>
      raise .loadFailed
        (match j.range.dir with
          | .out => .outStream j.stream
          | .inn => .inStream j.stream) (dropped (emptied r x))
    let popped := fun x : State =>
      { x with
        keyUnit := { jobs := rest, working := none }
        arbiter := if rest = [] then x.arbiter else { x.arbiter with count := 0 } : State }
    (nextGrant s = some (.keyUnit, n) → s.keyUnit.jobs = j :: rest →
      (∀ key, s.kwk = some key →
        exec .keyPreparationGrant s =
          .next { s with
            keyUnit := { jobs := j :: rest, working := some n }
            lanes := putAt s.lanes n (.job key)
            arbiter := { s.arbiter with count := 0 } }) ∧
      (s.kwk = none →
        exec .keyPreparationGrant s =
          .next (popped (failed .unwrapFailed { s with arbiter := { s.arbiter with count := 0 } })))) ∧
    (∀ key, s.keyUnit.working = some n → s.keyUnit.jobs = j :: rest → s.lanes.get n = .job key →
      let freed := { s with lanes := putAt s.lanes n .free }
      let ends := fun x : State => exec .keyJobCompletion s = .next (popped x)
      let opened := Config.gcmOpen key j.nonce
        [if j.range.dir = .out then 0 else 1, BitVec.ofNat 8 j.stream.1, BitVec.ofNat 8 j.slot.1] j.wrapped j.tag
      (j.cancelled = true → ends (dropped (emptied .cancelled freed))) ∧
      (j.cancelled = false → opened = none → ends (failed .unwrapFailed freed)) ∧
      (∀ plain, j.cancelled = false → opened = some plain →
        let x : Secret :=
          { key := BitVec.ofNat 256 (numAt plain.toList 0 32), salt := BitVec.ofNat 32 (numAt plain.toList 32 4) }
        let checks := (Config.aesBlock x.key 0).toNat / 2 ^ 96 = j.check.toNat
        (¬ checks → ends (failed .checkFailed freed)) ∧
        (checks →
          (∀ lower, j.range = .inn lower →
            ends (raise .keyReady (.inStream j.stream)
              (freed.modInSlot j.stream j.slot fun _ =>
                { state := .ready, secret := some x, lower := lower, highest := lower - 1, bitmap := 0, grace := 0,
                  inFlight := 0, lastLoad := .ok }))) ∧
          (∀ initial soft hard kind limit warning, j.range = .out initial soft hard kind limit warning →
            let installed := raise .keyReady (.outStream j.stream)
              (freed.modOutSlot j.stream j.slot fun _ =>
                { state := .ready, secret := some x, initialFn := initial, nextFn := initial, soft := soft,
                  hard := hard, lifetimeKind := kind, limit := if kind = .none then 0 else limit,
                  warning := if kind = .none then 0 else warning, accrued := 0, rekeyRaised := false, inFlight := 0,
                  lastLoad := .ok })
            ((s.outStream j.stream).state = .opened ∨ (s.outStream j.stream).state = .stalled →
              ends ((installed.modOutSlot j.stream j.slot fun sl => { sl with state := .active }).modOut j.stream
                fun st => { st with state := .active j.slot })) ∧
            (∀ a, (s.outStream j.stream).state = .active a →
              ((s.outStream j.stream).pendingSwitch = some j.slot → ends (switchStream j.stream a installed)) ∧
              ((s.outStream j.stream).pendingSwitch ≠ some j.slot → ends installed)))))) ∧
    (∀ l x nonce, s.lanes.get n = .protect l x nonce →
      ∃ items : List Item,
        exec (.laneCompletion n) s =
          .next { s with
            links := putAt s.links l { s.link l with outList := items }, lanes := putAt s.lanes n .free } ∧
        items.length = (s.link l).outList.length ∧
        ∀ (m : Nat) (it : Item), (s.link l).outList[m]? = some it →
          (it.state ≠ .onLane n → items[m]? = some it) ∧
          ∀ ref aad plain tag, it.state = .onLane n → it.body = .protect ref aad plain tag →
            items[m]? = some { it with
              state := .done
              body := .protect ref aad (Config.gcmCiphertext x.key nonce aad plain).toList
                (some (Config.gcmTag x.key nonce aad plain)) }) ∧
    (∀ l x nonce, s.lanes.get n = .verify l x nonce →
      ∃ items : List Item,
        exec (.laneCompletion n) s =
          .next { s with
            links := putAt s.links l { s.link l with inList := items }, lanes := putAt s.lanes n .free } ∧
        items.length = (s.link l).inList.length ∧
        ∀ (m : Nat) (it : Item), (s.link l).inList[m]? = some it →
          (it.state ≠ .onLane n → items[m]? = some it) ∧
          ∀ ref aad cipher tag old, it.state = .onLane n → it.body = .verify ref aad cipher tag old →
            items[m]? = some { it with
              state := .done
              body := .verify ref aad cipher tag
                (some ((Config.gcmOpen x.key nonce aad cipher tag).map Vector.toList)) })

/-- R99 and R100. -/
def Obligations.OutboundReleases : Prop :=
  ∀ (l : LinkNo) (it : Item) (rest : List Item) (s : State),
    s.resetHeld = none → (s.link l).outList = it :: rest →
    let settled := fun x : State =>
      if (x.link l).state = .draining ∧ (x.link l).quiet = true then
        raise .linkStopped (.link l) (x.modLink l fun k => { k with state := .off, pacer := Pacer.idle })
      else x
    let releases := fun x : State => exec (.outboundRelease l) s = .next (settled x)
    let sent := fun (frame : Frame) (g : OutCounters → OutCounters) =>
      s.modLink l fun k =>
        { k with
          outList := rest
          campus := { k.campus with tx := .data frame }
          pacer := { k.pacer with credit := k.pacer.credit - ((it.length + 20) * 8 : Nat) }
          outCount :=
            { g k.outCount with campusBytes := count48 k.outCount.campusBytes it.length } }
    let goes := (s.link l).campus.up = true ∧ (s.link l).campus.tx = .idle ∧ 0 < (s.link l).pacer.credit
    (it.state ≠ .done → exec (.outboundRelease l) s = .next s) ∧
    (it.state = .done → goes →
      (∀ f, it.body = .pass f →
        releases (sent f fun c => { c with clearSent := count48 c.clearSent 1 })) ∧
      (∀ ref aad cipher tag, it.body = .protect ref aad cipher (some tag) →
        releases (outItemLeft ref.stream ref.slot
          (sent
            (aad ++ cipher ++ bytesOfBits 16 tag ++ bytesOfBits 4 (Config.fcs (aad ++ cipher ++ bytesOfBits 16 tag)))
            fun c => { c with protectedSent := count48 c.protectedSent 1 })))) ∧
    (it.state = .done → (s.link l).campus.up = true → ¬ goes → exec (.outboundRelease l) s = .next s) ∧
    (it.state = .done → (s.link l).campus.up = false →
      releases (itemLeft it (s.modLink l fun k =>
        { k with
          outList := rest, outCount := { k.outCount with faceDown := count48 k.outCount.faceDown 1 } }))) ∧
    (∀ i k (x : State),
      ((x.outSlot i k).state = .draining → (x.outSlot i k).inFlight = 1 →
        outItemLeft i k x =
          raise .slotFreed (.outStream i) (x.modOutSlot i k fun sl => OutSlot.empty sl.lastLoad)) ∧
      ((x.outSlot i k).state ≠ .draining ∨ 2 ≤ (x.outSlot i k).inFlight →
        outItemLeft i k x = x.modOutSlot i k fun sl => { sl with inFlight := sl.inFlight - 1 })) ∧
    (∀ x : State,
      (∀ f, it.body = .pass f → itemLeft it x = x) ∧
      (∀ ref aad cipher tag, it.body = .protect ref aad cipher tag →
        itemLeft it x = outItemLeft ref.stream ref.slot x))

/-- R101 and R116 to R120. -/
def Obligations.InboundReleases : Prop :=
  ∀ (l : LinkNo) (it : Item) (rest : List Item) (s : State),
    s.resetHeld = none → (s.link l).inList = it :: rest →
    let settled := fun x : State =>
      if (x.link l).state = .draining ∧ (x.link l).quiet = true then
        raise .linkStopped (.link l) (x.modLink l fun k => { k with state := .off, pacer := Pacer.idle })
      else x
    let releases := fun x : State => exec (.inboundRelease l) s = .next (settled x)
    let goes := (s.link l).rack.up = true ∧ (s.link l).rack.tx = .idle ∧ (s.link l).pauseOwed = false
    let taken := s.modLink l fun k => { k with inList := rest }
    let sent := fun (frame : Frame) (g : InCounters → InCounters) (x : State) =>
      x.modLink l fun k =>
        { k with
          rack := { k.rack with tx := .data frame }
          inCount := { g k.inCount with rackBytes := count48 k.inCount.rackBytes frame.length } }
    (it.state ≠ .done → exec (.inboundRelease l) s = .next s) ∧
    (it.state = .done → (s.link l).rack.up = true → ¬ goes → exec (.inboundRelease l) s = .next s) ∧
    (it.state = .done → (s.link l).rack.up = false →
      releases (itemLeft it (s.modLink l fun k =>
        { k with inList := rest, inCount := { k.inCount with faceDown := count48 k.inCount.faceDown 1 } }))) ∧
    (∀ f, it.state = .done → goes → it.body = .pass f →
      releases (sent f (fun c => { c with clearPassed := count48 c.clearPassed 1 }) taken)) ∧
    (∀ ref aad cipher tag result, it.state = .done → goes → it.body = .verify ref aad cipher tag (some result) →
      let i := ref.stream
      let st := s.inStream i
      let sl := s.inSlot i ref.slot
      let failed := taken.modIn i fun x =>
        { x with
          integrityFailures := count48 x.integrityFailures 1
          failures := if x.threshold = 0 then x.failures else if x.failures + 1 < x.threshold then x.failures + 1 else 0 }
      (result = none →
        releases (inItemLeft i ref.slot
          (if st.threshold ≠ 0 ∧ st.threshold ≤ st.failures + 1 then raise .integrityAlert (.inStream i) failed
           else failed))) ∧
      (∀ plain, result = some plain →
        (replayPasses sl st.window ref.fn = false →
          releases (inItemLeft i ref.slot
            (taken.modIn i fun x => { x with replayDiscards := count48 x.replayDiscards 1 }))) ∧
        (replayPasses sl st.window ref.fn = true →
          let bytes := aad.take (if ref.tagClear then 16 else 12) ++ plain
          let delivered := fun state : InSlotState =>
            sent (bytes ++ bytesOfBits 4 (Config.fcs bytes)) (fun c => { c with delivered := count48 c.delivered 1 })
              ((taken.modInSlot i ref.slot fun x =>
                { x.windowUpdated st.window ref.fn with state := state }).modIn i
                fun x => { x with delivered := count48 x.delivered 1 })
          let other := s.inSlot i (otherSlot ref.slot)
          (sl.state ≠ .ready → releases (inItemLeft i ref.slot (delivered sl.state))) ∧
          (sl.state = .ready → other.state ≠ .active → releases (inItemLeft i ref.slot (delivered .active))) ∧
          (sl.state = .ready → other.state = .active → st.grace ≠ 0 →
            releases (inItemLeft i ref.slot
              (raise .peerSwitched (.inStream i)
                ((delivered .active).modInSlot i (otherSlot ref.slot)
                  fun x => { x with state := .grace, grace := st.grace })))) ∧
          (sl.state = .ready → other.state = .active → st.grace = 0 →
            releases (inItemLeft i ref.slot
              (raise .peerSwitched (.inStream i) (leaveInSlot i (otherSlot ref.slot) (delivered .active)))))))) ∧
    (∀ i k (x : State),
      ((x.inSlot i k).state = .draining → (x.inSlot i k).inFlight = 1 →
        inItemLeft i k x = raise .slotFreed (.inStream i) (x.modInSlot i k fun sl => InSlot.empty sl.lastLoad)) ∧
      ((x.inSlot i k).state ≠ .draining ∨ 2 ≤ (x.inSlot i k).inFlight →
        inItemLeft i k x = x.modInSlot i k fun sl => { sl with inFlight := sl.inFlight - 1 })) ∧
    (∀ x : State,
      (∀ f, it.body = .pass f → itemLeft it x = x) ∧
      (∀ ref aad cipher tag result, it.body = .verify ref aad cipher tag result →
        itemLeft it x = inItemLeft ref.stream ref.slot x))

/-- The round trip of chapter 4. -/
def Obligations.EnvelopesOpenAsTheyWereSealed : Prop :=
  ∀ (f : Frame) (envelope streamId fn : Nat) (slot : SlotNo) (stream : StreamNo) (tagClear : Bool)
    (cipher : List Byte) (tag : BitVec 128),
    64 ≤ f.length → f.length ≤ 9700 → 0x0600 ≤ envelope → envelope < 2 ^ 16 → envelope ≠ 0x8100 → streamId < 2 ^ 16 →
    1 ≤ fn → fn ≤ Config.maxFn → (tagClear = true → frameTagged f = true) →
    let aad := sealAad f tagClear (envelopeHeader envelope slot tagClear streamId fn)
    let plain := sealPlain f tagClear
    let ref : KeyRef := { stream := stream, slot := slot, fn := fn, tagClear := tagClear }
    let sent := sentFrame (.protect ref aad cipher (some tag))
    cipher.length = plain.length →
      receivedGood sent = true ∧ sent.length = f.length + 28 ∧ plain.length = encryptedLength f.length tagClear ∧
      recognise envelope sent = some tagClear ∧
      parseHeader sent tagClear = .ok { streamId := streamId, phase := slot, fn := fn, tagClear := tagClear } ∧
      openAad sent tagClear = aad ∧ openCipher sent tagClear = cipher ∧ openTag sent = tag ∧
      rebuiltFrame ref aad plain = withFcs (f.take (f.length - 4)) ∧
      (receivedGood f = true → rebuiltFrame ref aad plain = f)

/-- R112 and R118, and the law of R117. -/
def Obligations.ReplayNeverRepeats : Prop :=
  ∀ (w : Nat) (sl : InSlot), w ≤ 64 →
    (∀ p, replayPasses sl w p = true ↔
      sl.lower ≤ p ∧ (sl.highest < p ∨ (sl.highest - p < w ∧ sl.bitmap.getLsbD (sl.highest - p) = false))) ∧
    (∀ p, sl.highest < p →
      ∃ m : BitVec 64,
        sl.windowUpdated w p = { sl with highest := p, bitmap := m } ∧
        ∀ b, m.getLsbD b = decide (b < w ∧
          (b = 0 ∨ (p - sl.highest ≤ b ∧ sl.bitmap.getLsbD (b - (p - sl.highest)) = true)))) ∧
    (∀ p, p ≤ sl.highest →
      ∃ m : BitVec 64,
        sl.windowUpdated w p = { sl with bitmap := m } ∧
        ∀ b, m.getLsbD b = (sl.bitmap.getLsbD b || decide (b < 64 ∧ b = sl.highest - p))) ∧
    (1 ≤ sl.lower → sl.highest = sl.lower - 1 → sl.bitmap = 0 →
      ∀ numbers : List Nat,
        (deliveries w sl numbers).Nodup ∧ ∀ p ∈ deliveries w sl numbers, sl.lower ≤ p)

/-- The ordered checks of R4, R6, R17, R24, R29, R30, R48, R68, R70, R129, R145, R132, R133 and R158 in RUNNING, and of
the requests ALARM admits as well: R8, R71, R147, R155, R163, R188, R192 and R193. -/
def Obligations.ChecksRefuseInTheirOrder : Prop :=
  ∀ (ps : List Byte) (e : Byte × Byte) (s : State),
    let refuses := fun (code : Byte) (mk : List Byte → Instr) (checks : List (Bool × Byte × Byte)) =>
      lengthFits code ps = true → firstRefusal checks = some e →
        exec (mk ps) s = .next (answersRefused code e.1 e.2 s)
    let b := byteAt ps
    let outbound := decide (b 0 = 0)
    let inbound := decide (b 0 = 1)
    let unused := fun i : StreamNo =>
      if outbound then decide ((s.outStream i).state = .unused) else !(s.inStream i).isOpen
    let slotIs := fun (o : OutSlotState) (n : InSlotState) =>
      if outbound then decide ((s.outSlot (streamAt ps 1) (slotAt ps 2)).state = o)
      else decide ((s.inSlot (streamAt ps 1) (slotAt ps 2)).state = n)
    let linkIs := fun x : LinkState => decide ((s.link (linkAt ps 0)).state = x)
    let listed := (ps.drop 11).take (b 10)
    let switches := decide (b 9 = 0)
    (s.reads →
      refuses 0x04 .readNotices [(decide (15 ≤ b 0), 0x04, 0x1C)] ∧
      refuses 0x05 .noticeSetup [(decide (128 ≤ b 0 ∨ 128 ≤ b 2), 0x04, 0x1C)] ∧
      refuses 0x06 .readCounters
        [(decide (6 ≤ b 0), 0x04, 0x04), (decide (1 ≤ b 0 ∧ b 0 ≤ 3 ∧ 4 ≤ b 1), 0x04, 0x01),
         (decide (4 ≤ b 0 ∧ 64 ≤ b 1), 0x04, 0x02)] ∧
      refuses 0x24 .readLink [(decide (4 ≤ b 0), 0x04, 0x01), (decide (2 ≤ b 1), 0x04, 0x04)] ∧
      refuses 0x32 .readRule [(decide (128 ≤ b 0), 0x04, 0x05)] ∧
      refuses 0x42 .readStream [(decide (2 ≤ b 0), 0x04, 0x04), (decide (64 ≤ b 1), 0x04, 0x02)] ∧
      refuses 0x51 .timeTrim [(decide (b 0 = 128), 0x04, 0x18)] ∧
      refuses 0x56 .readTrigger [(decide (8 ≤ b 0), 0x04, 0x14)]) ∧
    (s.serves →
      refuses 0x31 .ruleDrop [(decide (128 ≤ b 0), 0x04, 0x05)] ∧
      refuses 0x46 .kwkLoad [(s.kwk.isSome, 0x05, 0x0E)] ∧
      refuses 0x47 .kwkErase [(s.kwk.isNone, 0x05, 0x0D)] ∧
      refuses 0x40 .streamOpen
        [(decide (2 ≤ b 0), 0x04, 0x04), (decide (64 ≤ b 1), 0x04, 0x02), (decide (4 ≤ b 2), 0x04, 0x01),
         (inbound && decide (64 < b 5), 0x04, 0x0B), (inbound && decide (10000 < numAt ps 6 2), 0x04, 0x0C),
         (if outbound then
            decide (∃ j, j ≠ streamAt ps 1 ∧ (s.outStream j).state ≠ .unused ∧ (s.outStream j).link = linkAt ps 2 ∧
              (s.outStream j).streamId = numAt ps 3 2)
          else
            decide (∃ j, j ≠ streamAt ps 1 ∧ (s.inStream j).isOpen = true ∧ (s.inStream j).link = linkAt ps 2 ∧
              (s.inStream j).streamId = numAt ps 3 2), 0x04, 0x1B),
         (!unused (streamAt ps 1), 0x05, 0x07)] ∧
      refuses 0x41 .streamClose
        [(decide (2 ≤ b 0), 0x04, 0x04), (decide (64 ≤ b 1), 0x04, 0x02), (unused (streamAt ps 1), 0x05, 0x06),
         (outbound && decide (∃ r, (s.rules.get r).valid = true ∧ (s.rules.get r).action = .protect ∧
            (s.rules.get r).stream = streamAt ps 1), 0x05, 0x08),
         (outbound && decide (∃ j, streamAt ps 1 ∈ (s.triggers.get j).named.1 ∨
            (match s.triggers.get j with
              | .armed (.atNumber i _) _ => some i
              | _ => none) = some (streamAt ps 1)), 0x05, 0x09),
         (if outbound then
            decide (∃ k, 0 < (s.outSlot (streamAt ps 1) k).inFlight ∨
              (s.outSlot (streamAt ps 1) k).state = .loading ∨ (s.outSlot (streamAt ps 1) k).state = .draining)
          else
            decide (∃ k, 0 < (s.inSlot (streamAt ps 1) k).inFlight ∨
              (s.inSlot (streamAt ps 1) k).state = .loading ∨ (s.inSlot (streamAt ps 1) k).state = .draining),
          0x05, 0x0A)] ∧
      refuses 0x43 .keyLoad
        [(decide (2 ≤ b 0), 0x04, 0x04), (decide (64 ≤ b 1), 0x04, 0x02), (decide (2 ≤ b 2), 0x04, 0x03),
         (if outbound then
            !decide (1 ≤ numAt ps 71 6 ∧ numAt ps 71 6 ≤ numAt ps 77 6 ∧ numAt ps 77 6 ≤ numAt ps 83 6 ∧
              numAt ps 83 6 ≤ 2 ^ 48 - 1)
          else decide (numAt ps 71 6 = 0), 0x04, 0x09),
         (outbound && (decide (2 < b 89) ||
            (decide (b 89 ≠ 0) && decide (numAt ps 90 4 = 0 ∨ numAt ps 90 4 < numAt ps 94 4))), 0x04, 0x0A),
         (unused (streamAt ps 1), 0x05, 0x06), (!slotIs .empty .empty, 0x05, 0x0B), (s.kwk.isNone, 0x05, 0x0D),
         (decide (4 ≤ s.keyUnit.jobs.length), 0x06, 0x01)] ∧
      refuses 0x44 .keyRetire
        [(decide (2 ≤ b 0), 0x04, 0x04), (decide (64 ≤ b 1), 0x04, 0x02), (decide (2 ≤ b 2), 0x04, 0x03),
         (unused (streamAt ps 1), 0x05, 0x06), (slotIs .empty .empty || slotIs .draining .draining, 0x05, 0x0C)] ∧
      refuses 0x45 .keySwitch
        [(decide (b 0 ≠ 0), 0x04, 0x04), (decide (64 ≤ b 1), 0x04, 0x02),
         (decide ((s.outStream (streamAt ps 1)).state = .unused), 0x05, 0x06),
         (decide (∀ a, (s.outStream (streamAt ps 1)).state ≠ .active a), 0x05, 0x0F),
         (decide (∃ a, (s.outStream (streamAt ps 1)).state = .active a ∧
            ((s.outSlot (streamAt ps 1) (otherSlot a)).state = .empty ∨
              (s.outSlot (streamAt ps 1) (otherSlot a)).state = .draining)), 0x05, 0x10)] ∧
      refuses 0x30 .rulePut
        [(decide (128 ≤ b 0), 0x04, 0x05), (decide (b 1 = 0 ∨ 15 < b 1), 0x04, 0x07),
         (decide (11 < b 2 ∨ (b 2 / 4 = 2 ∧
            (12 < b 5 ∨ 4095 < numAt ps 3 2 ∨ numAt ps 3 2 % 2 ^ b 5 ≠ 0))), 0x04, 0x06),
         (decide (2 < b 6), 0x04, 0x08), (decide (b 6 = 0 ∧ 64 ≤ b 7), 0x04, 0x02),
         (decide (b 6 = 0 ∧ (s.outStream (streamAt ps 7)).state = .unused), 0x04, 0x08),
         (decide (b 6 = 0 ∧ b 1 ≠ 2 ^ (s.outStream (streamAt ps 7)).link.1), 0x04, 0x07)] ∧
      refuses 0x20 .linkSetup
        [(decide (4 ≤ b 0), 0x04, 0x01), (decide (1 < b 1 ∨ 1 < b 2), 0x04, 0x08),
         (decide (numAt ps 3 2 < 1550 ∨ 9728 < numAt ps 3 2), 0x04, 0x0F),
         (decide (numAt ps 5 2 = 0 ∨ 512 < numAt ps 5 2 ∨ numAt ps 5 2 ≤ numAt ps 7 2), 0x04, 0x0E),
         (decide (numAt ps 9 3 = 0 ∨ 100000 < numAt ps 9 3 ∨ numAt ps 12 3 < 77984 ∨ 16000000 < numAt ps 12 3),
          0x04, 0x0D),
         (decide (∃ st ∈ (s.link (linkAt ps 0)).ramp, numAt ps 9 3 < st.rate), 0x04, 0x11),
         (linkIs .live, 0x05, 0x03), (linkIs .draining, 0x05, 0x05)] ∧
      refuses 0x21 .rampSet
        ([(decide (4 ≤ b 0), 0x04, 0x01), (decide (16 < b 1), 0x04, 0x10)] ++
         ((List.range (b 1)).flatMap fun m =>
            [(decide (numAt ps (2 + 6 * m) 3 = 0 ∨ (s.link (linkAt ps 0)).settings.rate < numAt ps (2 + 6 * m) 3),
              0x04, 0x11),
             (decide (numAt ps (5 + 6 * m) 3 = 0 ∨ 1000000 < numAt ps (5 + 6 * m) 3), 0x04, 0x12)]) ++
         [(decide (10000000 < ((List.range (b 1)).map fun m => numAt ps (5 + 6 * m) 3).sum), 0x04, 0x13),
          (linkIs .live, 0x05, 0x03), (linkIs .draining, 0x05, 0x05), (!(s.link (linkAt ps 0)).setUp, 0x05, 0x04)]) ∧
      refuses 0x22 .linkStart
        [(decide (4 ≤ b 0), 0x04, 0x01), (linkIs .live, 0x05, 0x03), (linkIs .draining, 0x05, 0x05),
         (!(s.link (linkAt ps 0)).setUp, 0x05, 0x04)] ∧
      refuses 0x23 .linkStop [(decide (4 ≤ b 0), 0x04, 0x01), (decide (1 < b 1), 0x04, 0x08)] ∧
      refuses 0x53 .triggerArm
        [(decide (8 ≤ b 0), 0x04, 0x14), (decide (2 < b 1 ∨ 3 < b 9 ∨ (b 9 ≠ 0 ∧ b 10 ≠ 1)), 0x04, 0x15),
         (decide ((b 1 = 0 ∧ numAt ps 7 2 = 0) ∨ (b 1 = 1 ∧ numAt ps 5 4 ≤ s.time.seconds)), 0x04, 0x17),
         (decide (b 1 = 2 ∧ 64 ≤ b 2), 0x04, 0x02),
         (switches && decide (b 10 = 0 ∨ 8 < b 10 ∨ ¬ listed.Nodup), 0x04, 0x16),
         (switches && decide (∃ o ∈ listed, 64 ≤ o.toNat), 0x04, 0x02), (!switches && decide (4 ≤ b 11), 0x04, 0x01),
         (decide (s.triggers.get (triggerAt ps 0) ≠ .empty), 0x05, 0x12),
         (decide (b 1 = 1) && !s.time.valid, 0x05, 0x11),
         (decide ((b 1 = 2 ∧ (s.outStream (streamAt ps 2)).state = .unused) ∨
            (b 9 = 0 ∧ ∃ o ∈ listed, (s.outStream (Fin.ofNat 64 o.toNat)).state = .unused)), 0x05, 0x06),
         (decide (b 1 = 2 ∧ ¬ ∃ a, (s.outStream (streamAt ps 2)).state = .active a ∧
            (s.outSlot (streamAt ps 2) a).nextFn - 1 < numAt ps 3 6), 0x05, 0x15),
         (decide (∃ j, (b 9 = 0 ∧ ∃ o ∈ listed, Fin.ofNat 64 o.toNat ∈ (s.triggers.get j).named.1) ∨
            (b 9 ≠ 0 ∧ (s.triggers.get j).named.2 = some (linkAt ps 11))), 0x05, 0x09)])
end

