-- ==== Sys2Proof/Laws/Bytes.lean ====
section
/-! SUPPORT. Big-endian numbers as bytes: what is written reads back, at any place of a record. -/

namespace Sys2Proof.Machine

@[simp] theorem length_bytesOfNat (n v : Nat) : (bytesOfNat n v).length = n := by
  induction n with
  | zero => rfl
  | succ n ih => simp [bytesOfNat, ih]

/-- The number more bytes spell, from the number the first ones spell. -/
theorem natOfBytes_foldl (acc : Nat) (bs : List Byte) :
    bs.foldl (fun a b => a * 256 + b.toNat) acc = acc * 256 ^ bs.length + natOfBytes bs := by
  induction bs generalizing acc with
  | nil => simp [natOfBytes]
  | cons b bs ih =>
    simp only [List.foldl_cons, List.length_cons, natOfBytes]
    rw [ih, ih (0 * 256 + b.toNat)]
    ring

theorem natOfBytes_cons (b : Byte) (bs : List Byte) :
    natOfBytes (b :: bs) = b.toNat * 256 ^ bs.length + natOfBytes bs := by
  have := natOfBytes_foldl (0 * 256 + b.toNat) bs
  simpa [natOfBytes] using this

/-- A run of n bytes spells less than 256^n. -/
theorem natOfBytes_lt (bs : List Byte) : natOfBytes bs < 256 ^ bs.length := by
  induction bs with
  | nil => simp [natOfBytes]
  | cons b bs ih =>
    rw [natOfBytes_cons, List.length_cons, pow_succ]
    have hb : b.toNat < 256 := b.isLt
    nlinarith [Nat.one_le_pow bs.length 256 (by norm_num)]

/-- What is written in n bytes reads back modulo 256^n. -/
@[simp] theorem natOfBytes_bytesOfNat (n v : Nat) : natOfBytes (bytesOfNat n v) = v % 256 ^ n := by
  induction n with
  | zero => simp [bytesOfNat, natOfBytes, Nat.mod_one]
  | succ n ih =>
    rw [bytesOfNat, natOfBytes_cons, ih, length_bytesOfNat, BitVec.toNat_ofNat]
    have h : (256 : Nat) ^ (n + 1) = 256 ^ n * 256 := pow_succ 256 n
    rw [h, Nat.mod_mul, show (2 : Nat) ^ 8 = 256 from rfl]
    ring

/-- A number skips the bytes before it. -/
@[simp] theorem numAt_skip (xs ys : List Byte) (i n : Nat) : numAt (xs ++ ys) (xs.length + i) n = numAt ys i n := by
  have h : xs.drop (xs.length + i) = [] := by simp
  simp [numAt, List.drop_append, h]

/-- The number that stands at byte i, after i bytes. -/
theorem numAt_after (xs ys : List Byte) (i n v : Nat) (hi : xs.length = i) (hv : v < 256 ^ n) :
    numAt (xs ++ (bytesOfNat n v ++ ys)) i n = v := by
  subst hi
  simp [numAt, Nat.mod_eq_of_lt hv]

/-- The number at the front. -/
theorem numAt_front (ys : List Byte) (n v : Nat) (hv : v < 256 ^ n) : numAt (bytesOfNat n v ++ ys) 0 n = v := by
  simpa using numAt_after [] ys 0 n v rfl hv

/-- The number that is all there is. -/
theorem numAt_whole (n v : Nat) (hv : v < 256 ^ n) : numAt (bytesOfNat n v) 0 n = v := by
  simpa using numAt_front [] n v hv

/-- A number read from a record is below 256^n. -/
theorem numAt_lt (ps : List Byte) (i n : Nat) : numAt ps i n < 256 ^ n := by
  refine lt_of_lt_of_le (natOfBytes_lt _) (Nat.pow_le_pow_right (by norm_num) ?_)
  simp

/-- A byte is below 256. -/
theorem byteAt_lt (ps : List Byte) (i : Nat) : byteAt ps i < 256 := (ps.getD i 0).isLt

/-- A byte is a number of one byte. -/
theorem byteAt_eq_numAt (ps : List Byte) (i : Nat) : byteAt ps i = numAt ps i 1 := by
  unfold byteAt numAt
  rw [List.getD_eq_getElem?_getD, ← List.head?_drop]
  cases ps.drop i <;> simp [natOfBytes]

/-- The byte that stands at place i, after i bytes. -/
theorem byteAt_after (xs ys : List Byte) (i v : Nat) (hi : xs.length = i) (hv : v < 256) :
    byteAt (xs ++ (bytesOfNat 1 v ++ ys)) i = v := by
  rw [byteAt_eq_numAt]; exact numAt_after xs ys i 1 v hi (by omega)

/-- The byte at the front. -/
theorem byteAt_front (ys : List Byte) (v : Nat) (hv : v < 256) : byteAt (bytesOfNat 1 v ++ ys) 0 = v := by
  simpa using byteAt_after [] ys 0 v rfl hv

/-- The byte that is all there is. -/
theorem byteAt_whole (v : Nat) (hv : v < 256) : byteAt (bytesOfNat 1 v) 0 = v := by simpa using byteAt_front [] v hv

/-- A link number written reads back. -/
theorem linkAt_of_byteAt {ps : List Byte} {i : Nat} {l : LinkNo} (h : byteAt ps i = l.1) : linkAt ps i = l := by
  apply Fin.ext; simp [linkAt, Fin.ofNat, h, Nat.mod_eq_of_lt l.2]

/-- A stream number written reads back. -/
theorem streamAt_of_byteAt {ps : List Byte} {i : Nat} {j : StreamNo} (h : byteAt ps i = j.1) : streamAt ps i = j := by
  apply Fin.ext; simp [streamAt, Fin.ofNat, h, Nat.mod_eq_of_lt j.2]

/-- A slot number written reads back. -/
theorem slotAt_of_byteAt {ps : List Byte} {i : Nat} {k : SlotNo} (h : byteAt ps i = k.1) : slotAt ps i = k := by
  apply Fin.ext; simp [slotAt, Fin.ofNat, h, Nat.mod_eq_of_lt k.2]

/-- A trigger number written reads back. -/
theorem triggerAt_of_byteAt {ps : List Byte} {i : Nat} {j : TriggerNo} (h : byteAt ps i = j.1) :
    triggerAt ps i = j := by
  apply Fin.ext; simp [triggerAt, Fin.ofNat, h, Nat.mod_eq_of_lt j.2]

/-- A rule number written reads back. -/
theorem ruleAt_of_byteAt {ps : List Byte} {i : Nat} {r : RuleNo} (h : byteAt ps i = r.1) : ruleAt ps i = r := by
  apply Fin.ext; simp [ruleAt, Fin.ofNat, h, Nat.mod_eq_of_lt r.2]

/-- The check of a record built with its CHECK passes. -/
theorem checkPasses_recordCheck (head : Byte) (body : List Byte) : checkPasses head body (recordCheck head body) = true := by
  simp [checkPasses, recordCheck]

/-- The sum over a record as a number. -/
theorem recordSum_toNat (head : Byte) (body : List Byte) :
    (recordSum head body).toNat = (head.toNat + body.length + (body.map BitVec.toNat).sum) % 256 := by
  have h : ∀ (bs : List Byte) (acc : Byte),
      (bs.foldl (· + ·) acc).toNat = (acc.toNat + (bs.map BitVec.toNat).sum) % 256 := by
    intro bs
    induction bs with
    | nil => intro acc; simp [Nat.mod_eq_of_lt acc.isLt]
    | cons b bs ih => intro acc; rw [List.foldl_cons, ih, BitVec.toNat_add]; simp; omega
  rw [recordSum, h, BitVec.toNat_add, BitVec.toNat_ofNat]
  simp

/-- A record built with its CHECK sums to a multiple of 256. -/
theorem recordCheck_sum (head : Byte) (body : List Byte) :
    (head.toNat + body.length + (body.map BitVec.toNat).sum + (recordCheck head body).toNat) % 256 = 0 := by
  have h := recordSum_toNat head body
  have hc : (recordSum head body + recordCheck head body).toNat = 0 := by simp [recordCheck]
  rw [BitVec.toNat_add] at hc
  omega

/-- A record has 4 bytes more than its body. -/
@[simp] theorem length_recordBytes (head : Byte) (body : List Byte) :
    (recordBytes head body).length = recordLength body.length := by
  simp [recordBytes, recordLength]

end Sys2Proof.Machine
end

