-- ==== Sys2Proof/Laws/State.lean ====
section
/-! SUPPORT. One lemma for each field under each update of one record, so that no later proof unfolds an update; and what
each update writes. -/

namespace Sys2Proof.Machine

/-! ### State.modOut -/

@[simp] theorem State.modOut_pending (i : StreamNo) (f : OutStream → OutStream) (s : State) : (s.modOut i f).pending = s.pending := rfl
@[simp] theorem State.modOut_mode (i : StreamNo) (f : OutStream → OutStream) (s : State) : (s.modOut i f).mode = s.mode := rfl
@[simp] theorem State.modOut_resetHeld (i : StreamNo) (f : OutStream → OutStream) (s : State) : (s.modOut i f).resetHeld = s.resetHeld := rfl
@[simp] theorem State.modOut_resetCause (i : StreamNo) (f : OutStream → OutStream) (s : State) : (s.modOut i f).resetCause = s.resetCause := rfl
@[simp] theorem State.modOut_address (i : StreamNo) (f : OutStream → OutStream) (s : State) : (s.modOut i f).address = s.address := rfl
@[simp] theorem State.modOut_rateHigh (i : StreamNo) (f : OutStream → OutStream) (s : State) : (s.modOut i f).rateHigh = s.rateHigh := rfl
@[simp] theorem State.modOut_tamperAsserted (i : StreamNo) (f : OutStream → OutStream) (s : State) : (s.modOut i f).tamperAsserted = s.tamperAsserted := rfl
@[simp] theorem State.modOut_tamperMark (i : StreamNo) (f : OutStream → OutStream) (s : State) : (s.modOut i f).tamperMark = s.tamperMark := rfl
@[simp] theorem State.modOut_lanesEnabled (i : StreamNo) (f : OutStream → OutStream) (s : State) : (s.modOut i f).lanesEnabled = s.lanesEnabled := rfl
@[simp] theorem State.modOut_lanesFailed (i : StreamNo) (f : OutStream → OutStream) (s : State) : (s.modOut i f).lanesFailed = s.lanesFailed := rfl
@[simp] theorem State.modOut_kwk (i : StreamNo) (f : OutStream → OutStream) (s : State) : (s.modOut i f).kwk = s.kwk := rfl
@[simp] theorem State.modOut_retained (i : StreamNo) (f : OutStream → OutStream) (s : State) : (s.modOut i f).retained = s.retained := rfl
@[simp] theorem State.modOut_lanes (i : StreamNo) (f : OutStream → OutStream) (s : State) : (s.modOut i f).lanes = s.lanes := rfl
@[simp] theorem State.modOut_arbiter (i : StreamNo) (f : OutStream → OutStream) (s : State) : (s.modOut i f).arbiter = s.arbiter := rfl
@[simp] theorem State.modOut_envelopeType (i : StreamNo) (f : OutStream → OutStream) (s : State) : (s.modOut i f).envelopeType = s.envelopeType := rfl
@[simp] theorem State.modOut_ins (i : StreamNo) (f : OutStream → OutStream) (s : State) : (s.modOut i f).ins = s.ins := rfl
@[simp] theorem State.modOut_keyUnit (i : StreamNo) (f : OutStream → OutStream) (s : State) : (s.modOut i f).keyUnit = s.keyUnit := rfl
@[simp] theorem State.modOut_storeError (i : StreamNo) (f : OutStream → OutStream) (s : State) : (s.modOut i f).storeError = s.storeError := rfl
@[simp] theorem State.modOut_storeCorrections (i : StreamNo) (f : OutStream → OutStream) (s : State) : (s.modOut i f).storeCorrections = s.storeCorrections := rfl
@[simp] theorem State.modOut_storeDiscards (i : StreamNo) (f : OutStream → OutStream) (s : State) : (s.modOut i f).storeDiscards = s.storeDiscards := rfl
@[simp] theorem State.modOut_rules (i : StreamNo) (f : OutStream → OutStream) (s : State) : (s.modOut i f).rules = s.rules := rfl
@[simp] theorem State.modOut_links (i : StreamNo) (f : OutStream → OutStream) (s : State) : (s.modOut i f).links = s.links := rfl
@[simp] theorem State.modOut_linkChanges (i : StreamNo) (f : OutStream → OutStream) (s : State) : (s.modOut i f).linkChanges = s.linkChanges := rfl
@[simp] theorem State.modOut_linkChangeMask (i : StreamNo) (f : OutStream → OutStream) (s : State) : (s.modOut i f).linkChangeMask = s.linkChangeMask := rfl
@[simp] theorem State.modOut_time (i : StreamNo) (f : OutStream → OutStream) (s : State) : (s.modOut i f).time = s.time := rfl
@[simp] theorem State.modOut_triggers (i : StreamNo) (f : OutStream → OutStream) (s : State) : (s.modOut i f).triggers = s.triggers := rfl
@[simp] theorem State.modOut_notices (i : StreamNo) (f : OutStream → OutStream) (s : State) : (s.modOut i f).notices = s.notices := rfl
@[simp] theorem State.modOut_line (i : StreamNo) (f : OutStream → OutStream) (s : State) : (s.modOut i f).line = s.line := rfl
@[simp] theorem State.modOut_freeCount (i : StreamNo) (f : OutStream → OutStream) (s : State) : (s.modOut i f).freeCount = s.freeCount := rfl

/-! ### State.modIn -/

@[simp] theorem State.modIn_pending (i : StreamNo) (f : InStream → InStream) (s : State) : (s.modIn i f).pending = s.pending := rfl
@[simp] theorem State.modIn_mode (i : StreamNo) (f : InStream → InStream) (s : State) : (s.modIn i f).mode = s.mode := rfl
@[simp] theorem State.modIn_resetHeld (i : StreamNo) (f : InStream → InStream) (s : State) : (s.modIn i f).resetHeld = s.resetHeld := rfl
@[simp] theorem State.modIn_resetCause (i : StreamNo) (f : InStream → InStream) (s : State) : (s.modIn i f).resetCause = s.resetCause := rfl
@[simp] theorem State.modIn_address (i : StreamNo) (f : InStream → InStream) (s : State) : (s.modIn i f).address = s.address := rfl
@[simp] theorem State.modIn_rateHigh (i : StreamNo) (f : InStream → InStream) (s : State) : (s.modIn i f).rateHigh = s.rateHigh := rfl
@[simp] theorem State.modIn_tamperAsserted (i : StreamNo) (f : InStream → InStream) (s : State) : (s.modIn i f).tamperAsserted = s.tamperAsserted := rfl
@[simp] theorem State.modIn_tamperMark (i : StreamNo) (f : InStream → InStream) (s : State) : (s.modIn i f).tamperMark = s.tamperMark := rfl
@[simp] theorem State.modIn_lanesEnabled (i : StreamNo) (f : InStream → InStream) (s : State) : (s.modIn i f).lanesEnabled = s.lanesEnabled := rfl
@[simp] theorem State.modIn_lanesFailed (i : StreamNo) (f : InStream → InStream) (s : State) : (s.modIn i f).lanesFailed = s.lanesFailed := rfl
@[simp] theorem State.modIn_kwk (i : StreamNo) (f : InStream → InStream) (s : State) : (s.modIn i f).kwk = s.kwk := rfl
@[simp] theorem State.modIn_retained (i : StreamNo) (f : InStream → InStream) (s : State) : (s.modIn i f).retained = s.retained := rfl
@[simp] theorem State.modIn_lanes (i : StreamNo) (f : InStream → InStream) (s : State) : (s.modIn i f).lanes = s.lanes := rfl
@[simp] theorem State.modIn_arbiter (i : StreamNo) (f : InStream → InStream) (s : State) : (s.modIn i f).arbiter = s.arbiter := rfl
@[simp] theorem State.modIn_envelopeType (i : StreamNo) (f : InStream → InStream) (s : State) : (s.modIn i f).envelopeType = s.envelopeType := rfl
@[simp] theorem State.modIn_outs (i : StreamNo) (f : InStream → InStream) (s : State) : (s.modIn i f).outs = s.outs := rfl
@[simp] theorem State.modIn_keyUnit (i : StreamNo) (f : InStream → InStream) (s : State) : (s.modIn i f).keyUnit = s.keyUnit := rfl
@[simp] theorem State.modIn_storeError (i : StreamNo) (f : InStream → InStream) (s : State) : (s.modIn i f).storeError = s.storeError := rfl
@[simp] theorem State.modIn_storeCorrections (i : StreamNo) (f : InStream → InStream) (s : State) : (s.modIn i f).storeCorrections = s.storeCorrections := rfl
@[simp] theorem State.modIn_storeDiscards (i : StreamNo) (f : InStream → InStream) (s : State) : (s.modIn i f).storeDiscards = s.storeDiscards := rfl
@[simp] theorem State.modIn_rules (i : StreamNo) (f : InStream → InStream) (s : State) : (s.modIn i f).rules = s.rules := rfl
@[simp] theorem State.modIn_links (i : StreamNo) (f : InStream → InStream) (s : State) : (s.modIn i f).links = s.links := rfl
@[simp] theorem State.modIn_linkChanges (i : StreamNo) (f : InStream → InStream) (s : State) : (s.modIn i f).linkChanges = s.linkChanges := rfl
@[simp] theorem State.modIn_linkChangeMask (i : StreamNo) (f : InStream → InStream) (s : State) : (s.modIn i f).linkChangeMask = s.linkChangeMask := rfl
@[simp] theorem State.modIn_time (i : StreamNo) (f : InStream → InStream) (s : State) : (s.modIn i f).time = s.time := rfl
@[simp] theorem State.modIn_triggers (i : StreamNo) (f : InStream → InStream) (s : State) : (s.modIn i f).triggers = s.triggers := rfl
@[simp] theorem State.modIn_notices (i : StreamNo) (f : InStream → InStream) (s : State) : (s.modIn i f).notices = s.notices := rfl
@[simp] theorem State.modIn_line (i : StreamNo) (f : InStream → InStream) (s : State) : (s.modIn i f).line = s.line := rfl
@[simp] theorem State.modIn_freeCount (i : StreamNo) (f : InStream → InStream) (s : State) : (s.modIn i f).freeCount = s.freeCount := rfl

/-! ### State.modOutSlot -/

@[simp] theorem State.modOutSlot_pending (i : StreamNo) (k : SlotNo) (f : OutSlot → OutSlot) (s : State) : (s.modOutSlot i k f).pending = s.pending := rfl
@[simp] theorem State.modOutSlot_mode (i : StreamNo) (k : SlotNo) (f : OutSlot → OutSlot) (s : State) : (s.modOutSlot i k f).mode = s.mode := rfl
@[simp] theorem State.modOutSlot_resetHeld (i : StreamNo) (k : SlotNo) (f : OutSlot → OutSlot) (s : State) : (s.modOutSlot i k f).resetHeld = s.resetHeld := rfl
@[simp] theorem State.modOutSlot_resetCause (i : StreamNo) (k : SlotNo) (f : OutSlot → OutSlot) (s : State) : (s.modOutSlot i k f).resetCause = s.resetCause := rfl
@[simp] theorem State.modOutSlot_address (i : StreamNo) (k : SlotNo) (f : OutSlot → OutSlot) (s : State) : (s.modOutSlot i k f).address = s.address := rfl
@[simp] theorem State.modOutSlot_rateHigh (i : StreamNo) (k : SlotNo) (f : OutSlot → OutSlot) (s : State) : (s.modOutSlot i k f).rateHigh = s.rateHigh := rfl
@[simp] theorem State.modOutSlot_tamperAsserted (i : StreamNo) (k : SlotNo) (f : OutSlot → OutSlot) (s : State) : (s.modOutSlot i k f).tamperAsserted = s.tamperAsserted := rfl
@[simp] theorem State.modOutSlot_tamperMark (i : StreamNo) (k : SlotNo) (f : OutSlot → OutSlot) (s : State) : (s.modOutSlot i k f).tamperMark = s.tamperMark := rfl
@[simp] theorem State.modOutSlot_lanesEnabled (i : StreamNo) (k : SlotNo) (f : OutSlot → OutSlot) (s : State) : (s.modOutSlot i k f).lanesEnabled = s.lanesEnabled := rfl
@[simp] theorem State.modOutSlot_lanesFailed (i : StreamNo) (k : SlotNo) (f : OutSlot → OutSlot) (s : State) : (s.modOutSlot i k f).lanesFailed = s.lanesFailed := rfl
@[simp] theorem State.modOutSlot_kwk (i : StreamNo) (k : SlotNo) (f : OutSlot → OutSlot) (s : State) : (s.modOutSlot i k f).kwk = s.kwk := rfl
@[simp] theorem State.modOutSlot_retained (i : StreamNo) (k : SlotNo) (f : OutSlot → OutSlot) (s : State) : (s.modOutSlot i k f).retained = s.retained := rfl
@[simp] theorem State.modOutSlot_lanes (i : StreamNo) (k : SlotNo) (f : OutSlot → OutSlot) (s : State) : (s.modOutSlot i k f).lanes = s.lanes := rfl
@[simp] theorem State.modOutSlot_arbiter (i : StreamNo) (k : SlotNo) (f : OutSlot → OutSlot) (s : State) : (s.modOutSlot i k f).arbiter = s.arbiter := rfl
@[simp] theorem State.modOutSlot_envelopeType (i : StreamNo) (k : SlotNo) (f : OutSlot → OutSlot) (s : State) : (s.modOutSlot i k f).envelopeType = s.envelopeType := rfl
@[simp] theorem State.modOutSlot_ins (i : StreamNo) (k : SlotNo) (f : OutSlot → OutSlot) (s : State) : (s.modOutSlot i k f).ins = s.ins := rfl
@[simp] theorem State.modOutSlot_keyUnit (i : StreamNo) (k : SlotNo) (f : OutSlot → OutSlot) (s : State) : (s.modOutSlot i k f).keyUnit = s.keyUnit := rfl
@[simp] theorem State.modOutSlot_storeError (i : StreamNo) (k : SlotNo) (f : OutSlot → OutSlot) (s : State) : (s.modOutSlot i k f).storeError = s.storeError := rfl
@[simp] theorem State.modOutSlot_storeCorrections (i : StreamNo) (k : SlotNo) (f : OutSlot → OutSlot) (s : State) : (s.modOutSlot i k f).storeCorrections = s.storeCorrections := rfl
@[simp] theorem State.modOutSlot_storeDiscards (i : StreamNo) (k : SlotNo) (f : OutSlot → OutSlot) (s : State) : (s.modOutSlot i k f).storeDiscards = s.storeDiscards := rfl
@[simp] theorem State.modOutSlot_rules (i : StreamNo) (k : SlotNo) (f : OutSlot → OutSlot) (s : State) : (s.modOutSlot i k f).rules = s.rules := rfl
@[simp] theorem State.modOutSlot_links (i : StreamNo) (k : SlotNo) (f : OutSlot → OutSlot) (s : State) : (s.modOutSlot i k f).links = s.links := rfl
@[simp] theorem State.modOutSlot_linkChanges (i : StreamNo) (k : SlotNo) (f : OutSlot → OutSlot) (s : State) : (s.modOutSlot i k f).linkChanges = s.linkChanges := rfl
@[simp] theorem State.modOutSlot_linkChangeMask (i : StreamNo) (k : SlotNo) (f : OutSlot → OutSlot) (s : State) : (s.modOutSlot i k f).linkChangeMask = s.linkChangeMask := rfl
@[simp] theorem State.modOutSlot_time (i : StreamNo) (k : SlotNo) (f : OutSlot → OutSlot) (s : State) : (s.modOutSlot i k f).time = s.time := rfl
@[simp] theorem State.modOutSlot_triggers (i : StreamNo) (k : SlotNo) (f : OutSlot → OutSlot) (s : State) : (s.modOutSlot i k f).triggers = s.triggers := rfl
@[simp] theorem State.modOutSlot_notices (i : StreamNo) (k : SlotNo) (f : OutSlot → OutSlot) (s : State) : (s.modOutSlot i k f).notices = s.notices := rfl
@[simp] theorem State.modOutSlot_line (i : StreamNo) (k : SlotNo) (f : OutSlot → OutSlot) (s : State) : (s.modOutSlot i k f).line = s.line := rfl
@[simp] theorem State.modOutSlot_freeCount (i : StreamNo) (k : SlotNo) (f : OutSlot → OutSlot) (s : State) : (s.modOutSlot i k f).freeCount = s.freeCount := rfl

/-! ### State.modInSlot -/

@[simp] theorem State.modInSlot_pending (i : StreamNo) (k : SlotNo) (f : InSlot → InSlot) (s : State) : (s.modInSlot i k f).pending = s.pending := rfl
@[simp] theorem State.modInSlot_mode (i : StreamNo) (k : SlotNo) (f : InSlot → InSlot) (s : State) : (s.modInSlot i k f).mode = s.mode := rfl
@[simp] theorem State.modInSlot_resetHeld (i : StreamNo) (k : SlotNo) (f : InSlot → InSlot) (s : State) : (s.modInSlot i k f).resetHeld = s.resetHeld := rfl
@[simp] theorem State.modInSlot_resetCause (i : StreamNo) (k : SlotNo) (f : InSlot → InSlot) (s : State) : (s.modInSlot i k f).resetCause = s.resetCause := rfl
@[simp] theorem State.modInSlot_address (i : StreamNo) (k : SlotNo) (f : InSlot → InSlot) (s : State) : (s.modInSlot i k f).address = s.address := rfl
@[simp] theorem State.modInSlot_rateHigh (i : StreamNo) (k : SlotNo) (f : InSlot → InSlot) (s : State) : (s.modInSlot i k f).rateHigh = s.rateHigh := rfl
@[simp] theorem State.modInSlot_tamperAsserted (i : StreamNo) (k : SlotNo) (f : InSlot → InSlot) (s : State) : (s.modInSlot i k f).tamperAsserted = s.tamperAsserted := rfl
@[simp] theorem State.modInSlot_tamperMark (i : StreamNo) (k : SlotNo) (f : InSlot → InSlot) (s : State) : (s.modInSlot i k f).tamperMark = s.tamperMark := rfl
@[simp] theorem State.modInSlot_lanesEnabled (i : StreamNo) (k : SlotNo) (f : InSlot → InSlot) (s : State) : (s.modInSlot i k f).lanesEnabled = s.lanesEnabled := rfl
@[simp] theorem State.modInSlot_lanesFailed (i : StreamNo) (k : SlotNo) (f : InSlot → InSlot) (s : State) : (s.modInSlot i k f).lanesFailed = s.lanesFailed := rfl
@[simp] theorem State.modInSlot_kwk (i : StreamNo) (k : SlotNo) (f : InSlot → InSlot) (s : State) : (s.modInSlot i k f).kwk = s.kwk := rfl
@[simp] theorem State.modInSlot_retained (i : StreamNo) (k : SlotNo) (f : InSlot → InSlot) (s : State) : (s.modInSlot i k f).retained = s.retained := rfl
@[simp] theorem State.modInSlot_lanes (i : StreamNo) (k : SlotNo) (f : InSlot → InSlot) (s : State) : (s.modInSlot i k f).lanes = s.lanes := rfl
@[simp] theorem State.modInSlot_arbiter (i : StreamNo) (k : SlotNo) (f : InSlot → InSlot) (s : State) : (s.modInSlot i k f).arbiter = s.arbiter := rfl
@[simp] theorem State.modInSlot_envelopeType (i : StreamNo) (k : SlotNo) (f : InSlot → InSlot) (s : State) : (s.modInSlot i k f).envelopeType = s.envelopeType := rfl
@[simp] theorem State.modInSlot_outs (i : StreamNo) (k : SlotNo) (f : InSlot → InSlot) (s : State) : (s.modInSlot i k f).outs = s.outs := rfl
@[simp] theorem State.modInSlot_keyUnit (i : StreamNo) (k : SlotNo) (f : InSlot → InSlot) (s : State) : (s.modInSlot i k f).keyUnit = s.keyUnit := rfl
@[simp] theorem State.modInSlot_storeError (i : StreamNo) (k : SlotNo) (f : InSlot → InSlot) (s : State) : (s.modInSlot i k f).storeError = s.storeError := rfl
@[simp] theorem State.modInSlot_storeCorrections (i : StreamNo) (k : SlotNo) (f : InSlot → InSlot) (s : State) : (s.modInSlot i k f).storeCorrections = s.storeCorrections := rfl
@[simp] theorem State.modInSlot_storeDiscards (i : StreamNo) (k : SlotNo) (f : InSlot → InSlot) (s : State) : (s.modInSlot i k f).storeDiscards = s.storeDiscards := rfl
@[simp] theorem State.modInSlot_rules (i : StreamNo) (k : SlotNo) (f : InSlot → InSlot) (s : State) : (s.modInSlot i k f).rules = s.rules := rfl
@[simp] theorem State.modInSlot_links (i : StreamNo) (k : SlotNo) (f : InSlot → InSlot) (s : State) : (s.modInSlot i k f).links = s.links := rfl
@[simp] theorem State.modInSlot_linkChanges (i : StreamNo) (k : SlotNo) (f : InSlot → InSlot) (s : State) : (s.modInSlot i k f).linkChanges = s.linkChanges := rfl
@[simp] theorem State.modInSlot_linkChangeMask (i : StreamNo) (k : SlotNo) (f : InSlot → InSlot) (s : State) : (s.modInSlot i k f).linkChangeMask = s.linkChangeMask := rfl
@[simp] theorem State.modInSlot_time (i : StreamNo) (k : SlotNo) (f : InSlot → InSlot) (s : State) : (s.modInSlot i k f).time = s.time := rfl
@[simp] theorem State.modInSlot_triggers (i : StreamNo) (k : SlotNo) (f : InSlot → InSlot) (s : State) : (s.modInSlot i k f).triggers = s.triggers := rfl
@[simp] theorem State.modInSlot_notices (i : StreamNo) (k : SlotNo) (f : InSlot → InSlot) (s : State) : (s.modInSlot i k f).notices = s.notices := rfl
@[simp] theorem State.modInSlot_line (i : StreamNo) (k : SlotNo) (f : InSlot → InSlot) (s : State) : (s.modInSlot i k f).line = s.line := rfl
@[simp] theorem State.modInSlot_freeCount (i : StreamNo) (k : SlotNo) (f : InSlot → InSlot) (s : State) : (s.modInSlot i k f).freeCount = s.freeCount := rfl

/-! ### State.modLink -/

@[simp] theorem State.modLink_pending (l : LinkNo) (f : Link → Link) (s : State) : (s.modLink l f).pending = s.pending := rfl
@[simp] theorem State.modLink_mode (l : LinkNo) (f : Link → Link) (s : State) : (s.modLink l f).mode = s.mode := rfl
@[simp] theorem State.modLink_resetHeld (l : LinkNo) (f : Link → Link) (s : State) : (s.modLink l f).resetHeld = s.resetHeld := rfl
@[simp] theorem State.modLink_resetCause (l : LinkNo) (f : Link → Link) (s : State) : (s.modLink l f).resetCause = s.resetCause := rfl
@[simp] theorem State.modLink_address (l : LinkNo) (f : Link → Link) (s : State) : (s.modLink l f).address = s.address := rfl
@[simp] theorem State.modLink_rateHigh (l : LinkNo) (f : Link → Link) (s : State) : (s.modLink l f).rateHigh = s.rateHigh := rfl
@[simp] theorem State.modLink_tamperAsserted (l : LinkNo) (f : Link → Link) (s : State) : (s.modLink l f).tamperAsserted = s.tamperAsserted := rfl
@[simp] theorem State.modLink_tamperMark (l : LinkNo) (f : Link → Link) (s : State) : (s.modLink l f).tamperMark = s.tamperMark := rfl
@[simp] theorem State.modLink_lanesEnabled (l : LinkNo) (f : Link → Link) (s : State) : (s.modLink l f).lanesEnabled = s.lanesEnabled := rfl
@[simp] theorem State.modLink_lanesFailed (l : LinkNo) (f : Link → Link) (s : State) : (s.modLink l f).lanesFailed = s.lanesFailed := rfl
@[simp] theorem State.modLink_kwk (l : LinkNo) (f : Link → Link) (s : State) : (s.modLink l f).kwk = s.kwk := rfl
@[simp] theorem State.modLink_retained (l : LinkNo) (f : Link → Link) (s : State) : (s.modLink l f).retained = s.retained := rfl
@[simp] theorem State.modLink_lanes (l : LinkNo) (f : Link → Link) (s : State) : (s.modLink l f).lanes = s.lanes := rfl
@[simp] theorem State.modLink_arbiter (l : LinkNo) (f : Link → Link) (s : State) : (s.modLink l f).arbiter = s.arbiter := rfl
@[simp] theorem State.modLink_envelopeType (l : LinkNo) (f : Link → Link) (s : State) : (s.modLink l f).envelopeType = s.envelopeType := rfl
@[simp] theorem State.modLink_outs (l : LinkNo) (f : Link → Link) (s : State) : (s.modLink l f).outs = s.outs := rfl
@[simp] theorem State.modLink_ins (l : LinkNo) (f : Link → Link) (s : State) : (s.modLink l f).ins = s.ins := rfl
@[simp] theorem State.modLink_keyUnit (l : LinkNo) (f : Link → Link) (s : State) : (s.modLink l f).keyUnit = s.keyUnit := rfl
@[simp] theorem State.modLink_storeError (l : LinkNo) (f : Link → Link) (s : State) : (s.modLink l f).storeError = s.storeError := rfl
@[simp] theorem State.modLink_storeCorrections (l : LinkNo) (f : Link → Link) (s : State) : (s.modLink l f).storeCorrections = s.storeCorrections := rfl
@[simp] theorem State.modLink_storeDiscards (l : LinkNo) (f : Link → Link) (s : State) : (s.modLink l f).storeDiscards = s.storeDiscards := rfl
@[simp] theorem State.modLink_rules (l : LinkNo) (f : Link → Link) (s : State) : (s.modLink l f).rules = s.rules := rfl
@[simp] theorem State.modLink_linkChanges (l : LinkNo) (f : Link → Link) (s : State) : (s.modLink l f).linkChanges = s.linkChanges := rfl
@[simp] theorem State.modLink_linkChangeMask (l : LinkNo) (f : Link → Link) (s : State) : (s.modLink l f).linkChangeMask = s.linkChangeMask := rfl
@[simp] theorem State.modLink_time (l : LinkNo) (f : Link → Link) (s : State) : (s.modLink l f).time = s.time := rfl
@[simp] theorem State.modLink_triggers (l : LinkNo) (f : Link → Link) (s : State) : (s.modLink l f).triggers = s.triggers := rfl
@[simp] theorem State.modLink_notices (l : LinkNo) (f : Link → Link) (s : State) : (s.modLink l f).notices = s.notices := rfl
@[simp] theorem State.modLink_line (l : LinkNo) (f : Link → Link) (s : State) : (s.modLink l f).line = s.line := rfl
@[simp] theorem State.modLink_freeCount (l : LinkNo) (f : Link → Link) (s : State) : (s.modLink l f).freeCount = s.freeCount := rfl

/-! ### State.setLane -/

@[simp] theorem State.setLane_pending (n : LaneNo) (v : Lane) (s : State) : (s.setLane n v).pending = s.pending := rfl
@[simp] theorem State.setLane_mode (n : LaneNo) (v : Lane) (s : State) : (s.setLane n v).mode = s.mode := rfl
@[simp] theorem State.setLane_resetHeld (n : LaneNo) (v : Lane) (s : State) : (s.setLane n v).resetHeld = s.resetHeld := rfl
@[simp] theorem State.setLane_resetCause (n : LaneNo) (v : Lane) (s : State) : (s.setLane n v).resetCause = s.resetCause := rfl
@[simp] theorem State.setLane_address (n : LaneNo) (v : Lane) (s : State) : (s.setLane n v).address = s.address := rfl
@[simp] theorem State.setLane_rateHigh (n : LaneNo) (v : Lane) (s : State) : (s.setLane n v).rateHigh = s.rateHigh := rfl
@[simp] theorem State.setLane_tamperAsserted (n : LaneNo) (v : Lane) (s : State) : (s.setLane n v).tamperAsserted = s.tamperAsserted := rfl
@[simp] theorem State.setLane_tamperMark (n : LaneNo) (v : Lane) (s : State) : (s.setLane n v).tamperMark = s.tamperMark := rfl
@[simp] theorem State.setLane_lanesEnabled (n : LaneNo) (v : Lane) (s : State) : (s.setLane n v).lanesEnabled = s.lanesEnabled := rfl
@[simp] theorem State.setLane_lanesFailed (n : LaneNo) (v : Lane) (s : State) : (s.setLane n v).lanesFailed = s.lanesFailed := rfl
@[simp] theorem State.setLane_kwk (n : LaneNo) (v : Lane) (s : State) : (s.setLane n v).kwk = s.kwk := rfl
@[simp] theorem State.setLane_retained (n : LaneNo) (v : Lane) (s : State) : (s.setLane n v).retained = s.retained := rfl
@[simp] theorem State.setLane_arbiter (n : LaneNo) (v : Lane) (s : State) : (s.setLane n v).arbiter = s.arbiter := rfl
@[simp] theorem State.setLane_envelopeType (n : LaneNo) (v : Lane) (s : State) : (s.setLane n v).envelopeType = s.envelopeType := rfl
@[simp] theorem State.setLane_outs (n : LaneNo) (v : Lane) (s : State) : (s.setLane n v).outs = s.outs := rfl
@[simp] theorem State.setLane_ins (n : LaneNo) (v : Lane) (s : State) : (s.setLane n v).ins = s.ins := rfl
@[simp] theorem State.setLane_keyUnit (n : LaneNo) (v : Lane) (s : State) : (s.setLane n v).keyUnit = s.keyUnit := rfl
@[simp] theorem State.setLane_storeError (n : LaneNo) (v : Lane) (s : State) : (s.setLane n v).storeError = s.storeError := rfl
@[simp] theorem State.setLane_storeCorrections (n : LaneNo) (v : Lane) (s : State) : (s.setLane n v).storeCorrections = s.storeCorrections := rfl
@[simp] theorem State.setLane_storeDiscards (n : LaneNo) (v : Lane) (s : State) : (s.setLane n v).storeDiscards = s.storeDiscards := rfl
@[simp] theorem State.setLane_rules (n : LaneNo) (v : Lane) (s : State) : (s.setLane n v).rules = s.rules := rfl
@[simp] theorem State.setLane_links (n : LaneNo) (v : Lane) (s : State) : (s.setLane n v).links = s.links := rfl
@[simp] theorem State.setLane_linkChanges (n : LaneNo) (v : Lane) (s : State) : (s.setLane n v).linkChanges = s.linkChanges := rfl
@[simp] theorem State.setLane_linkChangeMask (n : LaneNo) (v : Lane) (s : State) : (s.setLane n v).linkChangeMask = s.linkChangeMask := rfl
@[simp] theorem State.setLane_time (n : LaneNo) (v : Lane) (s : State) : (s.setLane n v).time = s.time := rfl
@[simp] theorem State.setLane_triggers (n : LaneNo) (v : Lane) (s : State) : (s.setLane n v).triggers = s.triggers := rfl
@[simp] theorem State.setLane_notices (n : LaneNo) (v : Lane) (s : State) : (s.setLane n v).notices = s.notices := rfl
@[simp] theorem State.setLane_line (n : LaneNo) (v : Lane) (s : State) : (s.setLane n v).line = s.line := rfl
@[simp] theorem State.setLane_freeCount (n : LaneNo) (v : Lane) (s : State) : (s.setLane n v).freeCount = s.freeCount := rfl

/-! ### State.setTrigger -/

@[simp] theorem State.setTrigger_pending (j : TriggerNo) (v : TriggerSlot) (s : State) : (s.setTrigger j v).pending = s.pending := rfl
@[simp] theorem State.setTrigger_mode (j : TriggerNo) (v : TriggerSlot) (s : State) : (s.setTrigger j v).mode = s.mode := rfl
@[simp] theorem State.setTrigger_resetHeld (j : TriggerNo) (v : TriggerSlot) (s : State) : (s.setTrigger j v).resetHeld = s.resetHeld := rfl
@[simp] theorem State.setTrigger_resetCause (j : TriggerNo) (v : TriggerSlot) (s : State) : (s.setTrigger j v).resetCause = s.resetCause := rfl
@[simp] theorem State.setTrigger_address (j : TriggerNo) (v : TriggerSlot) (s : State) : (s.setTrigger j v).address = s.address := rfl
@[simp] theorem State.setTrigger_rateHigh (j : TriggerNo) (v : TriggerSlot) (s : State) : (s.setTrigger j v).rateHigh = s.rateHigh := rfl
@[simp] theorem State.setTrigger_tamperAsserted (j : TriggerNo) (v : TriggerSlot) (s : State) : (s.setTrigger j v).tamperAsserted = s.tamperAsserted := rfl
@[simp] theorem State.setTrigger_tamperMark (j : TriggerNo) (v : TriggerSlot) (s : State) : (s.setTrigger j v).tamperMark = s.tamperMark := rfl
@[simp] theorem State.setTrigger_lanesEnabled (j : TriggerNo) (v : TriggerSlot) (s : State) : (s.setTrigger j v).lanesEnabled = s.lanesEnabled := rfl
@[simp] theorem State.setTrigger_lanesFailed (j : TriggerNo) (v : TriggerSlot) (s : State) : (s.setTrigger j v).lanesFailed = s.lanesFailed := rfl
@[simp] theorem State.setTrigger_kwk (j : TriggerNo) (v : TriggerSlot) (s : State) : (s.setTrigger j v).kwk = s.kwk := rfl
@[simp] theorem State.setTrigger_retained (j : TriggerNo) (v : TriggerSlot) (s : State) : (s.setTrigger j v).retained = s.retained := rfl
@[simp] theorem State.setTrigger_lanes (j : TriggerNo) (v : TriggerSlot) (s : State) : (s.setTrigger j v).lanes = s.lanes := rfl
@[simp] theorem State.setTrigger_arbiter (j : TriggerNo) (v : TriggerSlot) (s : State) : (s.setTrigger j v).arbiter = s.arbiter := rfl
@[simp] theorem State.setTrigger_envelopeType (j : TriggerNo) (v : TriggerSlot) (s : State) : (s.setTrigger j v).envelopeType = s.envelopeType := rfl
@[simp] theorem State.setTrigger_outs (j : TriggerNo) (v : TriggerSlot) (s : State) : (s.setTrigger j v).outs = s.outs := rfl
@[simp] theorem State.setTrigger_ins (j : TriggerNo) (v : TriggerSlot) (s : State) : (s.setTrigger j v).ins = s.ins := rfl
@[simp] theorem State.setTrigger_keyUnit (j : TriggerNo) (v : TriggerSlot) (s : State) : (s.setTrigger j v).keyUnit = s.keyUnit := rfl
@[simp] theorem State.setTrigger_storeError (j : TriggerNo) (v : TriggerSlot) (s : State) : (s.setTrigger j v).storeError = s.storeError := rfl
@[simp] theorem State.setTrigger_storeCorrections (j : TriggerNo) (v : TriggerSlot) (s : State) : (s.setTrigger j v).storeCorrections = s.storeCorrections := rfl
@[simp] theorem State.setTrigger_storeDiscards (j : TriggerNo) (v : TriggerSlot) (s : State) : (s.setTrigger j v).storeDiscards = s.storeDiscards := rfl
@[simp] theorem State.setTrigger_rules (j : TriggerNo) (v : TriggerSlot) (s : State) : (s.setTrigger j v).rules = s.rules := rfl
@[simp] theorem State.setTrigger_links (j : TriggerNo) (v : TriggerSlot) (s : State) : (s.setTrigger j v).links = s.links := rfl
@[simp] theorem State.setTrigger_linkChanges (j : TriggerNo) (v : TriggerSlot) (s : State) : (s.setTrigger j v).linkChanges = s.linkChanges := rfl
@[simp] theorem State.setTrigger_linkChangeMask (j : TriggerNo) (v : TriggerSlot) (s : State) : (s.setTrigger j v).linkChangeMask = s.linkChangeMask := rfl
@[simp] theorem State.setTrigger_time (j : TriggerNo) (v : TriggerSlot) (s : State) : (s.setTrigger j v).time = s.time := rfl
@[simp] theorem State.setTrigger_notices (j : TriggerNo) (v : TriggerSlot) (s : State) : (s.setTrigger j v).notices = s.notices := rfl
@[simp] theorem State.setTrigger_line (j : TriggerNo) (v : TriggerSlot) (s : State) : (s.setTrigger j v).line = s.line := rfl
@[simp] theorem State.setTrigger_freeCount (j : TriggerNo) (v : TriggerSlot) (s : State) : (s.setTrigger j v).freeCount = s.freeCount := rfl

/-! ### State.modRule -/

@[simp] theorem State.modRule_pending (r : RuleNo) (f : Rule → Rule) (s : State) : (s.modRule r f).pending = s.pending := rfl
@[simp] theorem State.modRule_mode (r : RuleNo) (f : Rule → Rule) (s : State) : (s.modRule r f).mode = s.mode := rfl
@[simp] theorem State.modRule_resetHeld (r : RuleNo) (f : Rule → Rule) (s : State) : (s.modRule r f).resetHeld = s.resetHeld := rfl
@[simp] theorem State.modRule_resetCause (r : RuleNo) (f : Rule → Rule) (s : State) : (s.modRule r f).resetCause = s.resetCause := rfl
@[simp] theorem State.modRule_address (r : RuleNo) (f : Rule → Rule) (s : State) : (s.modRule r f).address = s.address := rfl
@[simp] theorem State.modRule_rateHigh (r : RuleNo) (f : Rule → Rule) (s : State) : (s.modRule r f).rateHigh = s.rateHigh := rfl
@[simp] theorem State.modRule_tamperAsserted (r : RuleNo) (f : Rule → Rule) (s : State) : (s.modRule r f).tamperAsserted = s.tamperAsserted := rfl
@[simp] theorem State.modRule_tamperMark (r : RuleNo) (f : Rule → Rule) (s : State) : (s.modRule r f).tamperMark = s.tamperMark := rfl
@[simp] theorem State.modRule_lanesEnabled (r : RuleNo) (f : Rule → Rule) (s : State) : (s.modRule r f).lanesEnabled = s.lanesEnabled := rfl
@[simp] theorem State.modRule_lanesFailed (r : RuleNo) (f : Rule → Rule) (s : State) : (s.modRule r f).lanesFailed = s.lanesFailed := rfl
@[simp] theorem State.modRule_kwk (r : RuleNo) (f : Rule → Rule) (s : State) : (s.modRule r f).kwk = s.kwk := rfl
@[simp] theorem State.modRule_retained (r : RuleNo) (f : Rule → Rule) (s : State) : (s.modRule r f).retained = s.retained := rfl
@[simp] theorem State.modRule_lanes (r : RuleNo) (f : Rule → Rule) (s : State) : (s.modRule r f).lanes = s.lanes := rfl
@[simp] theorem State.modRule_arbiter (r : RuleNo) (f : Rule → Rule) (s : State) : (s.modRule r f).arbiter = s.arbiter := rfl
@[simp] theorem State.modRule_envelopeType (r : RuleNo) (f : Rule → Rule) (s : State) : (s.modRule r f).envelopeType = s.envelopeType := rfl
@[simp] theorem State.modRule_outs (r : RuleNo) (f : Rule → Rule) (s : State) : (s.modRule r f).outs = s.outs := rfl
@[simp] theorem State.modRule_ins (r : RuleNo) (f : Rule → Rule) (s : State) : (s.modRule r f).ins = s.ins := rfl
@[simp] theorem State.modRule_keyUnit (r : RuleNo) (f : Rule → Rule) (s : State) : (s.modRule r f).keyUnit = s.keyUnit := rfl
@[simp] theorem State.modRule_storeError (r : RuleNo) (f : Rule → Rule) (s : State) : (s.modRule r f).storeError = s.storeError := rfl
@[simp] theorem State.modRule_storeCorrections (r : RuleNo) (f : Rule → Rule) (s : State) : (s.modRule r f).storeCorrections = s.storeCorrections := rfl
@[simp] theorem State.modRule_storeDiscards (r : RuleNo) (f : Rule → Rule) (s : State) : (s.modRule r f).storeDiscards = s.storeDiscards := rfl
@[simp] theorem State.modRule_links (r : RuleNo) (f : Rule → Rule) (s : State) : (s.modRule r f).links = s.links := rfl
@[simp] theorem State.modRule_linkChanges (r : RuleNo) (f : Rule → Rule) (s : State) : (s.modRule r f).linkChanges = s.linkChanges := rfl
@[simp] theorem State.modRule_linkChangeMask (r : RuleNo) (f : Rule → Rule) (s : State) : (s.modRule r f).linkChangeMask = s.linkChangeMask := rfl
@[simp] theorem State.modRule_time (r : RuleNo) (f : Rule → Rule) (s : State) : (s.modRule r f).time = s.time := rfl
@[simp] theorem State.modRule_triggers (r : RuleNo) (f : Rule → Rule) (s : State) : (s.modRule r f).triggers = s.triggers := rfl
@[simp] theorem State.modRule_notices (r : RuleNo) (f : Rule → Rule) (s : State) : (s.modRule r f).notices = s.notices := rfl
@[simp] theorem State.modRule_line (r : RuleNo) (f : Rule → Rule) (s : State) : (s.modRule r f).line = s.line := rfl
@[simp] theorem State.modRule_freeCount (r : RuleNo) (f : Rule → Rule) (s : State) : (s.modRule r f).freeCount = s.freeCount := rfl

/-! ### State.modLine -/

@[simp] theorem State.modLine_pending (f : Line → Line) (s : State) : (s.modLine f).pending = s.pending := rfl
@[simp] theorem State.modLine_mode (f : Line → Line) (s : State) : (s.modLine f).mode = s.mode := rfl
@[simp] theorem State.modLine_resetHeld (f : Line → Line) (s : State) : (s.modLine f).resetHeld = s.resetHeld := rfl
@[simp] theorem State.modLine_resetCause (f : Line → Line) (s : State) : (s.modLine f).resetCause = s.resetCause := rfl
@[simp] theorem State.modLine_address (f : Line → Line) (s : State) : (s.modLine f).address = s.address := rfl
@[simp] theorem State.modLine_rateHigh (f : Line → Line) (s : State) : (s.modLine f).rateHigh = s.rateHigh := rfl
@[simp] theorem State.modLine_tamperAsserted (f : Line → Line) (s : State) : (s.modLine f).tamperAsserted = s.tamperAsserted := rfl
@[simp] theorem State.modLine_tamperMark (f : Line → Line) (s : State) : (s.modLine f).tamperMark = s.tamperMark := rfl
@[simp] theorem State.modLine_lanesEnabled (f : Line → Line) (s : State) : (s.modLine f).lanesEnabled = s.lanesEnabled := rfl
@[simp] theorem State.modLine_lanesFailed (f : Line → Line) (s : State) : (s.modLine f).lanesFailed = s.lanesFailed := rfl
@[simp] theorem State.modLine_kwk (f : Line → Line) (s : State) : (s.modLine f).kwk = s.kwk := rfl
@[simp] theorem State.modLine_retained (f : Line → Line) (s : State) : (s.modLine f).retained = s.retained := rfl
@[simp] theorem State.modLine_lanes (f : Line → Line) (s : State) : (s.modLine f).lanes = s.lanes := rfl
@[simp] theorem State.modLine_arbiter (f : Line → Line) (s : State) : (s.modLine f).arbiter = s.arbiter := rfl
@[simp] theorem State.modLine_envelopeType (f : Line → Line) (s : State) : (s.modLine f).envelopeType = s.envelopeType := rfl
@[simp] theorem State.modLine_outs (f : Line → Line) (s : State) : (s.modLine f).outs = s.outs := rfl
@[simp] theorem State.modLine_ins (f : Line → Line) (s : State) : (s.modLine f).ins = s.ins := rfl
@[simp] theorem State.modLine_keyUnit (f : Line → Line) (s : State) : (s.modLine f).keyUnit = s.keyUnit := rfl
@[simp] theorem State.modLine_storeError (f : Line → Line) (s : State) : (s.modLine f).storeError = s.storeError := rfl
@[simp] theorem State.modLine_storeCorrections (f : Line → Line) (s : State) : (s.modLine f).storeCorrections = s.storeCorrections := rfl
@[simp] theorem State.modLine_storeDiscards (f : Line → Line) (s : State) : (s.modLine f).storeDiscards = s.storeDiscards := rfl
@[simp] theorem State.modLine_rules (f : Line → Line) (s : State) : (s.modLine f).rules = s.rules := rfl
@[simp] theorem State.modLine_links (f : Line → Line) (s : State) : (s.modLine f).links = s.links := rfl
@[simp] theorem State.modLine_linkChanges (f : Line → Line) (s : State) : (s.modLine f).linkChanges = s.linkChanges := rfl
@[simp] theorem State.modLine_linkChangeMask (f : Line → Line) (s : State) : (s.modLine f).linkChangeMask = s.linkChangeMask := rfl
@[simp] theorem State.modLine_time (f : Line → Line) (s : State) : (s.modLine f).time = s.time := rfl
@[simp] theorem State.modLine_triggers (f : Line → Line) (s : State) : (s.modLine f).triggers = s.triggers := rfl
@[simp] theorem State.modLine_notices (f : Line → Line) (s : State) : (s.modLine f).notices = s.notices := rfl
@[simp] theorem State.modLine_freeCount (f : Line → Line) (s : State) : (s.modLine f).freeCount = s.freeCount := rfl

/-! ### raise -/

@[simp] theorem raise_pending (k : NoticeKind) (m : NoticeMember) (s : State) : (raise k m s).pending = s.pending := rfl
@[simp] theorem raise_mode (k : NoticeKind) (m : NoticeMember) (s : State) : (raise k m s).mode = s.mode := rfl
@[simp] theorem raise_resetHeld (k : NoticeKind) (m : NoticeMember) (s : State) : (raise k m s).resetHeld = s.resetHeld := rfl
@[simp] theorem raise_resetCause (k : NoticeKind) (m : NoticeMember) (s : State) : (raise k m s).resetCause = s.resetCause := rfl
@[simp] theorem raise_address (k : NoticeKind) (m : NoticeMember) (s : State) : (raise k m s).address = s.address := rfl
@[simp] theorem raise_rateHigh (k : NoticeKind) (m : NoticeMember) (s : State) : (raise k m s).rateHigh = s.rateHigh := rfl
@[simp] theorem raise_tamperAsserted (k : NoticeKind) (m : NoticeMember) (s : State) : (raise k m s).tamperAsserted = s.tamperAsserted := rfl
@[simp] theorem raise_tamperMark (k : NoticeKind) (m : NoticeMember) (s : State) : (raise k m s).tamperMark = s.tamperMark := rfl
@[simp] theorem raise_lanesEnabled (k : NoticeKind) (m : NoticeMember) (s : State) : (raise k m s).lanesEnabled = s.lanesEnabled := rfl
@[simp] theorem raise_lanesFailed (k : NoticeKind) (m : NoticeMember) (s : State) : (raise k m s).lanesFailed = s.lanesFailed := rfl
@[simp] theorem raise_kwk (k : NoticeKind) (m : NoticeMember) (s : State) : (raise k m s).kwk = s.kwk := rfl
@[simp] theorem raise_retained (k : NoticeKind) (m : NoticeMember) (s : State) : (raise k m s).retained = s.retained := rfl
@[simp] theorem raise_lanes (k : NoticeKind) (m : NoticeMember) (s : State) : (raise k m s).lanes = s.lanes := rfl
@[simp] theorem raise_arbiter (k : NoticeKind) (m : NoticeMember) (s : State) : (raise k m s).arbiter = s.arbiter := rfl
@[simp] theorem raise_envelopeType (k : NoticeKind) (m : NoticeMember) (s : State) : (raise k m s).envelopeType = s.envelopeType := rfl
@[simp] theorem raise_outs (k : NoticeKind) (m : NoticeMember) (s : State) : (raise k m s).outs = s.outs := rfl
@[simp] theorem raise_ins (k : NoticeKind) (m : NoticeMember) (s : State) : (raise k m s).ins = s.ins := rfl
@[simp] theorem raise_keyUnit (k : NoticeKind) (m : NoticeMember) (s : State) : (raise k m s).keyUnit = s.keyUnit := rfl
@[simp] theorem raise_storeError (k : NoticeKind) (m : NoticeMember) (s : State) : (raise k m s).storeError = s.storeError := rfl
@[simp] theorem raise_storeCorrections (k : NoticeKind) (m : NoticeMember) (s : State) : (raise k m s).storeCorrections = s.storeCorrections := rfl
@[simp] theorem raise_storeDiscards (k : NoticeKind) (m : NoticeMember) (s : State) : (raise k m s).storeDiscards = s.storeDiscards := rfl
@[simp] theorem raise_rules (k : NoticeKind) (m : NoticeMember) (s : State) : (raise k m s).rules = s.rules := rfl
@[simp] theorem raise_links (k : NoticeKind) (m : NoticeMember) (s : State) : (raise k m s).links = s.links := rfl
@[simp] theorem raise_linkChanges (k : NoticeKind) (m : NoticeMember) (s : State) : (raise k m s).linkChanges = s.linkChanges := rfl
@[simp] theorem raise_linkChangeMask (k : NoticeKind) (m : NoticeMember) (s : State) : (raise k m s).linkChangeMask = s.linkChangeMask := rfl
@[simp] theorem raise_time (k : NoticeKind) (m : NoticeMember) (s : State) : (raise k m s).time = s.time := rfl
@[simp] theorem raise_triggers (k : NoticeKind) (m : NoticeMember) (s : State) : (raise k m s).triggers = s.triggers := rfl
@[simp] theorem raise_line (k : NoticeKind) (m : NoticeMember) (s : State) : (raise k m s).line = s.line := rfl
@[simp] theorem raise_freeCount (k : NoticeKind) (m : NoticeMember) (s : State) : (raise k m s).freeCount = s.freeCount := rfl

/-! ### resetCount -/

@[simp] theorem resetCount_pending (s : State) : (resetCount s).pending = s.pending := rfl
@[simp] theorem resetCount_mode (s : State) : (resetCount s).mode = s.mode := rfl
@[simp] theorem resetCount_resetHeld (s : State) : (resetCount s).resetHeld = s.resetHeld := rfl
@[simp] theorem resetCount_resetCause (s : State) : (resetCount s).resetCause = s.resetCause := rfl
@[simp] theorem resetCount_address (s : State) : (resetCount s).address = s.address := rfl
@[simp] theorem resetCount_rateHigh (s : State) : (resetCount s).rateHigh = s.rateHigh := rfl
@[simp] theorem resetCount_tamperAsserted (s : State) : (resetCount s).tamperAsserted = s.tamperAsserted := rfl
@[simp] theorem resetCount_tamperMark (s : State) : (resetCount s).tamperMark = s.tamperMark := rfl
@[simp] theorem resetCount_lanesEnabled (s : State) : (resetCount s).lanesEnabled = s.lanesEnabled := rfl
@[simp] theorem resetCount_lanesFailed (s : State) : (resetCount s).lanesFailed = s.lanesFailed := rfl
@[simp] theorem resetCount_kwk (s : State) : (resetCount s).kwk = s.kwk := rfl
@[simp] theorem resetCount_retained (s : State) : (resetCount s).retained = s.retained := rfl
@[simp] theorem resetCount_lanes (s : State) : (resetCount s).lanes = s.lanes := rfl
@[simp] theorem resetCount_envelopeType (s : State) : (resetCount s).envelopeType = s.envelopeType := rfl
@[simp] theorem resetCount_outs (s : State) : (resetCount s).outs = s.outs := rfl
@[simp] theorem resetCount_ins (s : State) : (resetCount s).ins = s.ins := rfl
@[simp] theorem resetCount_keyUnit (s : State) : (resetCount s).keyUnit = s.keyUnit := rfl
@[simp] theorem resetCount_storeError (s : State) : (resetCount s).storeError = s.storeError := rfl
@[simp] theorem resetCount_storeCorrections (s : State) : (resetCount s).storeCorrections = s.storeCorrections := rfl
@[simp] theorem resetCount_storeDiscards (s : State) : (resetCount s).storeDiscards = s.storeDiscards := rfl
@[simp] theorem resetCount_rules (s : State) : (resetCount s).rules = s.rules := rfl
@[simp] theorem resetCount_links (s : State) : (resetCount s).links = s.links := rfl
@[simp] theorem resetCount_linkChanges (s : State) : (resetCount s).linkChanges = s.linkChanges := rfl
@[simp] theorem resetCount_linkChangeMask (s : State) : (resetCount s).linkChangeMask = s.linkChangeMask := rfl
@[simp] theorem resetCount_time (s : State) : (resetCount s).time = s.time := rfl
@[simp] theorem resetCount_triggers (s : State) : (resetCount s).triggers = s.triggers := rfl
@[simp] theorem resetCount_notices (s : State) : (resetCount s).notices = s.notices := rfl
@[simp] theorem resetCount_line (s : State) : (resetCount s).line = s.line := rfl
@[simp] theorem resetCount_freeCount (s : State) : (resetCount s).freeCount = s.freeCount := rfl

/-! ### Readings that an update of another record leaves alone -/

@[simp] theorem State.modOut_inStream (i : StreamNo) (f : OutStream → OutStream) (s : State) (x : StreamNo) : (s.modOut i f).inStream x = s.inStream x := rfl
@[simp] theorem State.modOut_inSlot (i : StreamNo) (f : OutStream → OutStream) (s : State) (x : StreamNo) (y : SlotNo) : (s.modOut i f).inSlot x y = s.inSlot x y := rfl
@[simp] theorem State.modOut_link (i : StreamNo) (f : OutStream → OutStream) (s : State) (x : LinkNo) : (s.modOut i f).link x = s.link x := rfl
@[simp] theorem State.modIn_outStream (i : StreamNo) (f : InStream → InStream) (s : State) (x : StreamNo) : (s.modIn i f).outStream x = s.outStream x := rfl
@[simp] theorem State.modIn_outSlot (i : StreamNo) (f : InStream → InStream) (s : State) (x : StreamNo) (y : SlotNo) : (s.modIn i f).outSlot x y = s.outSlot x y := rfl
@[simp] theorem State.modIn_link (i : StreamNo) (f : InStream → InStream) (s : State) (x : LinkNo) : (s.modIn i f).link x = s.link x := rfl
@[simp] theorem State.modOutSlot_inStream (i : StreamNo) (k : SlotNo) (f : OutSlot → OutSlot) (s : State) (x : StreamNo) : (s.modOutSlot i k f).inStream x = s.inStream x := rfl
@[simp] theorem State.modOutSlot_inSlot (i : StreamNo) (k : SlotNo) (f : OutSlot → OutSlot) (s : State) (x : StreamNo) (y : SlotNo) : (s.modOutSlot i k f).inSlot x y = s.inSlot x y := rfl
@[simp] theorem State.modOutSlot_link (i : StreamNo) (k : SlotNo) (f : OutSlot → OutSlot) (s : State) (x : LinkNo) : (s.modOutSlot i k f).link x = s.link x := rfl
@[simp] theorem State.modInSlot_outStream (i : StreamNo) (k : SlotNo) (f : InSlot → InSlot) (s : State) (x : StreamNo) : (s.modInSlot i k f).outStream x = s.outStream x := rfl
@[simp] theorem State.modInSlot_outSlot (i : StreamNo) (k : SlotNo) (f : InSlot → InSlot) (s : State) (x : StreamNo) (y : SlotNo) : (s.modInSlot i k f).outSlot x y = s.outSlot x y := rfl
@[simp] theorem State.modInSlot_link (i : StreamNo) (k : SlotNo) (f : InSlot → InSlot) (s : State) (x : LinkNo) : (s.modInSlot i k f).link x = s.link x := rfl
@[simp] theorem State.modLink_outStream (l : LinkNo) (f : Link → Link) (s : State) (x : StreamNo) : (s.modLink l f).outStream x = s.outStream x := rfl
@[simp] theorem State.modLink_inStream (l : LinkNo) (f : Link → Link) (s : State) (x : StreamNo) : (s.modLink l f).inStream x = s.inStream x := rfl
@[simp] theorem State.modLink_outSlot (l : LinkNo) (f : Link → Link) (s : State) (x : StreamNo) (y : SlotNo) : (s.modLink l f).outSlot x y = s.outSlot x y := rfl
@[simp] theorem State.modLink_inSlot (l : LinkNo) (f : Link → Link) (s : State) (x : StreamNo) (y : SlotNo) : (s.modLink l f).inSlot x y = s.inSlot x y := rfl
@[simp] theorem State.setLane_outStream (n : LaneNo) (v : Lane) (s : State) (x : StreamNo) : (s.setLane n v).outStream x = s.outStream x := rfl
@[simp] theorem State.setLane_inStream (n : LaneNo) (v : Lane) (s : State) (x : StreamNo) : (s.setLane n v).inStream x = s.inStream x := rfl
@[simp] theorem State.setLane_outSlot (n : LaneNo) (v : Lane) (s : State) (x : StreamNo) (y : SlotNo) : (s.setLane n v).outSlot x y = s.outSlot x y := rfl
@[simp] theorem State.setLane_inSlot (n : LaneNo) (v : Lane) (s : State) (x : StreamNo) (y : SlotNo) : (s.setLane n v).inSlot x y = s.inSlot x y := rfl
@[simp] theorem State.setLane_link (n : LaneNo) (v : Lane) (s : State) (x : LinkNo) : (s.setLane n v).link x = s.link x := rfl
@[simp] theorem State.setTrigger_outStream (j : TriggerNo) (v : TriggerSlot) (s : State) (x : StreamNo) : (s.setTrigger j v).outStream x = s.outStream x := rfl
@[simp] theorem State.setTrigger_inStream (j : TriggerNo) (v : TriggerSlot) (s : State) (x : StreamNo) : (s.setTrigger j v).inStream x = s.inStream x := rfl
@[simp] theorem State.setTrigger_outSlot (j : TriggerNo) (v : TriggerSlot) (s : State) (x : StreamNo) (y : SlotNo) : (s.setTrigger j v).outSlot x y = s.outSlot x y := rfl
@[simp] theorem State.setTrigger_inSlot (j : TriggerNo) (v : TriggerSlot) (s : State) (x : StreamNo) (y : SlotNo) : (s.setTrigger j v).inSlot x y = s.inSlot x y := rfl
@[simp] theorem State.setTrigger_link (j : TriggerNo) (v : TriggerSlot) (s : State) (x : LinkNo) : (s.setTrigger j v).link x = s.link x := rfl
@[simp] theorem State.modRule_outStream (r : RuleNo) (f : Rule → Rule) (s : State) (x : StreamNo) : (s.modRule r f).outStream x = s.outStream x := rfl
@[simp] theorem State.modRule_inStream (r : RuleNo) (f : Rule → Rule) (s : State) (x : StreamNo) : (s.modRule r f).inStream x = s.inStream x := rfl
@[simp] theorem State.modRule_outSlot (r : RuleNo) (f : Rule → Rule) (s : State) (x : StreamNo) (y : SlotNo) : (s.modRule r f).outSlot x y = s.outSlot x y := rfl
@[simp] theorem State.modRule_inSlot (r : RuleNo) (f : Rule → Rule) (s : State) (x : StreamNo) (y : SlotNo) : (s.modRule r f).inSlot x y = s.inSlot x y := rfl
@[simp] theorem State.modRule_link (r : RuleNo) (f : Rule → Rule) (s : State) (x : LinkNo) : (s.modRule r f).link x = s.link x := rfl
@[simp] theorem State.modLine_outStream (f : Line → Line) (s : State) (x : StreamNo) : (s.modLine f).outStream x = s.outStream x := rfl
@[simp] theorem State.modLine_inStream (f : Line → Line) (s : State) (x : StreamNo) : (s.modLine f).inStream x = s.inStream x := rfl
@[simp] theorem State.modLine_outSlot (f : Line → Line) (s : State) (x : StreamNo) (y : SlotNo) : (s.modLine f).outSlot x y = s.outSlot x y := rfl
@[simp] theorem State.modLine_inSlot (f : Line → Line) (s : State) (x : StreamNo) (y : SlotNo) : (s.modLine f).inSlot x y = s.inSlot x y := rfl
@[simp] theorem State.modLine_link (f : Line → Line) (s : State) (x : LinkNo) : (s.modLine f).link x = s.link x := rfl
@[simp] theorem raise_outStream (k : NoticeKind) (m : NoticeMember) (s : State) (x : StreamNo) : (raise k m s).outStream x = s.outStream x := rfl
@[simp] theorem raise_inStream (k : NoticeKind) (m : NoticeMember) (s : State) (x : StreamNo) : (raise k m s).inStream x = s.inStream x := rfl
@[simp] theorem raise_outSlot (k : NoticeKind) (m : NoticeMember) (s : State) (x : StreamNo) (y : SlotNo) : (raise k m s).outSlot x y = s.outSlot x y := rfl
@[simp] theorem raise_inSlot (k : NoticeKind) (m : NoticeMember) (s : State) (x : StreamNo) (y : SlotNo) : (raise k m s).inSlot x y = s.inSlot x y := rfl
@[simp] theorem raise_link (k : NoticeKind) (m : NoticeMember) (s : State) (x : LinkNo) : (raise k m s).link x = s.link x := rfl
@[simp] theorem resetCount_outStream (s : State) (x : StreamNo) : (resetCount s).outStream x = s.outStream x := rfl
@[simp] theorem resetCount_inStream (s : State) (x : StreamNo) : (resetCount s).inStream x = s.inStream x := rfl
@[simp] theorem resetCount_outSlot (s : State) (x : StreamNo) (y : SlotNo) : (resetCount s).outSlot x y = s.outSlot x y := rfl
@[simp] theorem resetCount_inSlot (s : State) (x : StreamNo) (y : SlotNo) : (resetCount s).inSlot x y = s.inSlot x y := rfl
@[simp] theorem resetCount_link (s : State) (x : LinkNo) : (resetCount s).link x = s.link x := rfl

/-! ### What an update writes -/

@[simp] theorem State.modOut_outs (i : StreamNo) (f : OutStream → OutStream) (s : State) :
    (s.modOut i f).outs = putAt s.outs i (f (s.outStream i)) := rfl
@[simp] theorem State.modIn_ins (i : StreamNo) (f : InStream → InStream) (s : State) :
    (s.modIn i f).ins = putAt s.ins i (f (s.inStream i)) := rfl
@[simp] theorem State.modLink_links (l : LinkNo) (f : Link → Link) (s : State) :
    (s.modLink l f).links = putAt s.links l (f (s.link l)) := rfl
@[simp] theorem State.setLane_lanes (n : LaneNo) (v : Lane) (s : State) :
    (s.setLane n v).lanes = putAt s.lanes n v := rfl
@[simp] theorem State.setTrigger_triggers (j : TriggerNo) (v : TriggerSlot) (s : State) :
    (s.setTrigger j v).triggers = putAt s.triggers j v := rfl
@[simp] theorem State.modRule_rules (r : RuleNo) (f : Rule → Rule) (s : State) :
    (s.modRule r f).rules = putAt s.rules r (f (s.rules.get r)) := rfl
@[simp] theorem State.modLine_line (f : Line → Line) (s : State) : (s.modLine f).line = f s.line := rfl
@[simp] theorem raise_notices (k : NoticeKind) (m : NoticeMember) (s : State) :
    (raise k m s).notices = putAt s.notices k.number ((s.notices.get k.number).raised m) := rfl
@[simp] theorem resetCount_arbiter (s : State) : (resetCount s).arbiter = { s.arbiter with count := 0 } := rfl

/-- A link update as a record update. -/
theorem State.modLink_eq (l : LinkNo) (f : Link → Link) (s : State) :
    s.modLink l f = { s with links := putAt s.links l (f (s.link l)) } := rfl

end Sys2Proof.Machine
end

