-- ==== Sys2Proof/Laws/Frames.lean ====
section
/-! SUPPORT. What each shared operation can touch: its result is the state it was given with only the fields named
replaced, so every other field is read through it by `obtain` and `rw`. -/

namespace Sys2Proof.Machine

/-! ### Streams and slots -/

theorem leaveOutSlot_touches (i : StreamNo) (k : SlotNo) (s : State) :
    ∃ o n, leaveOutSlot i k s = { s with outs := o, notices := n } := by
  unfold leaveOutSlot; dsimp only; split
  · exact ⟨_, _, rfl⟩
  · exact ⟨_, s.notices, rfl⟩

theorem leaveInSlot_touches (i : StreamNo) (k : SlotNo) (s : State) :
    ∃ o n, leaveInSlot i k s = { s with ins := o, notices := n } := by
  unfold leaveInSlot; dsimp only; split
  · exact ⟨_, _, rfl⟩
  · exact ⟨_, s.notices, rfl⟩

theorem switchStream_touches (i : StreamNo) (a : SlotNo) (s : State) :
    ∃ o n, switchStream i a s = { s with outs := o, notices := n } := by
  unfold switchStream; dsimp only
  obtain ⟨o, n, h⟩ := leaveOutSlot_touches i a
    ((s.modOutSlot i (otherSlot a) fun sl => { sl with state := .active }).modOut i fun st =>
      { st with state := .active (otherSlot a), pendingSwitch := none })
  rw [h]
  exact ⟨_, _, rfl⟩

theorem leaveActive_touches (i : StreamNo) (a : SlotNo) (s : State) :
    ∃ o n, leaveActive i a s = { s with outs := o, notices := n } := by
  unfold leaveActive; split
  · exact switchStream_touches i a s
  · obtain ⟨o, n, h⟩ := leaveOutSlot_touches i a s
    rw [h]
    exact ⟨_, _, rfl⟩

theorem requestSwitch_touches (i : StreamNo) (a : SlotNo) (s : State) :
    ∃ o n, requestSwitch i a s = { s with outs := o, notices := n } := by
  unfold requestSwitch; split
  · exact switchStream_touches i a s
  · exact ⟨_, s.notices, rfl⟩
  · exact ⟨s.outs, s.notices, rfl⟩

theorem outSlotReady_touches (i : StreamNo) (k : SlotNo) (s : State) :
    ∃ o n, outSlotReady i k s = { s with outs := o, notices := n } := by
  unfold outSlotReady; split
  · exact ⟨_, s.notices, rfl⟩
  · exact ⟨_, s.notices, rfl⟩
  · split
    · exact switchStream_touches i _ s
    · exact ⟨s.outs, s.notices, rfl⟩
  · exact ⟨s.outs, s.notices, rfl⟩

theorem outItemLeft_touches (i : StreamNo) (k : SlotNo) (s : State) :
    ∃ o n, outItemLeft i k s = { s with outs := o, notices := n } := by
  unfold outItemLeft; dsimp only; split
  · exact ⟨_, _, rfl⟩
  · exact ⟨_, s.notices, rfl⟩

theorem inItemLeft_touches (i : StreamNo) (k : SlotNo) (s : State) :
    ∃ o n, inItemLeft i k s = { s with ins := o, notices := n } := by
  unfold inItemLeft; dsimp only; split
  · exact ⟨_, _, rfl⟩
  · exact ⟨_, s.notices, rfl⟩

theorem itemLeft_touches (it : Item) (s : State) :
    ∃ o i n, itemLeft it s = { s with outs := o, ins := i, notices := n } := by
  unfold itemLeft; split
  · exact ⟨s.outs, s.ins, s.notices, rfl⟩
  · obtain ⟨o, n, h⟩ := outItemLeft_touches _ _ s
    exact ⟨o, s.ins, n, by rw [h]⟩
  · obtain ⟨i, n, h⟩ := inItemLeft_touches _ _ s
    exact ⟨s.outs, i, n, by rw [h]⟩

theorem outStoreError_touches (i : StreamNo) (a : SlotNo) (s : State) :
    ∃ o n d e, outStoreError i a s = { s with outs := o, notices := n, storeDiscards := d, storeError := e } := by
  unfold outStoreError noteStoreError
  obtain ⟨o, n, h⟩ := leaveActive_touches i a (s.modOutSlot i a fun sl => { sl with lastLoad := .storeError })
  rw [h]
  exact ⟨_, _, _, _, rfl⟩

theorem inStoreError_touches (i : StreamNo) (k : SlotNo) (s : State) :
    ∃ o n d e, inStoreError i k s = { s with ins := o, notices := n, storeDiscards := d, storeError := e } := by
  unfold inStoreError noteStoreError
  obtain ⟨o, n, h⟩ := leaveInSlot_touches i k (s.modInSlot i k fun sl => { sl with lastLoad := .storeError })
  rw [h]
  exact ⟨_, _, _, _, rfl⟩

theorem noteCorrection_touches (read : KeyRead) (s : State) :
    ∃ c, noteCorrection read s = { s with storeCorrections := c } := by
  unfold noteCorrection; split
  · exact ⟨_, rfl⟩
  · exact ⟨s.storeCorrections, rfl⟩

/-! ### Links -/

theorem drainCheck_touches (l : LinkNo) (s : State) :
    ∃ k n, drainCheck l s = { s with links := k, notices := n } := by
  unfold drainCheck; split
  · exact ⟨_, _, rfl⟩
  · exact ⟨s.links, s.notices, rfl⟩

theorem drainLink_touches (l : LinkNo) (c : StopCause) (s : State) :
    ∃ k n, drainLink l c s = { s with links := k, notices := n } := by
  unfold drainLink; split
  · obtain ⟨k, n, h⟩ := drainCheck_touches l (s.modLink l fun k => { k with state := .draining, stopCause := c })
    rw [h]
    exact ⟨_, _, rfl⟩
  · exact ⟨s.links, s.notices, rfl⟩

theorem cancelItem_touches (it : Item) (s : State) :
    ∃ ls o i n, cancelItem it s = { s with lanes := ls, outs := o, ins := i, notices := n } := by
  unfold cancelItem freeItemLane
  split
  · obtain ⟨o, i, n, h⟩ := itemLeft_touches it (s.setLane _ .free)
    exact ⟨_, o, i, n, by rw [h]; rfl⟩
  · obtain ⟨o, i, n, h⟩ := itemLeft_touches it s
    exact ⟨s.lanes, o, i, n, by rw [h]⟩

theorem cancelItems_touches (items : List Item) (s : State) :
    ∃ ls o i n, items.foldl (fun s it => cancelItem it s) s = { s with lanes := ls, outs := o, ins := i, notices := n } := by
  induction items generalizing s with
  | nil => exact ⟨s.lanes, s.outs, s.ins, s.notices, rfl⟩
  | cons it items ih =>
    obtain ⟨ls, o, i, n, h⟩ := cancelItem_touches it s
    obtain ⟨ls', o', i', n', h'⟩ := ih (cancelItem it s)
    exact ⟨ls', o', i', n', by rw [List.foldl_cons, h', h]⟩

theorem stopLinkNow_touches (l : LinkNo) (c : StopCause) (s : State) :
    ∃ k ls o i n, stopLinkNow l c s = { s with links := k, lanes := ls, outs := o, ins := i, notices := n } := by
  unfold stopLinkNow; dsimp only; split
  · exact ⟨s.links, s.lanes, s.outs, s.ins, s.notices, rfl⟩
  · obtain ⟨ls, o, i, n, h⟩ := cancelItems_touches ((s.link l).outList ++ (s.link l).inList) s
    rw [h]
    exact ⟨_, _, _, _, _, rfl⟩

/-! ### Triggers -/

theorem switchListed_touches (s : State) (i : StreamNo) :
    ∃ o n, switchListed s i = { s with outs := o, notices := n } := by
  unfold switchListed; split
  · exact requestSwitch_touches i _ s
  · exact ⟨s.outs, s.notices, rfl⟩

theorem switchAll_touches (is : List StreamNo) (s : State) :
    ∃ o n, is.foldl switchListed s = { s with outs := o, notices := n } := by
  induction is generalizing s with
  | nil => exact ⟨s.outs, s.notices, rfl⟩
  | cons i is ih =>
    obtain ⟨o, n, h⟩ := switchListed_touches s i
    obtain ⟨o', n', h'⟩ := ih (switchListed s i)
    exact ⟨o', n', by rw [List.foldl_cons, h', h]⟩

theorem doAction_touches (s : State) (a : TriggerAction) :
    ∃ k ls o i n, doAction s a = { s with links := k, lanes := ls, outs := o, ins := i, notices := n } := by
  unfold doAction; split
  · obtain ⟨o, n, h⟩ := switchAll_touches _ s
    exact ⟨s.links, s.lanes, o, s.ins, n, by rw [h]⟩
  · exact ⟨_, s.lanes, s.outs, s.ins, s.notices, rfl⟩
  · obtain ⟨k, n, h⟩ := drainLink_touches _ .triggerDrain s
    exact ⟨k, s.lanes, s.outs, s.ins, n, by rw [h]⟩
  · exact stopLinkNow_touches _ .triggerNow s

theorem fireTrigger_touches (j : TriggerNo) (c : TriggerCond) (a : TriggerAction) (s : State) :
    ∃ k ls o i n t, fireTrigger j c a s =
      { s with links := k, lanes := ls, outs := o, ins := i, notices := n, triggers := t } := by
  unfold fireTrigger; split
  · exact ⟨s.links, s.lanes, s.outs, s.ins, _, _, rfl⟩
  · obtain ⟨k, ls, o, i, n, h⟩ := doAction_touches (s.setTrigger j .empty) a
    rw [h]
    exact ⟨_, _, _, _, _, _, rfl⟩

theorem triggerEvent_touches (e : FireEvent) (s : State) (j : TriggerNo) :
    ∃ k ls o i n t, triggerEvent e s j =
      { s with links := k, lanes := ls, outs := o, ins := i, notices := n, triggers := t } := by
  unfold triggerEvent; split
  · split
    · exact fireTrigger_touches j _ _ s
    · exact ⟨s.links, s.lanes, s.outs, s.ins, s.notices, _, rfl⟩
  · exact ⟨s.links, s.lanes, s.outs, s.ins, s.notices, s.triggers, rfl⟩

theorem triggersEvent_touches (e : FireEvent) (s : State) :
    ∃ k ls o i n t, triggersEvent e s =
      { s with links := k, lanes := ls, outs := o, ins := i, notices := n, triggers := t } := by
  unfold triggersEvent
  generalize List.finRange 8 = js
  induction js generalizing s with
  | nil => exact ⟨s.links, s.lanes, s.outs, s.ins, s.notices, s.triggers, rfl⟩
  | cons j js ih =>
    obtain ⟨k, ls, o, i, n, t, h⟩ := triggerEvent_touches e s j
    obtain ⟨k', ls', o', i', n', t', h'⟩ := ih (triggerEvent e s j)
    exact ⟨k', ls', o', i', n', t', by rw [List.foldl_cons, h', h]⟩

/-! ### Time -/

theorem graceTick_touches (i : StreamNo) (k : SlotNo) (s : State) :
    ∃ o n, graceTick i k s = { s with ins := o, notices := n } := by
  unfold graceTick; dsimp only; split
  · split
    · exact leaveInSlot_touches i k s
    · exact ⟨_, s.notices, rfl⟩
  · exact ⟨s.ins, s.notices, rfl⟩

theorem milliEvent_touches (s : State) : ∃ o n, milliEvent s = { s with ins := o, notices := n } := by
  unfold milliEvent
  generalize List.finRange 64 = is
  induction is generalizing s with
  | nil => exact ⟨s.ins, s.notices, rfl⟩
  | cons i is ih =>
    obtain ⟨o, n, h⟩ := graceTick_touches i 0 s
    obtain ⟨o', n', h'⟩ := graceTick_touches i 1 (graceTick i 0 s)
    obtain ⟨o'', n'', h''⟩ := ih (graceTick i 1 (graceTick i 0 s))
    exact ⟨o'', n'', by rw [List.foldl_cons, h'', h', h]⟩

theorem secondAtSlot_touches (i : StreamNo) (a : SlotNo) (s : State) :
    ∃ o n, secondAtSlot i a s = { s with outs := o, notices := n } := by
  unfold secondAtSlot; dsimp only
  split <;> split
  · obtain ⟨o, n, h⟩ := leaveActive_touches i a
      (raiseRekeyDue i a (s.modOutSlot i a fun sl => { sl with accrued := sl.accrued + 1 }))
    exact ⟨o, n, by rw [h]; rfl⟩
  · exact ⟨_, _, rfl⟩
  · obtain ⟨o, n, h⟩ := leaveActive_touches i a (s.modOutSlot i a fun sl => { sl with accrued := sl.accrued + 1 })
    exact ⟨o, n, by rw [h]; rfl⟩
  · exact ⟨_, s.notices, rfl⟩

theorem lifetimeTick_touches (i : StreamNo) (s : State) :
    ∃ o n, lifetimeTick i s = { s with outs := o, notices := n } := by
  unfold lifetimeTick; split
  · split
    · exact secondAtSlot_touches i _ s
    · exact ⟨s.outs, s.notices, rfl⟩
  · exact ⟨s.outs, s.notices, rfl⟩

theorem lifetimesEvent_touches (s : State) : ∃ o n, lifetimesEvent s = { s with outs := o, notices := n } := by
  unfold lifetimesEvent
  generalize List.finRange 64 = is
  induction is generalizing s with
  | nil => exact ⟨s.outs, s.notices, rfl⟩
  | cons i is ih =>
    obtain ⟨o, n, h⟩ := lifetimeTick_touches i s
    obtain ⟨o', n', h'⟩ := ih (lifetimeTick i s)
    exact ⟨o', n', by rw [List.foldl_cons, h', h]⟩

theorem secondEvent_touches (s : State) :
    ∃ k ls o i n t, secondEvent s =
      { s with links := k, lanes := ls, outs := o, ins := i, notices := n, triggers := t } := by
  unfold secondEvent
  obtain ⟨o, n, h⟩ := lifetimesEvent_touches s
  obtain ⟨k', ls', o', i', n', t', h'⟩ := triggersEvent_touches (.secondEvent s.time.seconds) (lifetimesEvent s)
  rw [h', h]
  exact ⟨_, _, _, _, _, _, rfl⟩

/-- A microsecond event writes the count as `TimeBase.micro` says, and beside it only links, lanes, streams, notices and
triggers. -/
theorem microEvent_touches (s : State) :
    ∃ k ls o i n t, microEvent s =
      { s with time := s.time.micro, links := k, lanes := ls, outs := o, ins := i, notices := n, triggers := t } := by
  unfold microEvent; dsimp only
  have hm : ∀ x : State, ∃ i n, (if s.time.micro.micros % 1000 = 0 then milliEvent x else x) =
      { x with ins := i, notices := n } := by
    intro x; split
    · exact milliEvent_touches x
    · exact ⟨x.ins, x.notices, rfl⟩
  obtain ⟨i, n, h⟩ := hm { s with time := s.time.micro, links := mapTable Link.micro s.links }
  rw [h]
  split
  · obtain ⟨k', ls', o', i', n', t', h'⟩ := secondEvent_touches
      { s with time := s.time.micro, links := mapTable Link.micro s.links, ins := i, notices := n }
    rw [h']
    exact ⟨_, _, _, _, _, _, rfl⟩
  · exact ⟨_, s.lanes, s.outs, _, _, s.triggers, rfl⟩

/-! ### The key preparation unit -/

theorem removeHeadJob_touches (s : State) : ∃ u a, removeHeadJob s = { s with keyUnit := u, arbiter := a } := by
  unfold removeHeadJob; dsimp only; split
  · exact ⟨_, s.arbiter, rfl⟩
  · exact ⟨_, _, rfl⟩

theorem emptyLoading_touches (j : Job) (r : LoadResult) (s : State) :
    ∃ o i, emptyLoading j r s = { s with outs := o, ins := i } := by
  unfold emptyLoading; split
  · exact ⟨_, s.ins, rfl⟩
  · exact ⟨s.outs, _, rfl⟩

theorem dropPending_touches (j : Job) (s : State) : ∃ o, dropPending j s = { s with outs := o } := by
  unfold dropPending; split
  · exact ⟨_, rfl⟩
  · exact ⟨s.outs, rfl⟩

theorem failLoad_touches (j : Job) (r : LoadResult) (s : State) :
    ∃ o i n, failLoad j r s = { s with outs := o, ins := i, notices := n } := by
  unfold failLoad
  obtain ⟨o, i, h⟩ := emptyLoading_touches j r s
  obtain ⟨o', h'⟩ := dropPending_touches j (emptyLoading j r s)
  rw [h', h]
  exact ⟨_, _, _, rfl⟩

theorem installLoad_touches (j : Job) (x : Secret) (s : State) :
    ∃ o i n, installLoad j x s = { s with outs := o, ins := i, notices := n } := by
  unfold installLoad; split
  · rename_i initial soft hard kind limit warning _
    obtain ⟨o, n, h⟩ := outSlotReady_touches j.stream j.slot
      (raise .keyReady (.outStream j.stream)
        (s.modOutSlot j.stream j.slot fun _ => OutSlot.loaded x initial soft hard kind limit warning))
    rw [h]
    exact ⟨_, s.ins, _, rfl⟩
  · exact ⟨s.outs, _, _, rfl⟩

theorem endJob_touches (j : Job) (r : LoadResult) (x : Option Secret) (s : State) :
    ∃ o i n, endJob j r x s = { s with outs := o, ins := i, notices := n } := by
  unfold endJob; split
  · exact installLoad_touches j _ s
  · obtain ⟨o, i, h⟩ := emptyLoading_touches j .cancelled s
    obtain ⟨o', h'⟩ := dropPending_touches j (emptyLoading j .cancelled s)
    exact ⟨o', i, s.notices, by rw [h', h]⟩
  · exact failLoad_touches j _ s

/-! ### Grants and releases -/

theorem assign_touches (l : LinkNo) (n : LaneNo) (i : StreamNo) (a : SlotNo) (f : Frame) (tc : Bool) (s : State) :
    ∃ k ls o ii nn t, assign l n i a f tc s =
      { s with links := k, lanes := ls, outs := o, ins := ii, notices := nn, triggers := t } := by
  unfold assign; dsimp only
  have h1 : ∃ k ls o, assignNumber l n i a f tc s = { s with links := k, lanes := ls, outs := o } := ⟨_, _, _, rfl⟩
  obtain ⟨k, ls, o, h1⟩ := h1
  rw [h1]
  generalize hx : ({ s with links := k, lanes := ls, outs := o } : State) = x
  have h2 : ∃ o n, assignRekey i a (s.outSlot i a).nextFn x = { x with outs := o, notices := n } := by
    unfold assignRekey; split
    · exact ⟨_, _, rfl⟩
    · exact ⟨x.outs, x.notices, rfl⟩
  obtain ⟨o2, n2, h2⟩ := h2
  rw [h2]
  generalize hy : ({ x with outs := o2, notices := n2 } : State) = y
  have h3 : ∃ o n, assignEnd i a (s.outSlot i a).nextFn y = { y with outs := o, notices := n } := by
    unfold assignEnd; split
    · exact leaveActive_touches i a y
    · exact ⟨y.outs, y.notices, rfl⟩
  obtain ⟨o3, n3, h3⟩ := h3
  rw [h3]
  generalize hz : ({ y with outs := o3, notices := n3 } : State) = z
  have h4 : ∃ o n, assignAutoSwitch i a (s.outSlot i a).nextFn z = { z with outs := o, notices := n } := by
    unfold assignAutoSwitch; split
    · exact switchStream_touches i a z
    · exact ⟨z.outs, z.notices, rfl⟩
  obtain ⟨o4, n4, h4⟩ := h4
  rw [h4]
  obtain ⟨k5, ls5, o5, i5, n5, t5, h5⟩ :=
    triggersEvent_touches (.assigned i (s.outSlot i a).nextFn) { z with outs := o4, notices := n4 }
  rw [h5, ← hz, ← hy, ← hx]
  exact ⟨_, _, _, _, _, _, rfl⟩

end Sys2Proof.Machine
end

