-- ==== Sys2Proof/Laws/Tables.lean ====
section
/-! SUPPORT. Tables and the records in them: what a read gives after a write. -/

namespace Sys2Proof

/-- The entry written reads back. -/
@[simp] theorem get_putAt_self {α : Type} {n : Nat} (v : Vector α n) (i : Fin n) (a : α) : (putAt v i a).get i = a := by
  simp [putAt, Vector.get_eq_getElem]

/-- Every other entry reads as before. -/
theorem get_putAt_ne {α : Type} {n : Nat} (v : Vector α n) {i j : Fin n} (a : α) (h : j ≠ i) :
    (putAt v i a).get j = v.get j := by
  have h' : i.1 ≠ j.1 := fun e => h (Fin.ext e.symm)
  have := Vector.getElem_set_ne (xs := v) (x := a) i.2 j.2 h'
  simpa [putAt, Vector.get_eq_getElem] using this

/-- A read after a write, by cases. -/
theorem get_putAt {α : Type} {n : Nat} (v : Vector α n) (i j : Fin n) (a : α) :
    (putAt v i a).get j = if j = i then a else v.get j := by
  split
  · subst_vars; simp
  · exact get_putAt_ne v a (by assumption)

/-- A table rewritten entry by entry. -/
@[simp] theorem get_mapTable {α β : Type} {n : Nat} (f : α → β) (v : Vector α n) (i : Fin n) :
    (mapTable f v).get i = f (v.get i) := by
  simp [mapTable, Vector.get_eq_getElem]

/-- A table of one value. -/
@[simp] theorem get_replicate {α : Type} {n : Nat} (a : α) (i : Fin n) : (Vector.replicate n a).get i = a := by
  simp [Vector.get_eq_getElem]

/-- Two tables with the same entries are the same. -/
theorem table_ext {α : Type} {n : Nat} {v w : Vector α n} (h : ∀ i : Fin n, v.get i = w.get i) : v = w := by
  apply Vector.ext
  intro i hi
  simpa [Vector.get_eq_getElem] using h ⟨i, hi⟩

/-- Writing back what an entry holds changes nothing. -/
@[simp] theorem putAt_get {α : Type} {n : Nat} (v : Vector α n) (i : Fin n) : putAt v i (v.get i) = v := by
  apply table_ext
  intro j
  rw [get_putAt]
  split
  · subst_vars; rfl
  · rfl

/-- The later write stands. -/
@[simp] theorem putAt_putAt {α : Type} {n : Nat} (v : Vector α n) (i : Fin n) (a b : α) :
    putAt (putAt v i a) i b = putAt v i b := by
  apply table_ext
  intro j
  simp only [get_putAt]
  split <;> rfl

/-- Membership in a table's list is a read. -/
theorem mem_toList_iff {α : Type} {n : Nat} {v : Vector α n} {a : α} : a ∈ v.toList ↔ ∃ i : Fin n, v.get i = a := by
  rw [Vector.mem_toList_iff, Vector.mem_iff_getElem]
  constructor
  · rintro ⟨i, hi, h⟩
    exact ⟨⟨i, hi⟩, by simpa [Vector.get_eq_getElem] using h⟩
  · rintro ⟨i, h⟩
    exact ⟨i.1, i.2, by simpa [Vector.get_eq_getElem] using h⟩

/-- The other slot is another slot. -/
@[simp] theorem otherSlot_ne (k : SlotNo) : otherSlot k ≠ k := by revert k; decide

/-- Two slots that differ are each other's other slot. -/
theorem eq_otherSlot_of_ne {j k : SlotNo} (h : j ≠ k) : j = otherSlot k := by revert j k; decide

/-- The other slot of the other slot. -/
@[simp] theorem otherSlot_otherSlot (k : SlotNo) : otherSlot (otherSlot k) = k := by revert k; decide

namespace Machine

/-- The stream rewritten. -/
@[simp] theorem outStream_modOut_self (i : StreamNo) (f : OutStream → OutStream) (s : State) :
    (s.modOut i f).outStream i = f (s.outStream i) := by simp [State.outStream, State.modOut]

/-- Any stream after one is rewritten. -/
theorem outStream_modOut (i j : StreamNo) (f : OutStream → OutStream) (s : State) :
    (s.modOut i f).outStream j = if j = i then f (s.outStream i) else s.outStream j := by
  simp [State.outStream, State.modOut, get_putAt]

/-- The inbound stream rewritten. -/
@[simp] theorem inStream_modIn_self (i : StreamNo) (f : InStream → InStream) (s : State) :
    (s.modIn i f).inStream i = f (s.inStream i) := by simp [State.inStream, State.modIn]

/-- Any inbound stream after one is rewritten. -/
theorem inStream_modIn (i j : StreamNo) (f : InStream → InStream) (s : State) :
    (s.modIn i f).inStream j = if j = i then f (s.inStream i) else s.inStream j := by
  simp [State.inStream, State.modIn, get_putAt]

/-- The slot rewritten. -/
@[simp] theorem outSlot_modOutSlot_self (i : StreamNo) (k : SlotNo) (f : OutSlot → OutSlot) (s : State) :
    (s.modOutSlot i k f).outSlot i k = f (s.outSlot i k) := by
  simp [State.outSlot, State.modOutSlot]

/-- Any outbound slot after one is rewritten. -/
theorem outSlot_modOutSlot (i j : StreamNo) (k m : SlotNo) (f : OutSlot → OutSlot) (s : State) :
    (s.modOutSlot i k f).outSlot j m = if j = i ∧ m = k then f (s.outSlot i k) else s.outSlot j m := by
  by_cases h : j = i
  · subst h; simp [State.outSlot, State.modOutSlot, get_putAt]
  · simp [State.outSlot, State.modOutSlot, outStream_modOut, h]

/-- The inbound slot rewritten. -/
@[simp] theorem inSlot_modInSlot_self (i : StreamNo) (k : SlotNo) (f : InSlot → InSlot) (s : State) :
    (s.modInSlot i k f).inSlot i k = f (s.inSlot i k) := by
  simp [State.inSlot, State.modInSlot]

/-- Any inbound slot after one is rewritten. -/
theorem inSlot_modInSlot (i j : StreamNo) (k m : SlotNo) (f : InSlot → InSlot) (s : State) :
    (s.modInSlot i k f).inSlot j m = if j = i ∧ m = k then f (s.inSlot i k) else s.inSlot j m := by
  by_cases h : j = i
  · subst h; simp [State.inSlot, State.modInSlot, get_putAt]
  · simp [State.inSlot, State.modInSlot, inStream_modIn, h]

/-- The link rewritten. -/
@[simp] theorem link_modLink_self (l : LinkNo) (f : Link → Link) (s : State) :
    (s.modLink l f).link l = f (s.link l) := by simp [State.link, State.modLink]

/-- Any link after one is rewritten. -/
theorem link_modLink (l m : LinkNo) (f : Link → Link) (s : State) :
    (s.modLink l f).link m = if m = l then f (s.link l) else s.link m := by
  simp [State.link, State.modLink, get_putAt]

end Machine
end Sys2Proof
end

