-- ==== Sys2Proof/Laws/Notices.lean ====
section
/-! SUPPORT. Which notices an event raises: the lemmas that put `State.raisesExactly` together from the raisings an
operation makes. -/

namespace Sys2Proof.Machine

/-- A set with one more member. -/
theorem getLsbD_withMember {w : Nat} (set : BitVec w) (i j : Fin w) :
    (withMember set i.1).getLsbD j.1 = true ↔ set.getLsbD j.1 = true ∨ j = i := by
  rw [withMember, BitVec.getLsbD_or, BitVec.getLsbD_ofNat, Nat.testBit_two_pow]
  simp only [j.2, decide_true, Bool.true_and, Bool.or_eq_true, decide_eq_true_eq, Fin.ext_iff, eq_comm (a := i.1)]

/-- One raising, at one kind. -/
theorem Notice.raised_raisedFor (n : Notice) (m : NoticeMember) : n.raisedFor (n.raised m) (· = m) := by
  unfold Notice.raised
  by_cases h : n.enabled = true
  · simp only [h, if_true]
    refine ⟨?_, ?_, ?_, fun i => ?_, fun i => ?_, fun i => ?_, fun i => ?_⟩ <;> cases m <;>
      simp only [Notice.addMember, getLsbD_withMember, h] <;> simp
  · simp [h, Notice.raisedFor]

/-- A kind that nothing raises is as it was. -/
theorem Notice.raisedFor_refl (n : Notice) {r : NoticeMember → Prop} (h : ∀ m, ¬ r m) : n.raisedFor n r := by
  simp [Notice.raisedFor, h]

/-- Raisings one after the other. -/
theorem Notice.raisedFor_trans {a b c : Notice} {r r' : NoticeMember → Prop} (h : a.raisedFor b r)
    (h' : b.raisedFor c r') : a.raisedFor c fun m => r m ∨ r' m := by
  obtain ⟨e, t, p, o, i, j, l⟩ := h
  obtain ⟨e', t', p', o', i', j', l'⟩ := h'
  refine ⟨e'.trans e, t'.trans t, ?_, fun x => ?_, fun x => ?_, fun x => ?_, fun x => ?_⟩
  · rw [p', p, e, exists_or]; tauto
  · rw [o', o, e]; tauto
  · rw [i', i, e]; tauto
  · rw [j', j, e]; tauto
  · rw [l', l, e]; tauto

/-- The notices raised may be named by any property that holds of the same kinds and members. -/
theorem State.raisesExactly_congr {s t : State} {r r' : NoticeKind → NoticeMember → Prop} (h : s.raisesExactly t r)
    (e : ∀ k m, r k m ↔ r' k m) : s.raisesExactly t r' := by
  have : r = r' := by funext k m; exact propext (e k m)
  exact this ▸ h

/-- An event that leaves the notice block as it is raises nothing. -/
theorem State.raisesExactly_of_notices {s t : State} {r : NoticeKind → NoticeMember → Prop} (h : t.notices = s.notices)
    (hr : ∀ k m, ¬ r k m) : s.raisesExactly t r := by
  intro k
  rw [h]
  exact Notice.raisedFor_refl _ (hr k)

/-- `raise` raises its kind for its member. -/
theorem raise_raisesExactly (k : NoticeKind) (m : NoticeMember) (s : State) :
    s.raisesExactly (raise k m s) fun n x => n = k ∧ x = m := by
  intro n
  rw [raise_notices]
  by_cases h : n = k
  · subst h
    rw [get_putAt_self]
    simpa using Notice.raised_raisedFor (s.notices.get n.number) m
  · rw [get_putAt_ne _ _ (by revert h; cases n <;> cases k <;> simp [NoticeKind.number])]
    exact Notice.raisedFor_refl _ (by simp [h])

/-- Two events one after the other raise what either raises. -/
theorem State.raisesExactly_trans {s t u : State} {r r' : NoticeKind → NoticeMember → Prop} (h : s.raisesExactly t r)
    (h' : t.raisesExactly u r') : s.raisesExactly u fun k m => r k m ∨ r' k m :=
  fun k => Notice.raisedFor_trans (h k) (h' k)

/-- An outbound slot that leaves service raises SLOT_FREED exactly where it had nothing in flight (R12, R13). -/
theorem leaveOutSlot_raisesExactly (i : StreamNo) (k : SlotNo) (s : State) :
    s.raisesExactly (leaveOutSlot i k s) fun n m =>
      n = .slotFreed ∧ m = .outStream i ∧ (s.outSlot i k).inFlight = 0 := by
  unfold leaveOutSlot
  dsimp only
  split
  · rename_i h
    exact State.raisesExactly_congr (raise_raisesExactly _ _ (s.modOutSlot i k OutSlot.left)) (by simp [h])
  · rename_i h
    exact State.raisesExactly_of_notices rfl (by simp [h])

/-- An inbound slot that leaves service raises SLOT_FREED exactly where it had nothing in flight (R12, R13). -/
theorem leaveInSlot_raisesExactly (i : StreamNo) (k : SlotNo) (s : State) :
    s.raisesExactly (leaveInSlot i k s) fun n m =>
      n = .slotFreed ∧ m = .inStream i ∧ (s.inSlot i k).inFlight = 0 := by
  unfold leaveInSlot
  dsimp only
  split
  · rename_i h
    exact State.raisesExactly_congr (raise_raisesExactly _ _ (s.modInSlot i k InSlot.left)) (by simp [h])
  · rename_i h
    exact State.raisesExactly_of_notices rfl (by simp [h])

end Sys2Proof.Machine
end

