-- ==== Sys2Proof/WellFormed.lean ====
section
/-! DEFINITION. Which commands can be sent: the lengths a record can have (Table 10-1), and that a command named after
what a record or a byte is found to be carries such a record or byte. -/

namespace Sys2Proof

/-- A request's parameters leave LEN at 120 or less (Table 10-1). -/
def paramsFit (params : List Byte) : Bool := decide (params.length + 1 ≤ 120)

/-- A record's body is 1 to 120 bytes (Table 10-1). -/
def bodyFits (body : List Byte) : Bool := decide (1 ≤ body.length) && decide (body.length ≤ 120)

/-- An event that can make a trigger's condition true: seconds of 32 bits, a valid frame number. -/
def FireEvent.wellFormed : FireEvent → Bool
  | .pulseEdge => true
  | .secondEvent t => decide (t < 2 ^ 32)
  | .timeSet t => decide (t < 2 ^ 32)
  | .assigned _ fn => decide (1 ≤ fn) && decide (fn ≤ Config.maxFn)

/-- The well-formed commands. -/
def Instr.wellFormed : Instr → Bool
  | .poll ps => paramsFit ps
  | .identify ps => paramsFit ps
  | .readStatus ps => paramsFit ps
  | .readNotices ps => paramsFit ps
  | .noticeSetup ps => paramsFit ps
  | .readCounters ps => paramsFit ps
  | .deviceSetup ps => paramsFit ps
  | .linkSetup ps => paramsFit ps
  | .rampSet ps => paramsFit ps
  | .linkStart ps => paramsFit ps
  | .linkStop ps => paramsFit ps
  | .readLink ps => paramsFit ps
  | .readLinkChanges ps => paramsFit ps
  | .rulePut ps => paramsFit ps
  | .ruleDrop ps => paramsFit ps
  | .readRule ps => paramsFit ps
  | .streamOpen ps => paramsFit ps
  | .streamClose ps => paramsFit ps
  | .readStream ps => paramsFit ps
  | .keyLoad ps => paramsFit ps
  | .keyRetire ps => paramsFit ps
  | .keySwitch ps => paramsFit ps
  | .kwkLoad ps => paramsFit ps
  | .kwkErase ps => paramsFit ps
  | .timeSet ps => paramsFit ps
  | .timeTrim ps => paramsFit ps
  | .timeRead ps => paramsFit ps
  | .triggerArm ps => paramsFit ps
  | .triggerCancel ps => paramsFit ps
  | .triggerRelease ps => paramsFit ps
  | .readTrigger ps => paramsFit ps
  | .restart ps => paramsFit ps
  | .zeroize ps => paramsFit ps
  | .alarmClear ps => paramsFit ps
  | .readRetained ps => paramsFit ps
  | .unknownRequest code ps => paramsFit ps && !Machine.requestCodes.contains code
  | .recordCheckFailed head body check => bodyFits body && !Machine.checkPasses head body check
  | .recordIgnored head body check => bodyFits body && Machine.checkPasses head body check
  | .recordLenInvalid len => decide (len.toNat = 0) || decide (120 < len.toNat)
  | .framingError => true
  | .recordGapTimeout => true
  | .overlapByte _ => true
  | .replyEnd => true
  | .powerOn => true
  | .pinReset => true
  | .resetRelease _ _ => true
  | .selfTestComplete _ => true
  | .tamperAssert => true
  | .tamperDeassert => true
  | .referenceTick => true
  | .rampStageEnd _ => true
  | .pauseRefresh _ => true
  | .graceExpiry _ _ => true
  | .lifetimeExpiry _ => true
  | .pulseEdge => true
  | .triggerFire _ event => event.wellFormed
  | .faceUp _ _ => true
  | .faceDown _ _ => true
  | .frameReceived _ _ _ => true
  | .pauseSend _ => true
  | .transmissionEnd _ _ => true
  | .outboundGrant _ => true
  | .inboundGrant _ => true
  | .keyPreparationGrant => true
  | .laneCompletion _ => true
  | .keyJobCompletion => true
  | .outboundRelease _ => true
  | .inboundRelease _ => true
  | .drainComplete _ => true
  | .byteReceived _ => true

end Sys2Proof
end

