-- ==== Sys2Proof/Tests/Slice0.lean ====
section
/-! SUPPORT. Tests of one step each, most of them rows of the manual's worked examples, the refusals of ill-formed
commands, and for every statement with hypotheses a state and operands that meet them. -/

namespace Sys2Proof.Tests

open Sys2Proof Sys2Proof.Machine

/-! ### States the tests start from -/

/-- A part in RUNNING with all lanes, everything else as after a reset. -/
def serving : State := { State.reset with mode := .running, lanesEnabled := 0xFF }

/-- The same part in another mode. -/
def inMode (m : Mode) : State := { serving with mode := m }

/-- The same part with a reply owed. -/
def replying : State := answersDone 0x01 serving

/-- The state an outcome holds. -/
def after : Host.Outcome State Fault Refusal → State
  | .next t => t
  | .fault _ => State.reset
  | .refused _ => State.reset

/-- The reply owed after an outcome. -/
def replyOf (o : Host.Outcome State Fault Refusal) : Option Reply := (after o).line.reply

/-- A DATA reply. -/
def dataReply (code : Byte) (data : List Byte) : Option Reply :=
  some { kind := .data, code := code, content := .bytes data }

/-- A REFUSED reply. -/
def refusal (code classCode detail : Byte) : Option Reply :=
  some { kind := .refused, code := code, content := .bytes [classCode, detail] }

/-- A DONE reply. -/
def doneReply (code : Byte) : Option Reply := some { kind := .done, code := code, content := .bytes [] }

/-- The key of the worked examples: only its salt is the manual's (chapter 4's example). -/
def secret : Secret := { key := 1, salt := 0x1F02A477 }

/-- A loaded outbound slot. -/
def outSlot (state : OutSlotState) (next soft hard : Nat) : OutSlot :=
  { OutSlot.empty .ok with state := state, secret := some secret, initialFn := 1, nextFn := next, soft := soft,
                           hard := hard }

/-- An out-stream ACTIVE on slot 0, on link 1 with stream id 0x0A10. -/
def activeOut (sl other : OutSlot) : OutStream :=
  { OutStream.reset with state := .active 0, link := 1, streamId := 0x0A10, slots := #v[sl, other] }

/-- A loaded inbound slot. -/
def inSlot (state : InSlotState) (lower highest : Nat) (bitmap : BitVec 64) : InSlot :=
  { InSlot.empty .ok with state := state, secret := some secret, lower := lower, highest := highest, bitmap := bitmap }

/-- An open in-stream on link 2 with stream id 0x0A10. -/
def openIn (window grace threshold : Nat) (sl other : InSlot) : InStream :=
  { InStream.reset with isOpen := true, link := 2, streamId := 0x0A10, window := window, grace := grace,
                        threshold := threshold, slots := #v[sl, other] }

/-- A LIVE link with both faces up and its pacer STEADY. -/
def liveLink : Link :=
  { Link.reset with state := .live, setUp := true, rack := { Face.reset with up := true },
                    campus := { Face.reset with up := true }, pacer :=
                      { phase := .steady, credit := 0, rate := 100000 } }

/-- A link put in place. -/
def withLink (l : LinkNo) (k : Link) (s : State) : State := s.modLink l fun _ => k

/-- An out-stream put in place. -/
def withOut (i : StreamNo) (st : OutStream) (s : State) : State := s.modOut i fun _ => st

/-- An in-stream put in place. -/
def withIn (i : StreamNo) (st : InStream) (s : State) : State := s.modIn i fun _ => st

/-- A load job for a slot. -/
def job (d : Dir) (i : StreamNo) (k : SlotNo) : Job :=
  { stream := i, slot := k, nonce := 0, wrapped := [], tag := 0, check := 0,
    range := (match d with
      | .out => .out 1 1000 1200 .none 0 0
      | .inn => .inn 1),
    cancelled := false }

/-- A PASS item with a campus length. -/
def passItem (d : Dir) (l : LinkNo) (n : Nat) : Item :=
  { dir := d, link := l, body := .pass (List.replicate n 0), length := n, state := .done }

theorem serving_serves : serving.serves := ⟨⟨rfl, rfl⟩, rfl⟩
theorem serving_reads : serving.reads := ⟨⟨rfl, rfl⟩, Or.inl rfl⟩
theorem serving_listens : serving.listens := ⟨rfl, rfl⟩

/-! ### Ill-formed commands (WellFormed) -/

theorem test_params_too_long : (Instr.poll (List.replicate 120 0)).wellFormed = false := by decide
theorem test_params_longest : (Instr.keyLoad (List.replicate 119 0)).wellFormed = true := by decide
theorem test_unknown_request_with_known_code : (Instr.unknownRequest 0x01 []).wellFormed = false := by decide
theorem test_check_failed_without_body : (Instr.recordCheckFailed 0x20 [] 0).wellFormed = false := by decide
theorem test_check_failed_that_passes : (Instr.recordCheckFailed 0x23 [0x01] 0xDB).wellFormed = false := by decide
theorem test_ignored_that_fails_its_check : (Instr.recordIgnored 0x23 [0x01] 0xDC).wellFormed = false := by decide
theorem test_body_too_long : bodyFits (List.replicate 121 0) = false := rfl
theorem test_len_invalid_with_a_len : (Instr.recordLenInvalid 120).wellFormed = false := by decide
theorem test_fire_at_seconds_too_large : (Instr.triggerFire 0 (.secondEvent (2 ^ 32))).wellFormed = false := by decide
theorem test_fire_at_time_set_too_large : (Instr.triggerFire 0 (.timeSet (2 ^ 32))).wellFormed = false := by decide
theorem test_fire_at_number_zero : (Instr.triggerFire 0 (.assigned 0 0)).wellFormed = false := by decide
theorem test_fire_at_number_too_large : (Instr.triggerFire 0 (.assigned 0 (2 ^ 48))).wellFormed = false := by decide
theorem test_table_spells_no_word : decodeTableWord 0 0 = none := by decide

/-! ### Records, numbers and tables of the manual -/

/-- Chapter 10's worked example: the POLL of address 3 and its reply. -/
theorem test_poll_record : recordBytes (requestHead 3) [0x01] = [0xC6, 0x23, 0x01, 0x01, 0xDB] := by decide
theorem test_poll_reply_record :
    (Reply.record 3 { kind := .data, code := 0x01, content := .bytes [0x01, 0x00, 0x24] }) =
      [0xC6, 0xA3, 0x04, 0x01, 0x01, 0x00, 0x24, 0x33] := by decide

/-- Table 10-1: HEAD of a DONE and of a REFUSED reply from address 5. -/
theorem test_reply_heads : (replyHead .done 5, replyHead .refused 5) = (0x85, 0xC5) := by decide

/-- R35's example. -/
theorem test_nonce :
    nonceOf 0x1F02A477 1000 = (0x1F02A477 : BitVec 32) ++ (0x0000 : BitVec 16) ++ (0x0000000003E8 : BitVec 48) := by
  decide

/-- Chapter 4's worked example. -/
theorem test_header :
    envelopeHeader 0x8C5E 0 true 0x0A10 1000 = [0x8C, 0x5E, 0x01, 0x02, 0x0A, 0x10, 0, 0, 0, 0, 0x03, 0xE8] := by decide
theorem test_header_phase_one :
    envelopeHeader 0x8C5E 1 true 0x0A10 1 = [0x8C, 0x5E, 0x01, 0x03, 0x0A, 0x10, 0, 0, 0, 0, 0, 1] := by decide

/-- Encrypted lengths of chapters 2, 3 and 4. -/
theorem test_encrypted_lengths :
    [encryptedLength 68 true, encryptedLength 68 false, encryptedLength 200 true, encryptedLength 500 false,
     encryptedLength 1500 false] = [48, 52, 180, 484, 1484] := by decide

/-- Chapter 6's worked example, and its remark on W = 0. -/
theorem test_window_of_one_load :
    deliveries 4 (inSlot .active 1 0 0) [1, 3, 2, 2, 7, 4, 3] = [1, 3, 2, 7, 4] := by decide
theorem test_window_zero : deliveries 0 (inSlot .active 1 0 0) [1, 3, 2, 2, 7, 4, 3] = [1, 3, 7] := by decide

/-- The bits of that example after release 7: H 7 and the set of 0 and 3. -/
theorem test_window_bits :
    (((inSlot .active 1 3 0b111).windowUpdated 4 7).windowUpdated 4 4).bitmap = 0b1001 := by decide

/-- Table of chapter 8's worked example: adjusted positions under +3 and −2. -/
theorem test_trim_positions :
    [tickEvents 0 3, tickEvents 16384 3, tickEvents 24576 3, tickEvents 8192 (-2), tickEvents 16384 (-2),
     tickEvents 1 3] = [2, 2, 1, 0, 1, 1] := by decide

/-- Chapter 7's worked example: 92 campus bytes cost 896 bits. -/
theorem test_wire_bits : wireBits 92 = 896 := by decide

/-! ### Status and notice requests -/

/-- Chapter 10's worked example: RUNNING with REKEY_DUE and SLOT_FREED pending. -/
theorem test_poll :
    replyOf (exec (.poll []) (raise .rekeyDue (.outStream 1) (raise .slotFreed (.inStream 2) serving))) =
      dataReply 0x01 [0x01, 0x00, 0x24] := by decide

/-- R186: identity, address 0, the low rate and the capacities. -/
theorem test_identify :
    replyOf (exec (.identify []) (inMode .failed)) =
      dataReply 0x02 [0x0F, 0x31, 0x04, 0x60, 0x01, 0, 0, 4, 8, 64, 128, 8, 4, 15] := by decide

/-- R187: 17 bytes, the link state byte with link 1 LIVE, and the error record emptied. -/
theorem test_read_status :
    let s := { withLink 1 liveLink serving with storeError := some (.inn, 9, 1) }
    replyOf (exec (.readStatus []) s) =
        dataReply 0x03 [1, 0, 0xFF, 0, 0, 0, 0, 0x8C, 0x5E, 4, 0x04, 0x0C, 0, 1, 1, 9, 1] ∧
      (after (exec (.readStatus []) s)).storeError = none := by decide

/-- Chapter 10's worked example, step 6: SLOT_FREED with out 21 and in 9, read and cleared. -/
theorem test_read_notices :
    let s := raise .slotFreed (.inStream 9) (raise .slotFreed (.outStream 21) serving)
    replyOf (exec (.readNotices [5]) s) =
        dataReply 0x04 [5, 1, 0, 0, 0, 0, 0, 0x20, 0, 0, 0, 0, 0, 0, 0, 0, 2, 0, 0, 0] ∧
      attnAsserted s = true ∧ attnAsserted (after (exec (.readNotices [5]) s)) = false := by decide

theorem test_read_notices_bad_kind : replyOf (exec (.readNotices [15]) serving) = refusal 0x04 0x04 0x1C := by decide

/-- The same example, steps 1 to 3: REKEY_DUE disabled, LINK_CHANGE masked for attention. -/
theorem test_notice_setup :
    let s := after (exec (.noticeSetup [0x7F, 0xFB, 0x7B, 0xFF, 0xFF]) serving)
    ((raise .rekeyDue (.outStream 21) s).notices.get 2).pending = false ∧
      attnAsserted (raise .linkChange .none s) = false ∧
      attnAsserted (raise .slotFreed (.outStream 4) s) = true := by decide

theorem test_notice_setup_bit_15 :
    replyOf (exec (.noticeSetup [0x80, 0, 0, 0, 0]) serving) = refusal 0x05 0x04 0x1C := by decide

/-- Chapter 10's table of refusals, last row: the outbound counters of link 2 zeroed in ALARM. -/
theorem test_read_counters :
    let s := withLink 2 { Link.reset with outCount := { OutCounters.zero with accepted := 258 } } (inMode .alarm)
    ((replyOf (exec (.readCounters [1, 2, 1]) s)).map fun r =>
        match r.content with
        | .bytes data => (data.length, data.take 8)
        | _ => (0, [])) = some (62, [1, 2, 0, 0, 0, 0, 1, 2]) ∧
      ((after (exec (.readCounters [1, 2, 1]) s)).link 2).outCount = OutCounters.zero := by decide

/-- The same table, third row: scope 9 in STARTING. -/
theorem test_read_counters_starting :
    replyOf (exec (.readCounters [9, 0, 0]) (inMode .starting)) = refusal 0x06 0x05 0x01 := by decide

theorem test_device_setup :
    (after (exec (.deviceSetup [0x88, 0xB5, 2]) serving)).envelopeType = 0x88B5 ∧
      (after (exec (.deviceSetup [0x88, 0xB5, 2]) serving)).arbiter.rotation = 2 := by decide
theorem test_device_setup_tag_type :
    replyOf (exec (.deviceSetup [0x81, 0x00, 2]) serving) = refusal 0x10 0x04 0x19 := by decide

/-! ### Link and rule requests -/

/-- R129: campus maximum 1,550, marks 384 and 256, rate 10,000, burst 200,000. -/
theorem test_link_setup :
    ((after (exec (.linkSetup [1, 1, 0, 0x06, 0x0E, 0x01, 0x80, 0x01, 0x00, 0, 0x27, 0x10, 0x03, 0x0D, 0x40])
      serving)).link
      1).settings =
      { defaultOut := .passClear, clearIn := .discard, campusMax := 1550, highMark := 384, lowMark := 256, rate := 10000,
        burst := 200000 } := by decide
theorem test_link_setup_marks :
    replyOf (exec (.linkSetup [1, 1, 0, 0x06, 0x0E, 0x01, 0x00, 0x01, 0x00, 0, 0x27, 0x10, 0x03, 0x0D, 0x40]) serving) =
      refusal 0x20 0x04 0x0E := by decide

/-- The profile of chapter 7's ramp example, sent as one record. -/
theorem test_ramp_set :
    let s := withLink 1 { Link.reset with setUp := true, settings := { LinkSettings.reset with rate := 10000 } } serving
    ((after (exec (.rampSet [1, 2, 0, 0x03, 0xE8, 0, 0, 3, 0, 0x13, 0x88, 0, 0, 2]) s)).link 1).ramp =
      [{ rate := 1000, duration := 3 }, { rate := 5000, duration := 2 }] := by decide

/-- A link set up for the ramp example of chapter 7. -/
def rampLink : Link :=
  { Link.reset with
    setUp := true, settings := { LinkSettings.reset with rate := 10000 },
    ramp := [{ rate := 1000, duration := 3 }, { rate := 5000, duration := 2 }],
    campus := { Face.reset with up := true } }

/-- The first row of that example. -/
theorem test_link_start :
    ((after (exec (.linkStart [1]) (withLink 1 rampLink serving))).link 1).pacer =
      { phase := .ramp 1 3, credit := 0, rate := 1000 } := by decide
theorem test_link_start_not_set_up : replyOf (exec (.linkStart [1]) serving) = refusal 0x22 0x05 0x04 := by decide

/-- Chapter 7's drain overtaken by a stop NOW, step 5: one frame and one item outbound, one item inbound. -/
theorem test_link_stop_now :
    let k := { liveLink with state := .draining, stopCause := .requestDrain, outQueue := [List.replicate 64 0],
                             outList := [passItem .out 2 64], inList := [passItem .inn 2 64] }
    let t := after (exec (.linkStop [2, 1]) (withLink 2 k serving))
    (t.link 2).state = .off ∧ (t.link 2).stopCause = .requestNow ∧ (t.link 2).outCount.stop = 2 ∧
      (t.link 2).inCount.stop = 1 ∧ (t.notices.get 11).links = 0b0100 := by decide

/-- The same example, step 6. -/
theorem test_link_stop_off :
    let s := withLink 2 { Link.reset with stopCause := .requestNow } serving
    exec (.linkStop [2, 0]) s = .next (answersDone 0x23 s) := rfl

theorem test_read_link_ramp :
    replyOf (exec (.readLink [1, 1]) (withLink 1 rampLink serving)) =
      dataReply 0x24 [1, 1, 2, 0, 0x03, 0xE8, 0, 0, 3, 0, 0x13, 0x88, 0, 0, 2] := by decide
theorem test_read_link_state :
    replyOf (exec (.readLink [0, 0]) (inMode .alarm)) =
      dataReply 0x24
        ([0, 0, 0, 0, 0, 0, 0, 0x06, 0x0E, 0x01, 0x80, 0x01, 0x00, 0x01, 0x86, 0xA0, 0x0F, 0x42, 0x40] ++
          List.replicate 22 0) := by decide

/-- Chapter 7's link-change example, step 4. -/
theorem test_read_link_changes :
    let up := { liveLink with state := .off, pacer := Pacer.idle }
    let s := { withLink 0 up (withLink 1 up (withLink 2 up (withLink 3 { up with rack := Face.reset } serving))) with
      linkChanges := [{ changed := 0x08, status := 0xF7, seconds := 100, micros := 5, overwritten := false },
                      { changed := 0x48, status := 0xBF, seconds := 101, micros := 20, overwritten := true }] }
    replyOf (exec (.readLinkChanges []) s) =
      dataReply 0x25
        [0xBF, 2, 0x08, 0xF7, 0, 0, 0, 100, 0, 0, 0, 5, 0, 0x48, 0xBF, 0, 0, 0, 101, 0, 0, 0, 20, 1] := by decide

/-- Chapter 3: a base of 100 with k = 6 is refused. -/
theorem test_rule_put_aperture :
    replyOf (exec (.rulePut [2, 0x02, 0x08, 0, 100, 6, 2, 0, 0]) serving) = refusal 0x30 0x04 0x06 := by decide

/-- Entry 2 of chapter 3's worked example. -/
theorem test_rule_put :
    (after (exec (.rulePut [2, 0x02, 0x08, 1, 0, 6, 0, 7, 1])
      (withOut 7 { OutStream.reset with state := .opened, link := 1 } serving))).rules.get 2 =
      { valid := true, linkSet := 0b0010, tagMatch := .tagRange, tagBase := 256, tagExp := 6, destClass := .any,
        action := .protect, stream := 7, keepTag := true, matchCount := 0 } := by decide

/-- Entry 2 of chapter 3's worked example, with a match count. -/
def ruleTwo : Rule :=
  { valid := true, linkSet := 0b0010, tagMatch := .tagRange, tagBase := 256, tagExp := 6, destClass := .any,
    action := .protect, stream := 7, keepTag := true, matchCount := 1 }

theorem test_rule_drop :
    (after (exec (.ruleDrop [2]) (serving.modRule 2 fun _ => ruleTwo))).rules.get 2 = Rule.empty := by decide
theorem test_read_rule :
    replyOf (exec (.readRule [2]) (serving.modRule 2 fun _ => ruleTwo)) =
      dataReply 0x32 [2, 1, 2, 8, 1, 0, 6, 0, 7, 1, 0, 0, 0, 0, 0, 1] := by decide

/-- Table 3-2: 319 lies in the aperture 256 with k 6, 320 does not. -/
theorem test_tag_aperture :
    let s := serving.modRule 2 fun _ => ruleTwo
    let frame := fun tag : List Byte => List.replicate 12 0 ++ [0x81, 0x00] ++ tag ++ List.replicate 48 0
    ((classify s 1 (frame [0x01, 0x3F])).action, (classify s 1 (frame [0x01, 0x40])).action) =
      (.protect, .discard) := by
  decide

/-! ### Stream and key requests -/

theorem test_stream_open :
    (after (exec (.streamOpen [0, 5, 2, 0x0A, 0x10, 0]) serving)).outStream 5 =
      { OutStream.reset with state := .opened, link := 2, streamId := 0x0A10 } := by decide

/-- Chapter 10's table of refusals, fifth row: the stream is checked before the link. -/
theorem test_stream_open_order :
    replyOf (exec (.streamOpen [0, 70, 5, 0, 0, 0]) serving) = refusal 0x40 0x04 0x02 := by decide

/-- Chapter 3's second worked example, step 6. -/
theorem test_stream_close :
    let s := withOut 7 (activeOut (outSlot .active 41 1000 1200) (OutSlot.empty .none)) serving
    let t := after (exec (.streamClose [0, 7]) s)
    (t.outStream 7).state = .unused ∧ t.outSlot 7 0 = OutSlot.empty .ok ∧
      (t.notices.get 5).outs = BitVec.ofNat 64 (2 ^ 7) := by decide
theorem test_stream_close_named :
    let s := withOut 7 (activeOut (outSlot .active 41 1000 1200) (OutSlot.empty .none))
      (serving.modRule 2 fun _ => ruleTwo)
    replyOf (exec (.streamClose [0, 7]) s) = refusal 0x41 0x05 0x08 := by decide

theorem test_read_stream :
    (replyOf (exec (.readStream [0, 7])
        (withOut 7 (activeOut (outSlot .active 41 1000 1200) (OutSlot.empty .none)) serving))).map
      (fun r => match r.content with
        | .outStream v => ((v.slots.get 0).nextFn, v.state)
        | _ => (0, .unused)) = some (41, .active 0) := by decide

/-- Chapter 10's table of refusals, sixth row: no key-wrap key, and no room. -/
theorem test_key_load_no_wrap_key :
    let s := { withOut 5 { OutStream.reset with state := .opened } serving with
      keyUnit := { jobs := List.replicate 4 (job .inn 1 0), working := none } }
    replyOf (exec (.keyLoad ([0, 5, 0] ++ List.replicate 68 0 ++ [0, 0, 0, 0, 0, 1, 0, 0, 0, 0, 3, 0xE8, 0, 0, 0, 0, 4, 0xB0] ++
      List.replicate 9 0)) s) = refusal 0x43 0x05 0x0D := by decide

/-- Chapter 1's worked example, step 1: the job waits behind the WORKING one. -/
theorem test_key_load :
    let s := { withOut 5 { OutStream.reset with state := .opened } serving with
      kwk := some 7, keyUnit := { jobs := [job .inn 9 1], working := some 3 } }
    let t := after (exec (.keyLoad ([0, 5, 0] ++ List.replicate 68 0 ++
      [0, 0, 0, 0, 0, 1, 0, 0, 0, 0, 3, 0xE8, 0, 0, 0, 0, 4, 0xB0] ++ List.replicate 9 0)) s)
    (t.outSlot 5 0).state = .loading ∧
      t.keyUnit.jobs = [job .inn 9 1, { job .out 5 0 with wrapped := List.replicate 36 0 }] := by decide

/-- The same example, step 5: the retired job was QUEUED. -/
theorem test_key_retire_queued :
    let loading := { OutSlot.empty .none with state := .loading }
    let s := { withOut 5 { OutStream.reset with state := .opened, slots := #v[loading, loading] } serving with
      keyUnit := { jobs := [job .out 5 0, job .out 5 1], working := some 6 } }
    let t := after (exec (.keyRetire [0, 5, 1]) s)
    t.keyUnit = { jobs := [job .out 5 0], working := some 6 } ∧ t.outSlot 5 1 = OutSlot.empty .cancelled := by decide

/-- The same example, step 8: three items in flight, no other key. -/
theorem test_key_retire_active :
    let s := withOut 5 (activeOut { outSlot .active 41 1000 1200 with inFlight := 3 } (OutSlot.empty .cancelled)) serving
    let t := after (exec (.keyRetire [0, 5, 0]) s)
    t.outSlot 5 0 = { outSlot .draining 41 1000 1200 with inFlight := 3 } ∧ (t.outStream 5).state = .stalled ∧
      (t.notices.get 4).outs = BitVec.ofNat 64 (2 ^ 5) := by decide

/-- Chapter 2's worked example, step 3. -/
theorem test_key_switch :
    let s := withOut 21 (activeOut (outSlot .active 1001 1000 1200)
      { OutSlot.empty .none with state := .loading }) serving
    ((after (exec (.keySwitch [0, 21]) s)).outStream 21).pendingSwitch = some 1 := by decide
theorem test_key_switch_empty :
    replyOf (exec (.keySwitch [0, 21])
      (withOut 21 (activeOut (outSlot .active 1 2 3) (OutSlot.empty .none)) serving)) = refusal 0x45 0x05 0x10 :=
        by decide

theorem test_kwk_load :
    (after (exec (.kwkLoad (List.replicate 31 0 ++ [9])) serving)).kwk = some 9 := by decide

/-- Chapter 9's tamper example, step 4. -/
theorem test_kwk_load_in_alarm :
    replyOf (exec (.kwkLoad (List.replicate 32 0)) (inMode .alarm)) = refusal 0x46 0x03 0x00 := by decide
theorem test_kwk_erase : (after (exec (.kwkErase []) { serving with kwk := some 7 })).kwk = none := by decide

/-! ### Time and trigger requests -/

/-- Chapter 8's worked example, step 8: TIME_SET 5,002 fires AT_TIME 5,000. -/
theorem test_time_set :
    let s := { withLink 1 { liveLink with outQueue := [List.replicate 64 0] } serving with
      triggers := putAt serving.triggers 1 (.armed (.atTime 5000) (.stopDrain 1)) }
    let t := after (exec (.timeSet [0, 0, 0x13, 0x8A]) s)
    t.time.seconds = 5002 ∧ t.triggers.get 1 = .empty ∧ (t.link 1).state = .draining ∧
      (t.link 1).stopCause = .triggerDrain ∧ (t.notices.get 8).triggers = 0b10 := by decide

theorem test_time_trim : (after (exec (.timeTrim [0xFE, 1]) serving)).time.trim = -2 := by decide
theorem test_time_trim_bad : replyOf (exec (.timeTrim [0x80, 0]) serving) = refusal 0x51 0x04 0x18 := by decide
theorem test_time_read :
    replyOf (exec (.timeRead [])
      { inMode .alarm with time := { TimeBase.reset with seconds := 70015, micros := 999999, valid := true, trim := -2 } }) =
      dataReply 0x52 [0, 1, 0x11, 0x7F, 0, 0x0F, 0x42, 0x3F, 1, 0xFE, 0, 0, 0, 0, 0, 0, 0] := by decide

/-- Out-streams 3 and 5 of chapter 8's worked example: slot 1 of stream 3 READY, of stream 5 EMPTY. -/
def rolling : State :=
  withOut 3 (activeOut (outSlot .active 10 1000 1200) (outSlot .ready 1 1000 1200))
    (withOut 5 (activeOut (outSlot .active 10 1000 1200) (OutSlot.empty .none)) serving)

/-- That example, step 1. -/
theorem test_trigger_arm :
    (after (exec (.triggerArm [0, 0, 0, 0, 0, 0, 0, 0, 2, 0, 2, 3, 5]) rolling)).triggers.get 0 =
      .armed (.onPulse 2) (.switch [3, 5]) := by decide

/-- That example, step 4. -/
theorem test_trigger_arm_named :
    replyOf (exec (.triggerArm [3, 0, 0, 0, 0, 0, 0, 0, 1, 0, 1, 5])
      (rolling.setTrigger 0 (.armed (.onPulse 2) (.switch [3, 5])))) = refusal 0x53 0x05 0x09 := by decide

theorem test_trigger_cancel :
    (after (exec (.triggerCancel [0]) (rolling.setTrigger 0 (.armed (.onPulse 2) (.switch [3]))))).triggers.get 0 =
      .empty := by
  decide
theorem test_trigger_cancel_empty : replyOf (exec (.triggerCancel [7]) rolling) = refusal 0x54 0x05 0x12 := by decide

/-- That example, step 9. -/
theorem test_trigger_release :
    (after (exec (.triggerRelease [0])
      (rolling.setTrigger 0 (.faulted (.onPulse 0) (.switch [3, 5]) 5 0x10)))).triggers.get 0 = .empty := by decide
theorem test_read_trigger :
    replyOf (exec (.readTrigger [0]) (rolling.setTrigger 0 (.faulted (.onPulse 0) (.switch [3, 5]) 5 0x10))) =
      dataReply 0x56 [0, 2, 0, 0, 0, 0, 0, 0, 0, 0, 0, 2, 3, 5, 5, 0x10] := by decide

/-! ### Device requests and whole records -/

theorem test_restart :
    replyOf (exec (.restart []) (inMode .failed)) = doneReply 0x60 ∧
      (after (exec (.restart []) (inMode .failed))).mode = .failed ∧
      (after (exec (.restart []) (inMode .failed))).line.restartPending = true := by decide
theorem test_zeroize :
    let t := after (exec (.zeroize []) { withLink 1 liveLink serving with kwk := some 7 })
    t.mode = .alarm ∧ t.kwk = none ∧ (t.link 1).state = .off ∧ t.retained.cause = .request := by decide

/-- Chapter 9's tamper example, steps 2 and 6. -/
theorem test_alarm_clear_tamper :
    replyOf (exec (.alarmClear []) { inMode .alarm with tamperAsserted := true }) = refusal 0x62 0x05 0x13 := by decide
theorem test_alarm_clear_running : replyOf (exec (.alarmClear []) serving) = refusal 0x62 0x05 0x14 := by decide

/-- Chapter 9's power-on example, step 5: lanes failed 0x50 and alarm count 0. -/
theorem test_read_retained :
    replyOf (exec (.readRetained [])
      { serving with retained := { serving.retained with valid := true, lanesFailed := 0x50 } }) =
      dataReply 0x63 [1, 0, 0, 0, 0, 0, 0, 0, 0x50, 0, 0] := by decide

/-- Chapter 10's table of refusals, second row. -/
theorem test_unknown_request :
    replyOf (exec (.unknownRequest 0x7F (List.replicate 8 0)) serving) = refusal 0x7F 0x02 0x00 := by decide

/-- Chapter 10's worked example, the damaged request: one check failure and no answer. -/
theorem test_record_check_failed :
    (after (exec (.recordCheckFailed 0x27 [0x01] 0xDB) { serving with address := 3 })).line =
      { Line.reset with check := 1 } := by decide

/-- The same example at part 6: the check passes, the address differs. -/
theorem test_record_ignored :
    (after (exec (.recordIgnored 0x23 [0x01] 0xDB) { serving with address := 6 })).line = Line.reset := by decide
theorem test_record_len_invalid :
    (after (exec (.recordLenInvalid 121) (serving.modLine fun ln => { ln with assembly := .len 0x23 }))).line =
      { Line.reset with broken := 1 } := by decide
theorem test_framing_error :
    (after (exec .framingError (serving.modLine fun ln => { ln with assembly := .head, framing := 65535 }))).line =
      { Line.reset with framing := 65535 } := by decide
theorem test_record_gap_timeout :
    (after (exec .recordGapTimeout (serving.modLine fun ln => { ln with assembly := .body 0x23 2 [1] }))).line =
      { Line.reset with broken := 1 } := by decide
theorem test_overlap_byte : (after (exec (.overlapByte 0xC6) replying)).line.overlap = 1 := by decide
theorem test_reply_end_after_restart :
    let t := after (exec .replyEnd (after (exec (.restart []) serving)))
    t.resetHeld = some .restart ∧ t.line.reply = none := by decide

/-- Chapter 10's worked example: the CHECK byte of the POLL of address 3. -/
theorem test_byte_received :
    replyOf (exec (.byteReceived 0xDB)
      ({ serving with address := 3 }.modLine fun ln => { ln with assembly := .check 0x23 [0x01] })) =
      dataReply 0x01 [1, 0, 0] := by decide

/-! ### Resets, the self-test and TAMPER_N -/

theorem test_power_on :
    let t := after (exec .powerOn { serving with kwk := some 7, retained := { serving.retained with valid := true } })
    t.resetHeld = some .powerOn ∧ t.retained.valid = false ∧ t.kwk = some 7 := by decide
theorem test_pin_reset : (after (exec .pinReset serving)).resetHeld = some .pin := by decide
theorem test_reset_release :
    let t := after (exec (.resetRelease 5 true)
      { withLink 0 liveLink serving with resetHeld := some .pin, kwk := some 7 })
    t.mode = .starting ∧ t.resetCause = .pin ∧ t.address = 5 ∧ t.kwk = some 7 ∧ (t.link 0) = Link.reset := by decide

/-- Chapter 9's power-on example, step 4: lanes 4 and 6 fail. -/
theorem test_self_test :
    let t := after (exec (.selfTestComplete 0xAF) (inMode .starting))
    t.mode = .running ∧ t.lanesEnabled = 0xAF ∧ t.retained.lanesFailed = 0x50 ∧ t.retained.alarmCount = 0 ∧
      (t.notices.get 13).pending = true := by decide

/-- Chapter 9's FAILED example, step 1: only lane 2 passes, the alarm fields are kept. -/
theorem test_self_test_failed :
    let s := { inMode .starting with retained := { serving.retained with valid := true, cause := .tamper, alarmCount := 1 } }
    let t := after (exec (.selfTestComplete 0x04) s)
    t.mode = .failed ∧ t.retained.lanesFailed = 0xFB ∧ t.retained.testFailed = true ∧ t.retained.cause = .tamper ∧
      t.retained.alarmCount = 1 := by decide

/-- Chapter 9's tamper example, step 1. -/
theorem test_tamper_assert :
    let s := { withLink 0 liveLink (withLink 1 liveLink (withOut 5
        (activeOut (outSlot .active 41 1000 1200) (OutSlot.empty .none)) serving)) with
      kwk := some 7, time := { TimeBase.reset with seconds := 70015, valid := true }
      retained := { serving.retained with valid := true, cause := .request, alarmCount := 2 } }
    let t := after (exec .tamperAssert s)
    t.mode = .alarm ∧ t.kwk = none ∧ (t.link 1).stopCause = .alarm ∧ (t.outStream 5).state = .opened ∧
      t.retained = { s.retained with cause := .tamper, seconds := 70015, timeValid := true, alarmCount := 3 } ∧
      (t.notices.get 11).links = 0b0011 := by decide
theorem test_tamper_deassert :
    let t := after (exec .tamperDeassert { inMode .alarm with tamperAsserted := true })
    t.tamperAsserted = false ∧ t.mode = .alarm := by decide

/-! ### Time events, triggers and pulse edges -/

/-- R151 with trim +3: the tick at window position 8,192 makes two events, which cross the second. -/
theorem test_reference_tick :
    let s := { serving with time := { TimeBase.reset with seconds := 7, micros := 999998, trim := 3, window := 8191 } }
    let t := after (exec .referenceTick s)
    t.time = { TimeBase.reset with seconds := 8, micros := 0, trim := 3, window := 8192 } := by decide +kernel

/-- Chapter 7's ramp example, µs 3: the refill uses stage 1's rate, then stage 2 begins. -/
theorem test_ramp_stage_end :
    let k := { rampLink with state := .live, pacer := { phase := .ramp 1 1, credit := -688, rate := 1000 } }
    ((after (exec (.rampStageEnd 1) (withLink 1 k serving))).link 1).pacer =
      { phase := .ramp 2 2, credit := 312, rate := 5000 } := by decide
theorem test_pause_refresh :
    let k := { liveLink with pauseAsserted := true, refresh := some 99 }
    let t := (after (exec (.pauseRefresh 0) (withLink 0 k serving))).link 0
    t.pauseOwed = true ∧ t.refresh = some 0 := by decide

/-- Chapter 6's grace example, step 8. -/
theorem test_grace_expiry :
    let s := withIn 9 (openIn 64 3 0
      { inSlot .grace 1 501 0 with grace := 1, inFlight := 1 } (inSlot .active 1 2 0)) serving
    (after (exec (.graceExpiry 9 0) s)).inSlot 9 0 = { inSlot .draining 1 501 0 with inFlight := 1 } := by decide

/-- R41 and R44: the limit is reached with no READY other slot. -/
theorem test_lifetime_expiry :
    let sl := { outSlot .active 5 1000 1200 with lifetimeKind := .seconds, limit := 60, warning := 50, accrued := 59,
                                                 rekeyRaised := true, inFlight := 2 }
    let t := after (exec (.lifetimeExpiry 30) (withOut 30 (activeOut sl (OutSlot.empty .none)) serving))
    t.outSlot 30 0 = { sl with state := .draining, accrued := 60 } ∧ (t.outStream 30).state = .stalled := by decide

/-- R41 and R152: a second event accrues, raises REKEY_DUE at the warning, and fires AT_TIME at its target. -/
theorem test_second_event :
    let sl := { outSlot .active 5 1000 1200 with lifetimeKind := .seconds, limit := 60, warning := 50, accrued := 49 }
    let s := { withOut 30 (activeOut sl (OutSlot.empty .none)) (withLink 1 rampLink serving) with
      time := { TimeBase.reset with seconds := 799, micros := 999999 }
      triggers := putAt serving.triggers 1 (.armed (.atTime 800) (.start 1)) }
    let t := after (exec .referenceTick s)
    t.outSlot 30 0 = { sl with accrued := 50, rekeyRaised := true } ∧
      (t.notices.get 2).outs = BitVec.ofNat 64 (2 ^ 30) ∧ (t.link 1).state = .live ∧ t.triggers.get 1 = .empty := by
  decide +kernel

/-- Chapter 8's pulse edge example, offsets 999,950 and 101. -/
theorem test_pulse_edge_early :
    let s := { serving with time := { TimeBase.reset with seconds := 800, micros := 999950, discipline := true } }
    (after (exec .pulseEdge s)).time = { TimeBase.reset with seconds := 801, micros := 0, discipline := true } := by
  decide +kernel
theorem test_pulse_edge_outside :
    let s := { serving with time := { TimeBase.reset with seconds := 805, micros := 101, discipline := true } }
    (after (exec .pulseEdge s)).time = { s.time with outOfWindow := 1 } := by decide

/-- Chapter 8's trigger example, step 6: stream 3 passes, stream 5 fails 0x10, neither is switched. -/
theorem test_trigger_fire_faults :
    let t := after (exec (.triggerFire 0 .pulseEdge) (rolling.setTrigger 0 (.armed (.onPulse 1) (.switch [3, 5]))))
    t.triggers.get 0 = .faulted (.onPulse 0) (.switch [3, 5]) 5 0x10 ∧ (t.outStream 3).state = .active 0 ∧
      (t.notices.get 9).triggers = 1 := by decide
theorem test_trigger_fire :
    let t := after (exec (.triggerFire 2 (.assigned 8 10000))
      (rolling.setTrigger 2 (.armed (.atNumber 8 10000) (.switch [3]))))
    t.triggers.get 2 = .empty ∧ (t.outStream 3).state = .active 1 ∧ (t.notices.get 8).triggers = 0b100 := by decide

/-! ### Faces and frames -/

/-- Chapter 7's ramp example, the last row: the profile starts again from its first stage with C 0. -/
theorem test_face_up :
    let k := { rampLink with state := .live, campus := Face.reset, pacer := { phase := .held, credit := 0, rate := 0 } }
    let t := after (exec (.faceUp 1 .campus) (withLink 1 k serving))
    (t.link 1).pacer = { phase := .ramp 1 3, credit := 0, rate := 1000 } ∧ t.linkChanges.length = 1 := by decide

/-- Chapter 7's link-change example, step 3: entry 2 gathers both changes. -/
theorem test_face_down :
    let up := { liveLink with state := .off, pacer := Pacer.idle }
    let one := { changed := 0x08, status := 0xF7, seconds := 100, micros := 5, overwritten := false : LinkChange }
    let two := { changed := 0x08, status := 0xFF, seconds := 100, micros := 900000, overwritten := false : LinkChange }
    let s := { withLink 0 up (withLink 1 up (withLink 2 up (withLink 3 up serving))) with
      linkChanges := [one, two], time := { TimeBase.reset with seconds := 101, micros := 20 } }
    (after (exec (.faceDown 3 .rack) s)).linkChanges =
      [one, { changed := 0x48, status := 0xBF, seconds := 101, micros := 20, overwritten := true }] := by decide

/-- A received frame of 64 bytes with a correct FCS. -/
def goodFrame : Frame := withFcs (List.replicate 60 0)

theorem goodFrame_received : receivedGood goodFrame = true := by
  unfold receivedGood
  simp only [Bool.and_eq_true, decide_eq_true_eq]
  exact ⟨⟨by decide, by decide⟩, rfl⟩

theorem test_frame_received_short :
    ((after (exec (.frameReceived 0 .rack (List.replicate 63 0))
      (withLink 0 liveLink serving))).link 0).faceCount.rackErrors
      = 1 := by decide

/-- R88: the pause frame's 60 bytes, closed with its FCS. -/
theorem test_pause_send :
    let k := { liveLink with pauseAsserted := true, pauseOwed := true }
    let t := (after (exec (.pauseSend 0) (withLink 0 k serving))).link 0
    t.rack.tx = .pause (withFcs ([0x01, 0x80, 0xC2, 0, 0, 1, 0, 0, 0, 0, 0, 0, 0x88, 0x08, 0, 1, 0xFF, 0xFF] ++
      List.replicate 42 0)) ∧ t.pauseOwed = false ∧ t.refresh = some 0 := ⟨rfl, rfl, rfl⟩
theorem test_transmission_end :
    let k := { liveLink with campus := { up := true, tx := .data [1], lastEnding := .lost } }
    ((after (exec (.transmissionEnd 0 .campus) (withLink 0 k serving))).link 0).campus =
      { up := true, tx := .idle, lastEnding := .complete } := by decide

/-! ### Grants, lanes and releases -/

/-- The rack frame of chapter 4's worked example: tag identifier 300, inner type 0x0800, 46 bytes of payload, FCS. -/
def taggedFrame : Frame := List.replicate 12 0 ++ [0x81, 0x00, 0x01, 0x2C, 0x08, 0x00] ++ List.replicate 50 0

/-- A part whose arbiter grants link 1's outbound queue, which holds that frame. -/
def sealing (next : Nat) : State :=
  withOut 7 (activeOut (outSlot .active next 1000 1200) (OutSlot.empty .none))
    (withLink 1 { liveLink with outQueue := [taggedFrame] } (serving.modRule 2 fun _ => ruleTwo))

/-- Chapter 4's worked example: header, associated data, 48 encrypted bytes, campus length 96; with S 1,000 the
assignment of p = 1,000 raises REKEY_DUE (R38). -/
theorem test_outbound_grant :
    let t := after (exec (.outboundGrant .good) (sealing 1000))
    (t.link 1).outList =
      [{ dir := .out, link := 1
         body := .protect { stream := 7, slot := 0, fn := 1000, tagClear := true }
           (List.replicate 12 0 ++ [0x81, 0x00, 0x01, 0x2C] ++ [0x8C, 0x5E, 0x01, 0x02, 0x0A, 0x10, 0, 0, 0, 0, 0x03, 0xE8])
           ([0x08, 0x00] ++ List.replicate 46 0) none
         length := 96, state := .onLane 0 }] ∧
      (t.outSlot 7 0).nextFn = 1001 ∧ (t.outSlot 7 0).inFlight = 1 ∧ (t.outStream 7).protectedBytes = 48 ∧
      (t.notices.get 2).outs = BitVec.ofNat 64 (2 ^ 7) ∧ (t.rules.get 2).matchCount = 2 := by decide +kernel
theorem test_outbound_grant_nonce :
    (after (exec (.outboundGrant .good) (sealing 1000))).lanes.get 0 =
      .protect 1 secret ((0x1F02A477 : BitVec 32) ++ (0x0000 : BitVec 16) ++ (0x0000000003E8 : BitVec 48)) := by decide

/-- Frames d and g of chapter 4's second example: short, and frame number 0. -/
theorem test_inbound_grant_short :
    let frame := List.replicate 12 0 ++ [0x8C, 0x5E] ++ List.replicate 76 0
    ((after (exec (.inboundGrant .good)
      (withLink 2 { liveLink with inQueue := [frame] } serving))).link 2).inCount.badHeader =
      1 := by decide

/-- Frame a of that example: a header with phase 0 and FN 5 under a READY slot becomes a VERIFY item. -/
def envelopedFrame : Frame :=
  List.replicate 12 0 ++ [0x8C, 0x5E, 0x01, 0x00, 0x0A, 0x10, 0, 0, 0, 0, 0, 5] ++ List.replicate 68 0

/-- A part whose arbiter grants link 2's inbound queue, which holds that frame. -/
def verifying : State :=
  withIn 9 (openIn 4 0 0 (inSlot .ready 1 0 0) (InSlot.empty .none))
    (withLink 2 { liveLink with inQueue := [envelopedFrame] } serving)

theorem test_inbound_grant :
    let t := after (exec (.inboundGrant .good) verifying)
    (t.inSlot 9 0).inFlight = 1 ∧
      (t.link 2).inList.map (fun it => (it.length, it.state, it.reference)) =
        [(92, .onLane 0, some (.inn, 9, 0))] := by decide

/-- Chapter 5's arbitration example, step 2: the pool without lanes 4 and 6, lane 0 the only one FREE, g = G = 2. -/
theorem test_key_preparation_grant :
    let busy : Lane := .job 0
    let s := { withLink 0 { liveLink with outQueue := [[1]] } serving with
      lanesEnabled := 0b10101111, lanes := #v[.free, busy, busy, busy, .free, busy, .free, busy], kwk := some 7
      arbiter := { pointer := 6, count := 2, rotation := 2 }
      keyUnit := { jobs := [job .inn 9 1, job .inn 9 0], working := none } }
    let t := after (exec .keyPreparationGrant s)
    t.keyUnit.working = some 0 ∧ t.lanes.get 0 = .job 7 ∧ t.arbiter = { pointer := 6, count := 0, rotation := 2 } :=
  ⟨by decide, rfl, by decide⟩

/-- Chapter 5's second example, step 1: C completes behind A. -/
theorem test_lane_completion :
    let item := fun (fn : Nat) (n : LaneNo) =>
      { dir := .out, link := 1, body := .protect { stream := 7, slot := 0, fn := fn, tagClear := false } [] [1] none
        length := 92, state := .onLane n : Item }
    let s := { withLink 1 { liveLink with outList := [item 40 0, item 41 1] } serving with
      lanes := putAt serving.lanes 1 (.protect 1 secret 0) }
    let t := after (exec (.laneCompletion 1) s)
    t.lanes.get 1 = .free ∧ (t.link 1).outList.map Item.state = [.onLane 0, .done] := by decide

/-- Chapter 1's cancel while WORKING, step 4: whatever the unwrap gives, the slot is EMPTY, CANCELLED. -/
theorem test_key_job_completion :
    let s := { withOut 12 (activeOut (outSlot .active 5 1000 1200) { OutSlot.empty .none with state := .loading }) serving with
      lanes := putAt serving.lanes 2 (.job 7)
      keyUnit := { jobs := [{ job .out 12 1 with cancelled := true }], working := some 2 } }
    let t := after (exec .keyJobCompletion s)
    t.outSlot 12 1 = OutSlot.empty .cancelled ∧ t.keyUnit = { jobs := [], working := none } ∧ t.lanes.get 2 = .free ∧
      (t.notices.get 1).pending = false := by decide

/-- R47: a KEY_SWITCH after the cancel set the pending switch to the slot; the CANCELLED completion leaves none. -/
theorem test_cancelled_completion_drops_switch :
    let s := { withOut 12 (activeOut (outSlot .active 5 1000 1200) { OutSlot.empty .none with state := .loading }) serving with
      lanes := putAt serving.lanes 2 (.job 7)
      keyUnit := { jobs := [{ job .out 12 1 with cancelled := true }], working := some 2 } }
    let s1 := (after (exec (.keySwitch [0, 12]) s)).modLine fun ln => { ln with reply := none }
    (s1.outStream 12).pendingSwitch = some 1 ∧
      ((after (exec .keyJobCompletion s1)).outStream 12).pendingSwitch = none := by decide

/-- Chapter 7's steady pacing, the 12th frame of refill 1: sent at C = 144, which leaves −752. -/
theorem test_outbound_release :
    let k := { liveLink with outList := [passItem .out 0 92], pacer := { phase := .steady, credit := 144, rate := 10000 } }
    let t := (after (exec (.outboundRelease 0) (withLink 0 k serving))).link 0
    t.pacer.credit = -752 ∧ t.outCount.clearSent = 1 ∧ t.outCount.campusBytes = 92 ∧ t.outList = [] := by decide

/-- Chapter 6's integrity alert, release 3: the count reaches the threshold 3 and returns to 0. -/
theorem test_inbound_release_alert :
    let item : Item :=
      { dir := .inn, link := 0, body := .verify { stream := 4, slot := 0, fn := 9, tagClear := false } [] [] 0 (some none)
        length := 92, state := .done }
    let s := withIn 4 { openIn 4 0 3 { inSlot .active 1 8 0 with inFlight := 1 } (InSlot.empty .none) with
        link := 0, failures := 2 } (withLink 0 { liveLink with inList := [item] } serving)
    let t := after (exec (.inboundRelease 0) s)
    (t.inStream 4).failures = 0 ∧ (t.inStream 4).integrityFailures = 1 ∧ (t.inSlot 4 0).inFlight = 0 ∧
      (t.notices.get 7).ins = BitVec.ofNat 64 (2 ^ 4) := by decide

/-- Chapter 6's grace example, step 3: the delivery under a READY slot flips the stream. -/
theorem test_inbound_release_flip :
    let item : Item :=
      { dir := .inn, link := 2
        body := .verify { stream := 9, slot := 1, fn := 1, tagClear := false } (List.replicate 24 0) []
          0 (some (some (List.replicate 48 0)))
        length := 92, state := .done }
    let s := withIn 9 (openIn 64 3 0 { inSlot .active 1 500 1 with inFlight := 1 }
      { inSlot .ready 1 0 0 with inFlight := 2 })
      (withLink 2 { liveLink with inList := [item] } serving)
    let t := after (exec (.inboundRelease 2) s)
    t.inSlot 9 0 = { inSlot .grace 1 500 1 with inFlight := 1, grace := 3 } ∧
      t.inSlot 9 1 = { inSlot .active 1 1 1 with inFlight := 1 } ∧ (t.notices.get 6).ins = BitVec.ofNat 64 (2 ^ 9) ∧
      (t.link 2).inCount.delivered = 1 := by decide

theorem test_drain_complete :
    let s := withLink 3 { liveLink with state := .draining, stopCause := .triggerDrain } serving
    let t := after (exec (.drainComplete 3) s)
    (t.link 3).state = .off ∧ (t.link 3).stopCause = .triggerDrain ∧ (t.link 3).pacer = Pacer.idle ∧
      (t.notices.get 11).links = 0b1000 := by decide

/-! ### Every statement's hypotheses are met

One theorem for each statement that has hypotheses: a concrete state and operands for each of its clauses, at the
ends of
a range where a clause has one. -/

/-- POLL stands in the table of request commands. -/
theorem poll_mem : ((0x01 : Byte), Instr.poll) ∈ requestCommands := by simp [requestCommands]
theorem readNotices_mem : ((0x04 : Byte), Instr.readNotices) ∈ requestCommands := by simp [requestCommands]
theorem deviceSetup_mem : ((0x10 : Byte), Instr.deviceSetup) ∈ requestCommands := by simp [requestCommands]
theorem kwkLoad_mem : ((0x46 : Byte), Instr.kwkLoad) ∈ requestCommands := by simp [requestCommands]

theorem witness_step :
    ({ serving with pending := [.poll []] } : State).pending = [.poll []] ∧ State.reset.pending = [] := ⟨rfl, rfl⟩

/-- The shortest record and the longest. -/
theorem witness_bytesMakeRequests :
    serving.listens ∧ serving.line.assembly = .hunt ∧ ([] : List Byte).length + 1 ≤ 120 ∧
      (List.replicate 119 (0 : Byte)).length + 1 ≤ 120 := ⟨serving_listens, rfl, by decide, by simp⟩

theorem witness_held :
    ({ serving with resetHeld := some .pin } : State).resetHeld ≠ none ∧ reachesHeldPart (.poll []) = false ∧
      reachesHeldPart .referenceTick = false := by decide

theorem witness_refusals :
    (∃ t r, serving.line.reply = none ∧ exec (.deviceSetup [0, 0, 1]) serving = .next t ∧ t.line.reply = some r ∧
      r.kind = .refused) := ⟨_, _, rfl, rfl, rfl, rfl⟩

/-- MALFORMED by one byte, and the three modes that refuse. -/
theorem witness_lengthThenMode :
    lengthFits 0x01 [0] = false ∧ lengthFits 0x04 [0] = true ∧ (0x04 : Byte) ∉ ([0x01, 0x02, 0x03] : List Byte) ∧
      (0x04 : Byte) ∉ ([0x01, 0x02, 0x03, 0x63, 0x60] : List Byte) ∧ (inMode .starting).listens ∧
      (inMode .failed).listens ∧ (inMode .alarm).listens ∧ lengthFits 0x46 (List.replicate 32 0) = true :=
  ⟨by decide, by decide, by decide, by decide, ⟨rfl, rfl⟩, ⟨rfl, rfl⟩, ⟨rfl, rfl⟩, by decide⟩

theorem link_reset_legal : Link.reset.legal :=
  ⟨by unfold LinkSettings.inRange; decide, by decide, by simp [Link.reset], by decide, by decide, by decide, by decide,
    by decide, by decide, by decide, by decide, by decide, rfl, rfl, rfl⟩

theorem liveLink_legal : liveLink.legal :=
  ⟨by unfold LinkSettings.inRange; decide, by decide, by simp [liveLink, Link.reset], by decide, by decide, by decide,
    by decide, by decide, by decide, by decide, by decide, by decide, by decide, rfl, rfl⟩

/-- A link in its first ramp stage, with the smallest credit a send leaves. -/
theorem rampLink_legal :
    ({ rampLink with state := .live, pacer := { phase := .ramp 1 3, credit := -77983, rate := 1000 } } : Link).legal :=
  ⟨by unfold LinkSettings.inRange; decide, by decide, by unfold Stage.inRange; decide, by decide, by decide, by decide,
    by decide, by decide, by decide, by decide, by decide, by decide, by decide, rfl, by decide, by decide, _, rfl, rfl,
    by decide⟩

/-- A part with a LIVE link: every link legal. -/
def linked : State := withLink 1 liveLink serving

theorem linked_linksLegal : linked.linksLegal := by
  refine ⟨fun l => ?_, by decide⟩
  by_cases h : l = 1
  · subst h; exact liveLink_legal
  · have : linked.link l = Link.reset := by revert l; decide
    rw [this]; exact link_reset_legal

/-- A DATA reply of READ_LINK, a READ_STREAM reply, a DONE and a REFUSED one. -/
theorem witness_repliesFit :
    linked.linksLegal ∧ linked.triggersLegal ∧ linked.line.reply = none ∧
      (∃ t r, exec (.readLink [1, 0]) linked = .next t ∧ t.line.reply = some r ∧ r.kind = .data) ∧
      (∃ t r, exec (.readStream [0, 63]) linked = .next t ∧ t.line.reply = some r ∧ r.kind = .data) ∧
      (∃ t r, exec (.timeTrim [0, 0]) linked = .next t ∧ t.line.reply = some r ∧ r.kind = .done) ∧
      ∃ t r, exec (.deviceSetup [0, 0, 1]) linked = .next t ∧ t.line.reply = some r ∧ r.kind = .refused :=
  ⟨linked_linksLegal, ⟨⟨by decide, by decide⟩, by decide⟩, rfl, ⟨_, _, rfl, rfl, rfl⟩, ⟨_, _, rfl, rfl, rfl⟩,
    ⟨_, _, rfl, rfl, rfl⟩, _, _, rfl, rfl, rfl⟩

/-- Two states that differ in the key-wrap key alone. -/
theorem witness_noSecret :
    State.covered { serving with kwk := some 1 } = State.covered { serving with kwk := some 2 } ∧
      ({ serving with kwk := some 1 } : State) ≠ { serving with kwk := some 2 } :=
  ⟨rfl, fun h => absurd (congrArg State.kwk h) (by decide)⟩

/-- The invariants hold of a part in RUNNING that then takes a command. -/
theorem witness_ranges :
    serving.time.inRange ∧ serving.settingsInRange ∧ serving.noticesLegal ∧
      ∃ t, step { serving with pending := [.timeTrim [0x81, 1]] } = .next t :=
  ⟨by unfold TimeBase.inRange; decide, by unfold State.settingsInRange; decide,
    fun k => by revert k; unfold Notice.legal; decide, _, rfl⟩
theorem witness_line :
    serving.line.legal ∧ ∃ t, step { serving with pending := [.byteReceived 0xC6] } = .next t :=
  ⟨⟨trivial, by decide, by decide, by decide, by decide, by decide, by decide⟩, _, rfl⟩
theorem witness_links : linked.linksLegal ∧ ∃ t, step { linked with pending := [.faceDown 1 .campus] } = .next t :=
  ⟨linked_linksLegal, _, rfl⟩

/-- A quiet part in ALARM. -/
theorem witness_quiet :
    (inMode .alarm).quietOutsideRunning ∧ (inMode .alarm).mode ≠ .running ∧
      ∃ t, step { inMode .alarm with pending := [.alarmClear []] } = .next t :=
  ⟨⟨fun _ => ⟨by decide, by decide, by decide, rfl, rfl, by decide, by decide, by decide⟩, fun _ => rfl⟩, by decide, _,
    rfl⟩

/-- Out-stream 5 OPEN with slot 0 LOADING and its job WORKING. -/
def loadingStream : OutStream :=
  { OutStream.reset with state := .opened, slots := #v[{ OutSlot.empty .none with state := .loading }, OutSlot.empty .none] }

/-- A part with that stream. -/
def loadingPart : State :=
  { withOut 5 loadingStream serving with
    kwk := some 7, keyUnit := { jobs := [job .out 5 0], working := some 0 }, lanes := putAt serving.lanes 0 (.job 7) }

theorem loadingStream_legal : loadingStream.legal := by
  refine ⟨fun k => ?_, by decide, by decide, by decide, by decide⟩
  match k with
  | 0 => rfl
  | 1 => rfl
theorem outStream_reset_legal : OutStream.reset.legal := by
  refine ⟨fun k => ?_, by decide, by decide, by decide, by decide⟩
  match k with
  | 0 => rfl
  | 1 => rfl
theorem inStream_reset_legal : InStream.reset.legal := by
  refine ⟨by decide, by decide, fun k => ?_, by decide, by decide⟩
  match k with
  | 0 => rfl
  | 1 => rfl

/-- An in-stream with a GRACE slot and the ACTIVE one that took over. -/
theorem graceStream_legal :
    (openIn 4 3 0 { inSlot .grace 1 2 0b1001 with grace := 3, inFlight := 1 } (inSlot .active 5 4 0)).legal := by
  refine ⟨by decide, by decide, fun k => ?_, by decide, by decide⟩
  match k with
  | 0 => exact ⟨by decide, ⟨by decide, by decide, by decide, by decide⟩, by decide, by decide⟩
  | 1 => exact ⟨by decide, ⟨by decide, by decide, by decide, by decide⟩, rfl⟩

/-- An out-stream ACTIVE at its hard limit whose other slot drains past its own. -/
theorem drainingStream_legal :
    (activeOut (outSlot .active 1200 1000 1200) { outSlot .draining 1201 1000 1200 with inFlight := 1 }).legal := by
  refine ⟨fun k => ?_, by decide, by decide, by decide, by decide⟩
  match k with
  | 0 => exact ⟨by decide, by decide, by decide, by decide, by decide, by decide, by decide⟩
  | 1 => exact ⟨by decide, by decide, by decide, by decide, by decide, by decide, by decide, by decide⟩

theorem loadingPart_slotsLegal : loadingPart.slotsLegal := by
  refine ⟨fun i => ?_, fun i => ?_, by decide, ?_, by decide⟩
  · by_cases h : i = 5
    · subst h; exact loadingStream_legal
    · have : loadingPart.outStream i = OutStream.reset := by
        show (putAt _ 5 loadingStream).get i = _
        rw [get_putAt_ne _ _ h]; exact get_replicate _ i
      rw [this]; exact outStream_reset_legal
  · have : loadingPart.inStream i = InStream.reset := get_replicate _ i
    rw [this]; exact inStream_reset_legal
  · intro j hj
    have : j = job .out 5 0 := by simpa [loadingPart] using hj
    subst this
    exact ⟨rfl, by decide, by decide, by decide, by decide⟩

theorem loadingPart_counts : loadingPart.countsInFlight := by
  constructor <;>
  · intro i k
    revert i k
    decide +kernel

theorem witness_slots :
    loadingPart.slotsLegal ∧ loadingPart.countsInFlight ∧
      ∃ t, step { loadingPart with pending := [.keyRetire [0, 5, 0]] } = .next t :=
  ⟨loadingPart_slotsLegal, loadingPart_counts, _, rfl⟩

/-- That part with a PROTECT item of link 1 on lane 1. -/
def busyPart : State :=
  withLink 1 { liveLink with outList :=
      [{ dir := .out, link := 1, body := .protect { stream := 7, slot := 0, fn := 40, tagClear := false } [] [1] none
         length := 92, state := .onLane 1 }] }
    { loadingPart with lanes := putAt loadingPart.lanes 1 (.protect 1 secret 0) }

theorem busyPart_lanesLegal : busyPart.lanesLegal := by
  refine ⟨by decide, by decide, by decide, by decide, by decide, fun l => ?_, by decide⟩
  by_cases h : l = 1
  · subst h
    refine ⟨fun it hit => ?_, fun it hit => ?_⟩
    · obtain rfl := List.mem_singleton.1 hit
      exact ⟨rfl, rfl, rfl, by decide⟩
    · cases hit
  · have : busyPart.link l = Link.reset := by
      show (putAt _ 1 _).get l = _
      rw [get_putAt_ne _ _ h]; exact get_replicate _ l
    rw [this]
    exact ⟨fun it hit => (by cases hit), fun it hit => (by cases hit)⟩

theorem witness_counts :
    (loadingPart.slotsLegal ∧ loadingPart.linksLegal ∧ loadingPart.countsInFlight ∧
      ∃ t, step { loadingPart with pending := [.keyJobCompletion] } = .next t) ∧
    (busyPart.quietOutsideRunning ∧ busyPart.lanesLegal ∧
      ∃ t, step { busyPart with pending := [.laneCompletion 1] } = .next t) := by
  refine ⟨⟨loadingPart_slotsLegal, ⟨fun l => ?_, by decide⟩, loadingPart_counts, _, rfl⟩,
    ⟨fun h => absurd rfl h, fun h => by cases h⟩, busyPart_lanesLegal, _, rfl⟩
  have : loadingPart.link l = Link.reset := get_replicate _ l
  rw [this]; exact link_reset_legal

/-- A PROTECT rule that names out-stream 7, open on link 1. -/
theorem witness_rules :
    (sealing 1).rulesNameOpenStreams ∧ ((sealing 1).rules.get 2).action = .protect ∧
      ∃ t, step { sealing 1 with pending := [.ruleDrop [2]] } = .next t :=
  ⟨fun r => by revert r; decide +kernel, by decide, _, rfl⟩

/-- Two ARMED triggers that name a stream and a link. -/
theorem witness_triggers :
    let s := (rolling.setTrigger 0 (.armed (.onPulse 1) (.switch [3, 5]))).setTrigger 1 (.armed (.atTime 9) (.start 1))
    s.triggersLegal ∧ ∃ t, step { s with pending := [.pulseEdge] } = .next t := by
  refine ⟨⟨⟨by decide +kernel, ?_⟩, by decide +kernel⟩, _, rfl⟩
  intro j j' h
  revert j j'
  decide +kernel

theorem witness_statusRequests : serving.listens ∧ (inMode .starting).listens := ⟨serving_listens, rfl, rfl⟩
theorem witness_noticeRequests :
    serving.reads ∧ (∃ k : Fin 15, ([14] : List Byte) = bytesOfNat 1 k.1) ∧
      ([0x7F, 0xFF, 0x7F, 0xFF, 0] : List Byte).length = 5 ∧
      (numAt ([0x7F, 0xFF, 0x7F, 0xFF, 0] : List Byte) 0 2).testBit 15 = false ∧
      (numAt ([0x7F, 0xFF, 0x7F, 0xFF, 0] : List Byte) 2 2).testBit 15 = false ∧
      attnAsserted serving = false ∧ attnAsserted (raise .alarm .none serving) = true :=
  ⟨serving_reads, ⟨14, by decide⟩, by decide, by decide, by decide, by decide, by decide⟩
theorem witness_raising :
    (serving.notices.get NoticeKind.rekeyDue.number).enabled = true ∧
      ((after (exec (.noticeSetup [0x7F, 0xFB, 0x7B, 0xFF, 0xFF])
        serving)).notices.get NoticeKind.rekeyDue.number).enabled =
        false := by decide
theorem witness_counters :
    serving.reads ∧ (3 : Byte) = BitVec.ofNat 8 (3 : LinkNo).1 ∧ (63 : Byte) = BitVec.ofNat 8 (63 : StreamNo).1 :=
  ⟨serving_reads, by decide, by decide⟩

/-- The lowest envelope type and rotation, the highest, and each refusal. -/
theorem witness_deviceSetup :
    serving.serves ∧ (∀ l, (serving.link l).state = .off) ∧ (∃ l, (linked.link l).state ≠ .off) ∧
      numAt ([0x06, 0x00, 1] : List Byte) 0 2 = 0x0600 ∧ byteAt ([0x06, 0x00, 1] : List Byte) 2 = 1 ∧
      numAt ([0xFF, 0xFF, 7] : List Byte) 0 2 = 0xFFFF ∧ numAt ([0x81, 0x00, 7] : List Byte) 0 2 = 0x8100 ∧
      numAt ([0x05, 0xFF, 7] : List Byte) 0 2 < 0x0600 ∧ byteAt ([0x06, 0x00, 8] : List Byte) 2 = 8 :=
  ⟨serving_serves, by decide, ⟨1, by decide⟩, by decide, by decide, by decide, by decide, by decide, by decide⟩

/-- The smallest and the largest settings, and a profile of 16 stages of the longest total. -/
theorem witness_linkSettings :
    serving.serves ∧ (serving.link 0).state = .off ∧ (∀ st ∈ (serving.link 0).ramp, st.rate ≤ 1) ∧
      (let k := { Link.reset with setUp := true }
       let s := withLink 0 k serving
       let stages := List.replicate 16 { rate := 100000, duration := 625000 : Stage }
       s.serves ∧ (s.link 0).state = .off ∧ (s.link 0).setUp = true ∧ (s.link 0).settings.rate ≤ 100000 ∧
         stages.length ≤ 16 ∧ (∀ st ∈ stages, 1 ≤ st.rate ∧ st.rate ≤ (s.link 0).settings.rate ∧ 1 ≤ st.duration ∧
           st.duration ≤ 1000000) ∧ (stages.map Stage.duration).sum ≤ 10000000) :=
  ⟨serving_serves, by decide, by decide, ⟨⟨rfl, rfl⟩, rfl⟩, by decide, by decide, by decide, by decide,
    by decide, by decide⟩
/-- An OFF link, a LIVE one with a frame and without, a DRAINING one, and a stop NOW that frees a lane and empties a
DRAINING slot. -/
theorem witness_linksStartAndStop :
    (let s := withLink 1 rampLink serving
     s.serves ∧ (s.link 1).state = .off ∧ (s.link 1).setUp = true) ∧
    (let s := withLink 1 { liveLink with outQueue := [[]] } serving
     s.serves ∧ (s.link 1).state = .live ∧ (s.link 1).quiet = false) ∧
    (linked.serves ∧ (linked.link 1).state = .live ∧ (linked.link 1).quiet = true) ∧
    (let s := withLink 1 { liveLink with state := .draining } serving
     s.serves ∧ s.resetHeld = none ∧ (s.link 1).state = .draining ∧ (s.link 1).quiet = true) ∧
    (let s := withOut 7 (activeOut (outSlot .active 1 2 3) { outSlot .draining 4 2 3 with inFlight := 1 }) busyPart
     (s.link 1).state ≠ .off ∧ (∃ it ∈ (s.link 1).outList, it.state = .onLane 1) ∧
       ((s.link 1).outList.filter fun it => it.reference == some (.out, 7, 0)).length = 1) :=
  ⟨⟨⟨⟨rfl, rfl⟩, rfl⟩, by decide, by decide⟩, ⟨⟨⟨rfl, rfl⟩, rfl⟩, by decide, by decide⟩,
    ⟨⟨⟨rfl, rfl⟩, rfl⟩, by decide, by decide⟩, ⟨⟨⟨rfl, rfl⟩, rfl⟩, rfl, by decide, by decide⟩,
    by decide, ⟨_, List.mem_singleton.2 rfl, rfl⟩, by decide⟩

theorem witness_linkReads : serving.reads ∧ (inMode .alarm).reads := ⟨serving_reads, ⟨rfl, rfl⟩, Or.inr rfl⟩

/-- RULE_PUT with an aperture of the largest exponent and with none, PROTECT and DISCARD; entry 127. -/
theorem witness_rules_put :
    let s := withOut 7 { OutStream.reset with state := .opened, link := 1 } serving
    let ps : List Byte := [127, 0x02, 0x0B, 0, 0, 12, 0, 7, 1]
    let qs : List Byte := [127, 0x0F, 0x07, 0xFF, 0xFF, 0xFF, 2, 0xFF, 0xFF]
    s.serves ∧ s.reads ∧ byteAt ps 0 = (127 : RuleNo).1 ∧ ps.length = 9 ∧ byteAt ps 2 = 11 ∧ byteAt ps 5 = 12 ∧
      numAt ps 3 2 % 2 ^ byteAt ps 5 = 0 ∧ byteAt ps 7 = (7 : StreamNo).1 ∧ (s.outStream 7).state ≠ .unused ∧
      byteAt ps 1 = 2 ^ (s.outStream 7).link.1 ∧ byteAt qs 1 = 15 ∧ byteAt qs 2 / 4 ≠ 2 ∧ byteAt qs 6 = 2 ∧
      ([127] : List Byte).length = 1 ∧ byteAt [127] 0 = (127 : RuleNo).1 :=
  ⟨⟨⟨rfl, rfl⟩, rfl⟩, ⟨⟨rfl, rfl⟩, Or.inl rfl⟩, by decide, by decide, by decide, by decide, by decide,
    by decide, by decide,
    by decide, by decide, by decide, by decide, by decide, by decide⟩

/-- The largest stream id, window, grace and threshold; another open stream on the link with another id. -/
theorem witness_streamsOpen :
    let s := withIn 62 { InStream.reset with isOpen := true, streamId := 1 }
      (withOut 62 { OutStream.reset with state := .opened, streamId := 1 } serving)
    s.serves ∧ s.reads ∧ (65535 : Nat) < 65536 ∧ (64 : Nat) ≤ 64 ∧ (10000 : Nat) ≤ 10000 ∧
      (s.outStream 63).state = .unused ∧ (s.inStream 63).isOpen = false ∧
      (∀ j, j ≠ 63 → (s.outStream j).state ≠ .unused → (s.outStream j).link = 0 → (s.outStream j).streamId ≠ 65535) ∧
      (∀ j, j ≠ 63 → (s.inStream j).isOpen = true → (s.inStream j).link = 0 → (s.inStream j).streamId ≠ 65535) :=
  ⟨⟨⟨rfl, rfl⟩, rfl⟩, ⟨⟨rfl, rfl⟩, Or.inl rfl⟩, by decide, by decide, by decide, by decide, by decide,
    by decide +kernel,
    by decide +kernel⟩
theorem witness_streamsClose :
    (let s := withOut 7 (activeOut (outSlot .active 41 1000 1200) (OutSlot.empty .none)) serving
     s.serves ∧ (s.outStream 7).state ≠ .unused ∧
       (∀ r, (s.rules.get r).valid = true → (s.rules.get r).action = .protect → (s.rules.get r).stream ≠ 7) ∧
       (∀ j, s.triggers.get j = .empty) ∧
       (∀ k, (s.outSlot 7 k).inFlight = 0 ∧ (s.outSlot 7 k).state ≠ .loading ∧ (s.outSlot 7 k).state ≠ .draining) ∧
       ∃ k, (s.outSlot 7 k).state ≠ .empty) ∧
    (let s := withIn 9 (openIn 4 0 0 (InSlot.empty .none) (InSlot.empty .none)) serving
     s.serves ∧ (s.inStream 9).isOpen = true ∧
       (∀ k, (s.inSlot 9 k).inFlight = 0 ∧ (s.inSlot 9 k).state ≠ .loading ∧ (s.inSlot 9 k).state ≠ .draining) ∧
       ∀ k, (s.inSlot 9 k).state = .empty) :=
  ⟨⟨⟨⟨rfl, rfl⟩, rfl⟩, by decide, by decide +kernel, by decide, by decide, 0, by decide⟩,
    ⟨⟨⟨rfl, rfl⟩, rfl⟩, by decide, by decide, by decide⟩⟩

/-- Parameters of an outbound KEY_LOAD: FN 1, 1, 2^48 − 1, the lifetime of `tail`. -/
def loadParams (tail : List Byte) : List Byte :=
  [0, 5, 0] ++ List.replicate 68 0 ++ [0, 0, 0, 0, 0, 1, 0, 0, 0, 0, 0, 1, 0xFF, 0xFF, 0xFF, 0xFF, 0xFF, 0xFF] ++ tail

theorem witness_keyLoad :
    let s := { withIn 5 { InStream.reset with isOpen := true } (withOut 5 { OutStream.reset with state := .opened } serving)
      with kwk := some 7, keyUnit := { jobs := List.replicate 3 (job .inn 9 1), working := none } }
    let none' := loadParams (List.replicate 9 0)
    let mib := loadParams [2, 0, 0, 0, 1, 0, 0, 0, 1]
    let inn : List Byte := [1, 5, 1] ++ List.replicate 68 0 ++ [0, 0, 0, 0, 0, 1]
    s.serves ∧ s.kwk ≠ none ∧ s.keyUnit.jobs.length < 4 ∧ (s.outStream 5).state ≠ .unused ∧
      (s.outSlot 5 0).state = .empty ∧ (s.inStream 5).isOpen = true ∧ (s.inSlot 5 1).state = .empty ∧
      (none'.length, byteAt none' 0, byteAt none' 1, byteAt none' 2, byteAt none' 89) = (98, 0, 5, 0, 0) ∧
      (numAt none' 71 6, numAt none' 77 6, numAt none' 83 6) = (1, 1, 2 ^ 48 - 1) ∧
      (byteAt mib 89, numAt mib 90 4, numAt mib 94 4) = (2, 1, 1) ∧
      (inn.length, byteAt inn 0, byteAt inn 1, byteAt inn 2, numAt inn 71 6) = (77, 1, 5, 1, 1) :=
  ⟨⟨⟨rfl, rfl⟩, rfl⟩, by decide, by decide, by decide, by decide, by decide, by decide, by decide +kernel,
    by decide +kernel, by decide +kernel, by decide +kernel⟩

/-- READY, ACTIVE, LOADING with its job WORKING and LOADING with its job QUEUED, in both directions. -/
theorem witness_keyRetire :
    (let s := withOut 21 (activeOut (outSlot .active 5 9 9) (outSlot .ready 1 9 9)) serving
     s.serves ∧ (s.outStream 21).state ≠ .unused ∧ (s.outSlot 21 1).state = .ready ∧ (s.outSlot 21 0).state = .active) ∧
    (loadingPart.serves ∧ (loadingPart.outSlot 5 0).state = .loading ∧ loadingPart.keyUnit.jobs = [job .out 5 0] ∧
      loadingPart.keyUnit.working = some 0 ∧ (job .out 5 0).target = (.out, 5, 0)) ∧
    (let s := { loadingPart with keyUnit := { jobs := [job .inn 9 1] ++ job .out 5 0 :: [], working := some 0 } }
     s.serves ∧ (s.outSlot 5 0).state = .loading ∧ (∀ x ∈ [job .inn 9 1] ++ [], x.target ≠ (.out, 5, 0))) ∧
    (let s := withIn 9 (openIn 4 0 0 (inSlot .grace 1 2 0) { InSlot.empty .none with state := .loading }) serving
     s.serves ∧ (s.inStream 9).isOpen = true ∧ (s.inSlot 9 0).state.usable = true ∧ (s.inSlot 9 1).state = .loading ∧
       (job .inn 9 1).target = (.inn, 9, 1)) :=
  ⟨⟨⟨⟨rfl, rfl⟩, rfl⟩, by decide, by decide, by decide⟩, ⟨⟨⟨rfl, rfl⟩, rfl⟩, by decide, rfl, rfl, by decide⟩,
    ⟨⟨⟨rfl, rfl⟩, rfl⟩, by decide, by decide⟩, ⟨⟨⟨rfl, rfl⟩, rfl⟩, by decide, by decide, by decide, by decide⟩⟩
theorem witness_leaving :
    (serving.outSlot 0 0).inFlight = 0 ∧ (serving.inSlot 0 0).inFlight = 0 ∧ (rolling.outSlot 3 1).state = .ready ∧
      (rolling.outSlot 5 1).state ≠ .ready ∧
      ((after (exec (.outboundGrant .good) (sealing 1))).outSlot 7 0).inFlight ≠ 0 ∧
      ((after (exec (.inboundGrant .good) verifying)).inSlot 9 0).inFlight ≠ 0 := by decide
theorem witness_keySwitch :
    rolling.serves ∧ (rolling.outStream 3).state = .active 0 ∧ (rolling.outSlot 3 1).state = .ready ∧
      serving.kwk = none ∧
      (let s := withOut 21 (activeOut (outSlot .active 1 2 3) { OutSlot.empty .none with state := .loading }) serving
       s.serves ∧ (s.outStream 21).state = .active 0 ∧ (s.outSlot 21 1).state = .loading) ∧ loadingPart.kwk ≠ none :=
  ⟨⟨⟨rfl, rfl⟩, rfl⟩, by decide, by decide, rfl, ⟨⟨⟨rfl, rfl⟩, rfl⟩, by decide, by decide⟩, by decide⟩

/-- The largest seconds, no AT_TIME trigger reached, and both ends of the trim. -/
theorem witness_timeRequests :
    serving.reads ∧ (inMode .alarm).reads ∧ (4294967295 : Nat) < 2 ^ 32 ∧ (∀ j, serving.triggers.get j = .empty) ∧
      (0x81 : Byte) ≠ 0x80 ∧ (0x7F : Byte) ≠ 0x80 ∧
      (serving.setTrigger 1 (.armed (.atTime 5000) (.stopDrain 1))).triggers.get 1 =
        .armed (.atTime 5000) (.stopDrain 1) :=
  ⟨serving_reads, ⟨⟨rfl, rfl⟩, Or.inr rfl⟩, by decide, by decide, by decide, by decide, by decide⟩

/-- The three kinds, with the largest pulse count, the next second and the next number; a list of streams and a link. -/
theorem witness_triggersArm :
    let s := { rolling with time := { TimeBase.reset with seconds := 4990, valid := true } }
    s.serves ∧ s.triggers.get 7 = .empty ∧ (65535 : Nat) ≤ 65535 ∧ s.time.seconds < 4991 ∧ s.time.valid = true ∧
      (s.outStream 3).state = .active 0 ∧ (s.outSlot 3 0).nextFn - 1 < 10 ∧ (10 : Nat) ≤ Config.maxFn ∧
      ([3, 5] : List StreamNo).Nodup ∧ (∀ i ∈ ([3, 5] : List StreamNo), (s.outStream i).state ≠ .unused) ∧
      ∀ j, s.triggers.get j = .empty :=
  ⟨⟨⟨rfl, rfl⟩, rfl⟩, by decide, by decide, by decide, rfl, by decide, by decide, by decide, by decide,
    by decide, by decide⟩
theorem witness_triggersCancel :
    let s := (rolling.setTrigger 0 (.armed (.onPulse 2) (.switch [3]))).setTrigger 7
      (.faulted (.onPulse 0) (.switch [5]) 5 0x10)
    s.serves ∧ s.triggers.get 0 = .armed (.onPulse 2) (.switch [3]) ∧
      s.triggers.get 7 = .faulted (.onPulse 0) (.switch [5]) 5 0x10 ∧ s.triggers.get 3 = .empty ∧
      ([7] : List Byte) = bytesOfNat 1 (7 : TriggerNo).1 ∧ 8 ≤ byteAt [8] 0 ∧ ([] : List Byte).length ≠ 1 :=
  ⟨⟨⟨rfl, rfl⟩, rfl⟩, by decide, by decide, by decide, by decide, by decide, by decide⟩
theorem witness_triggersRead : (inMode .alarm).reads := ⟨⟨rfl, rfl⟩, Or.inr rfl⟩
theorem witness_deviceRequests :
    (∀ m, (inMode m).listens) ∧ serving.mode ≠ .starting ∧ (inMode .alarm).tamperAsserted = false ∧
      ({ inMode .alarm with tamperAsserted := true } : State).listens :=
  ⟨fun _ => ⟨rfl, rfl⟩, by decide, rfl, rfl, rfl⟩

/-- Bodies of 1 and 120 bytes, a sum that is no multiple of 256 and one that is. -/
theorem witness_recordsJudged :
    serving.listens ∧ (∀ p ∈ requestCommands, p.1 ≠ 0x7F) ∧ 1 ≤ ([0x01] : List Byte).length ∧
      (List.replicate 120 (0x01 : Byte)).length ≤ 120 ∧
      ((0x23 : Byte).toNat + 1 + (([0x01] : List Byte).map BitVec.toNat).sum + (0xDC : Byte).toNat) % 256 ≠ 0 ∧
      ((0x23 : Byte).toNat + 1 + (([0x01] : List Byte).map BitVec.toNat).sum + (0xDB : Byte).toNat) % 256 = 0 ∧
      (0x23 : Byte).toNat % 8 ≠ serving.address.toNat :=
  ⟨serving_listens, by simp [requestCommands], by decide, by simp, by decide, by decide, by decide⟩
theorem witness_lineErrors :
    (let s := serving.modLine fun ln => { ln with assembly := .len 0x20 }
     s.resetHeld = none ∧ s.line.reply = none ∧ s.line.assembly = .len 0x20 ∧ (0 : Byte).toNat = 0 ∧
       120 < (121 : Byte).toNat ∧
       s.line.assembly ≠ .hunt) ∧ serving.line.assembly = .hunt ∧
      replying.resetHeld = none ∧ replying.line.reply ≠ none ∧ replying.line.restartPending = false ∧
      (after (exec (.restart []) serving)).line.restartPending = true := by decide

/-- LEN 1 and 120, the last byte of a body and the one before, the CHECK of a POLL, one that fails, one of another part's
POLL, and one of a code that is not in Table 10-4. -/
theorem witness_bytesAssemble :
    (∀ a, (serving.modLine fun ln => { ln with assembly := a }).listens) ∧ 1 ≤ (1 : Byte).toNat ∧
      (120 : Byte).toNat ≤ 120 ∧
      120 < (121 : Byte).toNat ∧ ((0x20 : Byte).toNat + 1 + 1 + (0xDE : Byte).toNat) % 256 = 0 ∧
      (0x20 : Byte).toNat = 32 + serving.address.toNat ∧ ((0x20 : Byte).toNat + 1 + 1 + (0xDF : Byte).toNat) % 256 ≠ 0 ∧
      ((0x23 : Byte).toNat + 1 + 1 + (0xDB : Byte).toNat) % 256 = 0 ∧ (0x23 : Byte).toNat ≠ 32 + serving.address.toNat ∧
      ((0x20 : Byte).toNat + 1 + (0x7F : Byte).toNat + (0x60 : Byte).toNat) % 256 = 0 ∧
      ∀ p ∈ requestCommands, p.1 ≠ 0x7F :=
  ⟨fun _ => ⟨rfl, rfl⟩, by decide, by decide, by decide, by decide, by decide, by decide, by decide, by decide, by decide,
    by simp [requestCommands]⟩
theorem witness_resets :
    ({ serving with resetHeld := some .restart } : State).resetHeld = some .restart ∧
      ({ serving with resetHeld := some .powerOn } : State).resetHeld = some .powerOn := ⟨rfl, rfl⟩

/-- One lane and two lanes pass; the tamper mark set and clear; a record kept and one that is not valid. -/
theorem witness_selfTest :
    (inMode .starting).resetHeld = none ∧ (inMode .starting).mode = .starting ∧
      ((List.finRange 8).countP fun n => (0x80 : BitVec 8).getLsbD n.1) = 1 ∧
      ((List.finRange 8).countP fun n => (0x81 : BitVec 8).getLsbD n.1) = 2 ∧ (inMode .starting).tamperMark = false ∧
      ({ inMode .starting with tamperMark := true } : State).mode = .starting ∧
        (inMode .starting).retained.valid = false := by
  decide
theorem witness_tamper :
    (∀ m, (inMode m).tamperAsserted = false ∧ (inMode m).resetHeld = none) ∧
      ({ serving with resetHeld := some .pin } : State).resetHeld ≠ none := ⟨fun _ => ⟨rfl, rfl⟩, by decide⟩
theorem witness_alarmEntry :
    (linked.link 1).state ≠ .off ∧ (linked.link 0).state = .off ∧
      (linked.notices.get NoticeKind.linkStopped.number).enabled = true ∧
      (linked.notices.get NoticeKind.alarm.number).enabled = true := by decide

/-- Both trims at an adjusted position, an unadjusted tick that crosses the last second, and one inside a
millisecond. -/
theorem witness_ticks :
    (let s := { serving with time := { TimeBase.reset with micros := 5, trim := 3, window := 8191 } }
     s.resetHeld = none ∧ s.time.inRange ∧ (s.time.window + 1) % 1048576 % 8192 = 0 ∧
       (s.time.window + 1) % 1048576 / 8192 < s.time.trim.natAbs ∧ 0 < s.time.trim) ∧
    (let s := { serving with time := { TimeBase.reset with trim := -127, window := 1048575 } }
     s.time.inRange ∧ (s.time.window + 1) % 1048576 = 0 ∧ s.time.trim < 0) ∧
    (let s := { serving with time := { TimeBase.reset with seconds := 4294967295, micros := 999999 } }
     s.time.inRange ∧ ¬ 0 < s.time.trim.natAbs) ∧
    (after (exec .referenceTick { serving with time := { TimeBase.reset with micros := 5 } })).time.micros % 1000 ≠ 0 ∧
    ({ TimeBase.reset with micros := 999 } : TimeBase).micro.micros % 1000 = 0 ∧
    ({ TimeBase.reset with micros := 999999 } : TimeBase).micro.micros = 0 := by
  refine ⟨⟨rfl, ?_, by decide, by decide, by decide⟩, ⟨?_, by decide, by decide⟩, ⟨?_, by decide⟩, by decide,
    by decide, by decide⟩ <;>
    (unfold TimeBase.inRange; decide)

/-- The ends of the three windows of R153, no discipline, and pulse counts 1 and 2. -/
theorem witness_pulseEdges :
    serving.resetHeld = none ∧ serving.time.discipline = false ∧ (999900 : Nat) ≤ 999900 ∧ (100 : Nat) ≤ 100 ∧
      (101 : Nat) ≤ 101 ∧ (999899 : Nat) ≤ 999899 ∧ (999999 : Nat) ≤ 999999 ∧
      ({ serving with time := { TimeBase.reset with micros := 999900, discipline := true } } : State).time.discipline = true ∧
      (rolling.setTrigger 0 (.armed (.onPulse 2) (.switch [3]))).triggers.get 0 = .armed (.onPulse 2) (.switch [3]) ∧
      (rolling.setTrigger 0 (.armed (.onPulse 1) (.switch [3]))).triggers.get 0 = .armed (.onPulse 1) (.switch [3]) ∧
      ∀ j, rolling.triggers.get j = .empty := by decide
theorem witness_pacers :
    Link.reset.pacer.phase = .idle ∧ liveLink.pacer.phase = .steady ∧
      ({ rampLink with pacer := { phase := .ramp 1 2, credit := 0, rate := 1000 } } : Link).pacer.phase = .ramp 1 2 ∧
      (let s := withLink 1 { rampLink with state := .live, pacer := { phase := .ramp 2 1, credit := 0, rate := 5000 } } serving
       s.resetHeld = none ∧ (s.link 1).pacer.phase = .ramp 2 1) ∧
      (let s := withLink 1 { liveLink with pauseAsserted := true, refresh := some 99 } serving
       s.resetHeld = none ∧ (s.link 1).refresh = some 99 ∧ (s.link 1).pauseAsserted = true ∧
         (s.link 1).rack.up = true) ∧
      liveLink.refresh = none ∧ ({ liveLink with refresh := some 98 } : Link).refresh = some 98 := by decide

/-- GRACE with 1 ms left; a SECONDS lifetime one second from its limit, with the warning at the limit and before it. -/
theorem witness_expiries :
    (let s := withIn 9 (openIn 4 3 0 { inSlot .grace 1 2 0 with grace := 1 } (inSlot .active 1 2 0)) serving
     s.resetHeld = none ∧ (s.inSlot 9 0).state = .grace ∧ (s.inSlot 9 0).grace = 1) ∧
    (let sl := { outSlot .active 5 1000 1200 with lifetimeKind := .seconds, limit := 1, warning := 1 }
     let s := withOut 30 (activeOut sl (OutSlot.empty .none)) serving
     (s.outStream 30).state = .active 0 ∧ sl.lifetimeKind = .seconds ∧ sl.accrued + 1 = sl.limit ∧
       sl.rekeyRaised = false ∧ sl.warning = sl.limit) ∧
    (let sl := { outSlot .active 5 1000 1200 with lifetimeKind := .seconds, limit := 2, warning := 0, accrued := 1 }
     sl.accrued + 1 = sl.limit ∧ sl.warning ≠ sl.limit) ∧
    (let sl := { outSlot .active 5 1000 1200 with lifetimeKind := .seconds, limit := 3, warning := 2, accrued := 1 }
     sl.accrued + 1 = sl.warning ∧ sl.rekeyRaised = false ∧ sl.accrued + 1 ≠ sl.limit) ∧
    (rolling.outSlot 3 1).state = .ready ∧ (rolling.outSlot 5 1).state ≠ .ready ∧
    (rolling.outSlot 3 0).lifetimeKind ≠ .seconds := by decide

/-- The four ways a condition comes true, and every action that can be made and that cannot. -/
theorem witness_triggersFire :
    (let s := rolling.setTrigger 0 (.armed (.onPulse 1) (.switch [3, 5]))
     s.resetHeld = none ∧ s.triggers.get 0 = .armed (.onPulse 1) (.switch [3, 5]) ∧
       (s.outStream 3).state = .active 0 ∧ (s.outSlot 3 1).state = .ready ∧ (s.outStream 5).state = .active 0 ∧
       (s.outSlot 5 1).state = .empty ∧ (s.outStream 6).state = .unused ∧ [3, 5] = [3] ++ (5 : StreamNo) :: []) ∧
    (let s := withLink 1 liveLink (withLink 2 { liveLink with state := .draining } (withLink 3 rampLink
       (rolling.setTrigger 7 (.armed (.atNumber 8 10000) (.switch [3])))))
     (s.link 0).state = .off ∧ (s.link 0).setUp = false ∧ (s.link 1).state = .live ∧ (s.link 2).state = .draining ∧
       (s.link 3).state = .off ∧ (s.link 3).setUp = true ∧ ([3] : List StreamNo).Nodup) ∧
    (TriggerCond.atTime 5000).comesTrue (.secondEvent 5000) = true ∧
    (TriggerCond.atTime 5000).comesTrue (.timeSet 5000) = true ∧
    (TriggerCond.atNumber 8 10000).comesTrue (.assigned 8 10000) = true ∧
    (rolling.setTrigger 0 (.armed (.onPulse 2) (.switch [3]))).triggers.get 0 = .armed (.onPulse 2) (.switch [3]) ∧
    (FireEvent.timeSet 5000) ≠ .pulseEdge := by decide

/-- Both faces up and down in every state of a link; frames of 63 and 64 bytes; a queue with room for exactly 64 bytes,
and with one byte less. -/
theorem witness_faces :
    (serving.link 0).rack.up = false ∧ (serving.link 0).campus.up = false ∧ (linked.link 1).rack.up = true ∧
      (linked.link 1).campus.up = true ∧ serving.resetHeld = none ∧ (linked.link 1).rack.tx = .idle ∧
      ((withLink 0 { liveLink with pauseOwed := true } serving).link 0).pauseOwed = true ∧
      ((withLink 0 { liveLink with rack := { up := true, tx := .pause [], lastEnding := .none } }
        serving).link 0).rack.tx ≠
        .idle ∧ ¬ 64 ≤ (List.replicate 63 (0 : Byte)).length ∧ receivedGood goodFrame = true ∧ goodFrame.length = 64 ∧
      524288 - goodFrame.length + goodFrame.length ≤ 524288 ∧
        524288 < 524288 - goodFrame.length + 1 + goodFrame.length ∧
      384 * 1024 ≤ 384 * 1024 - goodFrame.length + goodFrame.length ∧
        384 * 1024 - goodFrame.length - 1 + goodFrame.length < 384 * 1024 :=
  ⟨by decide, by decide, by decide, by decide, rfl, by decide, by decide, by decide, by decide, goodFrame_received, rfl,
    by decide, by decide, by decide, by decide⟩

/-- A free lane with a traffic requester, with the unit's turn come, and with nothing to grant. -/
theorem witness_grants :
    nextGrant (sealing 1) = some (.traffic 1, 0) ∧ nextGrant serving = none ∧ nextGrant (inMode .alarm) = none ∧
      nextGrant { sealing 1 with keyUnit := { jobs := [job .inn 9 1], working := none },
                                 arbiter := { pointer := 0, count := 4, rotation := 4 } } = some (.keyUnit, 0) ∧
      nextGrant { sealing 1 with keyUnit := { jobs := [job .inn 9 1], working := none },
                                 arbiter := { pointer := 0, count := 3, rotation := 4 } } = some (.traffic 1, 0) ∧
      nextGrant verifying = some (.traffic 6, 0) := by decide
theorem witness_classified :
    (classify (sealing 1) 1 taggedFrame).action = .protect ∧
      (∀ j < (2 : RuleNo), ((sealing 1).rules.get j).valid = false) ∧
      (∀ j, (serving.rules.get j).valid = false) ∧ (serving.link 0).settings.defaultOut = .discard := by
  decide +kernel

/-- A queue for the outbound grant whose head the default action decides. -/
def clearing (policy : ClearPolicy) (n : Nat) : State :=
  withLink 1 { liveLink with
    settings := { LinkSettings.reset with defaultOut := policy }, outQueue := [List.replicate n 0] } serving

/-- Each decision at the grant: DISCARD, PASS_CLEAR at the campus maximum and above it, PROTECT with a key, oversize and
without a key. -/
theorem witness_outboundGrants :
    (let s := sealing 1000
     s.resetHeld = none ∧ nextGrant s = some (.traffic 1, 0) ∧ (1 : Fin 8).1 < 4 ∧
       (s.link (requesterLink 1)).outQueue = taggedFrame :: [] ∧ (classify s 1 taggedFrame).action = .protect ∧
       (classify s 1 taggedFrame).stream = 7 ∧ taggedFrame.length + 28 ≤ (s.link 1).settings.campusMax ∧
       (s.outStream 7).state = .active 0 ∧ (s.outSlot 7 0).secret = some secret) ∧
    (nextGrant (clearing .discard 64) = some (.traffic 1, 0) ∧
      (classify (clearing .discard 64) 1 (List.replicate 64 0)).action = .discard) ∧
    (nextGrant (clearing .passClear 1550) = some (.traffic 1, 0) ∧
      (classify (clearing .passClear 1550) 1 []).action = .passClear) ∧
    (let s := withLink 1 { liveLink with outQueue := [taggedFrame], settings := { LinkSettings.reset with campusMax := 95 } }
       (withOut 7 { OutStream.reset with state := .stalled, link := 1 } (serving.modRule 2 fun _ => ruleTwo))
     (classify s 1 taggedFrame).action = .protect ∧ (s.link 1).settings.campusMax < taggedFrame.length + 28 ∧
       (s.outStream 7).state = .stalled) := by
  decide +kernel

/-- Each outcome at the inbound grant: a clear frame, a bad header (FN 0, and 91 bytes), a usable slot. -/
theorem witness_inboundGrants :
    verifying.resetHeld = none ∧ nextGrant verifying = some (.traffic 6, 0) ∧ 4 ≤ (6 : Fin 8).1 ∧
      (verifying.link (requesterLink 6)).inQueue = envelopedFrame :: [] ∧ verifying.envelopeType ≠ 0x8100 ∧
      numAt envelopedFrame 12 2 = verifying.envelopeType ∧ envelopedFrame.length = 92 ∧ byteAt envelopedFrame 14 = 1 ∧
      byteAt envelopedFrame 15 = 0 ∧ numAt envelopedFrame 18 6 = 5 ∧
        (verifying.inStream 9).streamId = numAt envelopedFrame 16 2 ∧
      (verifying.inStream 9).isOpen = true ∧ (verifying.inStream 9).link = requesterLink 6 ∧
      (verifying.inSlot 9 0).state = .ready ∧ (verifying.inSlot 9 1).state = .empty ∧
      (verifying.inSlot 9 0).secret = some secret ∧ replayPasses (verifying.inSlot 9 0) 4 5 = true ∧
      replayPasses (verifying.inSlot 9 0) 4 0 = false ∧ (verifying.link 2).settings.clearIn = .discard ∧
      numAt taggedFrame 12 2 = 0x8100 ∧ numAt taggedFrame 16 2 ≠ verifying.envelopeType := by
  decide +kernel

/-- The grant to the unit with a key-wrap key and without, the WORKING job's lane, and a lane with an item of each
direction. -/
theorem witness_keyJobs :
    (let s := { serving with keyUnit := { jobs := [job .out 5 0], working := none } }
     s.resetHeld = none ∧ nextGrant s = some (.keyUnit, 0) ∧ s.kwk = none ∧
       nextGrant { s with kwk := some 7 } = some (.keyUnit, 0)) ∧
    (let s := loadingPart
     s.keyUnit.working = some 0 ∧ s.keyUnit.jobs = [job .out 5 0] ∧ s.lanes.get 0 = .job 7 ∧
       (job .out 5 0).cancelled = false ∧ ({ job .out 5 0 with cancelled := true } : Job).cancelled = true ∧
       (s.outStream 5).state = .opened) ∧
    ((after (exec (.outboundGrant .good) (sealing 1))).lanes.get 0 ≠ .free ∧
      (after (exec (.inboundGrant .good) verifying)).lanes.get 0 ≠ .free) := by
  decide +kernel

/-- A DONE head with credit 1 and with credit 0, with its face up and down; an ON_LANE head; an item of a DRAINING
slot. -/
theorem witness_outboundReleases :
    (let s := withLink 0 { liveLink with outList := [passItem .out 0 64], pacer := { phase := .steady, credit := 1, rate := 1 } }
       serving
     s.resetHeld = none ∧ (s.link 0).outList = passItem .out 0 64 :: [] ∧ (passItem .out 0 64).state = .done ∧
       (s.link 0).campus.up = true ∧ (s.link 0).campus.tx = .idle ∧ 0 < (s.link 0).pacer.credit) ∧
    (let s := withLink 0 { liveLink with outList := [passItem .out 0 64] } serving
     (s.link 0).campus.up = true ∧ ¬ 0 < (s.link 0).pacer.credit) ∧
    (let s := withLink 0 { liveLink with outList := [passItem .out 0 64], campus := Face.reset } serving
     (s.link 0).campus.up = false) ∧
    (∃ it, ((after (exec (.outboundGrant .good) (sealing 1))).link 1).outList = [it] ∧ it.state ≠ .done) :=
  ⟨by decide, by decide, by decide, _, rfl, by decide⟩

/-- A DONE head with the rack face up, with a pause owed and down; a VERIFY item that failed and one that passed. -/
theorem witness_inboundReleases :
    (let s := withLink 2 { liveLink with inList := [passItem .inn 2 64] } serving
     s.resetHeld = none ∧ (s.link 2).inList = passItem .inn 2 64 :: [] ∧ (s.link 2).rack.up = true ∧
       (s.link 2).rack.tx = .idle ∧ (s.link 2).pauseOwed = false) ∧
    ((withLink 2 { liveLink with pauseOwed := true } serving).link 2).pauseOwed = true ∧
    ((withLink 2 Link.reset serving).link 2).rack.up = false ∧
    (let s := withIn 9 (openIn 4 3 1 (inSlot .active 1 500 1) (inSlot .ready 1 0 0)) serving
     (s.inSlot 9 1).state = .ready ∧ (s.inSlot 9 0).state = .active ∧ (s.inStream 9).grace ≠ 0 ∧
       (s.inStream 9).threshold ≤ (s.inStream 9).failures + 1 ∧ replayPasses (s.inSlot 9 1) 4 1 = true ∧
       replayPasses (s.inSlot 9 0) 4 500 = false) := by decide

/-- The shortest rack frame and the longest whose envelope can be received, the ends of the numbers, and a tagged
one. -/
theorem witness_envelopes :
    (64 : Nat) ≤ (List.replicate 64 (0 : Byte)).length ∧ (List.replicate 9700 (0 : Byte)).length ≤ 9700 ∧
      (0x8C5E : Nat) ≠ 0x8100 ∧ (0x0600 : Nat) ≤ 0x0600 ∧ (0xFFFF : Nat) < 2 ^ 16 ∧ 1 ≤ Config.maxFn ∧
      frameTagged taggedFrame = true ∧ 64 ≤ taggedFrame.length ∧
      (List.replicate 48 (0 : Byte)).length = (sealPlain taggedFrame true).length ∧
      (List.replicate 52 (0 : Byte)).length = (sealPlain taggedFrame false).length :=
  ⟨by decide, by rw [List.length_replicate], by decide, by decide, by decide, by decide, by decide,
    by decide, by decide,
    by decide⟩

/-- A window of 64 and a slot as it is loaded. -/
theorem witness_replay :
    let sl := inSlot .ready 1 0 0
    (64 : Nat) ≤ 64 ∧ 1 ≤ sl.lower ∧ sl.highest = sl.lower - 1 ∧ sl.bitmap = 0 ∧ sl.highest < 1 ∧
      (0 : Nat) ≤ sl.highest := by decide

/-- A record of each request whose checks the statement lists, with a check that fails, in RUNNING and in ALARM. -/
theorem witness_checks :
    serving.serves ∧ serving.reads ∧ (inMode .alarm).reads ∧
      (lengthFits 0x40 [2, 0, 0, 0, 0, 0] = true ∧ lengthFits 0x41 [0, 64] = true ∧ lengthFits 0x44 [0, 0, 2] = true ∧
        lengthFits 0x45 [1, 0] = true ∧ lengthFits 0x30 (128 :: List.replicate 8 0) = true ∧
        lengthFits 0x20 (4 :: List.replicate 14 0) = true ∧ lengthFits 0x21 [0, 0] = true ∧
        lengthFits 0x22 [4] = true ∧ lengthFits 0x23 [0, 2] = true ∧ lengthFits 0x53 (8 :: List.replicate 10 0) = true ∧
        lengthFits 0x31 [128] = true ∧ lengthFits 0x46 (List.replicate 32 0) = true ∧ lengthFits 0x47 [] = true) ∧
      (lengthFits 0x04 [15] = true ∧ lengthFits 0x05 [0, 0, 128, 0, 0] = true ∧ lengthFits 0x06 [3, 4, 0] = true ∧
        lengthFits 0x24 [0, 2] = true ∧ lengthFits 0x32 [128] = true ∧ lengthFits 0x42 [1, 64] = true ∧
        lengthFits 0x51 [128, 0] = true ∧ lengthFits 0x56 [8] = true) ∧
      lengthFits 0x43 (1 :: List.replicate 76 0) = true ∧ loadingPart.kwk.isSome = true ∧ serving.kwk.isNone = true ∧
      firstRefusal [(false, 0x04, 0x04), (true, 0x05, 0x06), (true, 0x05, 0x07)] = some (0x05, 0x06) :=
  ⟨serving_serves, serving_reads, ⟨⟨rfl, rfl⟩, Or.inr rfl⟩, by decide, by decide, by decide +kernel, by decide,
    by decide, by decide⟩

end Sys2Proof.Tests
end

section
/-! SUPPORT. Requests that are taken in RUNNING and answered DONE, and the outbound switch (R46): what it writes and which
notices it raises. -/

namespace Sys2Proof.Machine

/-! ### Taking a request -/

/-- A check that does not fail is passed over (R183). -/
theorem checked_cons_of_passes {fails : Bool} (r : ReqRefusal) (rest : List (Bool × ReqRefusal)) (a : Answer)
    (h : fails = false) : checked ((fails, r) :: rest) a = checked rest a := by
  subst h; rfl

@[simp] theorem checked_nil (a : Answer) : checked [] a = a := rfl

@[simp] theorem lenIs_eq_true_iff (n : Nat) (ps : List Byte) : lenIs n ps = true ↔ ps.length + 1 = n := by
  simp [lenIs]

/-- A request of fitting length that the part takes in RUNNING, and that its own checks accept, is answered DONE (R180,
R181, R183). -/
theorem takeRequest_done {r : Request} {ps : List Byte} {s t : State} (hs : s.serves) (hfits : r.fits ps = true)
    (hjudge : r.judge ps s = answerDone t) : takeRequest r ps s = answersDone r.code t := by
  obtain ⟨⟨hreset, hreply⟩, hmode⟩ := hs
  have hjudged : judgement r ps s = answerDone t := by
    simp only [judgement, hfits, hmode, modeRefusal, not_true_eq_false, if_false, hjudge]
  have hanswer : answerRequest r ps s = answersDone r.code t := by
    rw [answerRequest, hjudged]; rfl
  simp only [takeRequest, recordArrives, hreset, hreply, Option.isSome_none, Bool.false_eq_true, if_false, hanswer]

/-! ### The outbound switch (R46) -/

/-- A stream that has switched from slot `a` to its other slot: what `switchStream` writes (`switchStream_outStream`). -/
def OutStream.switched (a : SlotNo) (st : OutStream) : OutStream :=
  { st with
    state := .active (otherSlot a)
    pendingSwitch := none
    slots := putAt (putAt st.slots (otherSlot a) { st.slots.get (otherSlot a) with state := .active }) a
      (st.slots.get a).left }

theorem OutStream.switched_slot_left (a : SlotNo) (st : OutStream) :
    (st.switched a).slots.get a = (st.slots.get a).left :=
  get_putAt_self _ a _

theorem OutStream.switched_slot_other (a : SlotNo) (st : OutStream) :
    (st.switched a).slots.get (otherSlot a) = { st.slots.get (otherSlot a) with state := .active } := by
  rw [OutStream.switched, get_putAt_ne _ _ (otherSlot_ne a), get_putAt_self]

/-- Leaving service writes the streams that one slot update writes; the notice is beside them. -/
theorem leaveOutSlot_outStream (i j : StreamNo) (k : SlotNo) (s : State) :
    (leaveOutSlot i k s).outStream j = (s.modOutSlot i k OutSlot.left).outStream j := by
  unfold leaveOutSlot
  dsimp only
  split
  · exact raise_outStream _ _ _ _
  · rfl

theorem switchStream_outStream (i j : StreamNo) (a : SlotNo) (s : State) :
    (switchStream i a s).outStream j = if j = i then (s.outStream i).switched a else s.outStream j := by
  unfold switchStream
  simp only [raise_outStream, leaveOutSlot_outStream, State.modOutSlot, outStream_modOut, if_true]
  by_cases h : j = i
  · simp only [h, if_true, OutStream.switched, get_putAt_ne _ _ (otherSlot_ne a).symm]
  · simp only [h, if_false]

theorem switchStream_outStream_self (i : StreamNo) (a : SlotNo) (s : State) :
    (switchStream i a s).outStream i = (s.outStream i).switched a := by
  rw [switchStream_outStream, if_pos rfl]

/-- The stream's state and pending switch do not count at the slot that leaves: it is as it was before the switch. -/
theorem outSlot_left_before_switch (i : StreamNo) (a : SlotNo) (s : State) :
    ((s.modOutSlot i (otherSlot a) fun sl => { sl with state := .active }).modOut i fun st =>
      { st with state := .active (otherSlot a), pendingSwitch := none }).outSlot i a = s.outSlot i a := by
  simp only [State.outSlot, State.modOutSlot, outStream_modOut_self, get_putAt_ne _ _ (otherSlot_ne a).symm]

/-- The switch raises SWITCHED, and SLOT_FREED where the slot left had nothing in flight (R12, R13, R46). -/
theorem switchStream_raisesExactly (i : StreamNo) (a : SlotNo) (s : State) :
    s.raisesExactly (switchStream i a s) fun n m =>
      m = .outStream i ∧ (n = .switched ∨ (n = .slotFreed ∧ (s.outSlot i a).inFlight = 0)) := by
  unfold switchStream
  dsimp only
  have hleave := leaveOutSlot_raisesExactly i a
    ((s.modOutSlot i (otherSlot a) fun sl => { sl with state := .active }).modOut i fun st =>
      { st with state := .active (otherSlot a), pendingSwitch := none })
  rw [outSlot_left_before_switch] at hleave
  -- the two record updates before the leaving keep the notice block, so `hleave` starts from that of `s`
  have hboth := State.raisesExactly_trans (s := s) hleave (raise_raisesExactly .switched (.outStream i) _)
  exact State.raisesExactly_congr hboth (by intro k m; tauto)

/-! ### The requests (R48, R49, R29, R30) -/

/-- KEY_SWITCH of a stream ACTIVE on `a`, with its other slot READY or LOADING, is accepted (R48, R49). -/
theorem exec_keySwitch_of_active {i : StreamNo} {a : SlotNo} {s : State} (hs : s.serves)
    (hactive : (s.outStream i).state = .active a)
    (hother : (s.outSlot i (otherSlot a)).state = .ready ∨ (s.outSlot i (otherSlot a)).state = .loading) :
    exec (.keySwitch ([0] ++ bytesOfNat 1 i.1)) s = .next (answersDone 0x45 (requestSwitch i a s)) := by
  have hbyte : byteAt ([0] ++ bytesOfNat 1 i.1) 1 = i.1 := by
    simpa using byteAt_after [0] [] 1 i.1 rfl (by omega)
  have hswitch : judgeSwitch i s = answerDone (requestSwitch i a s) := by
    rcases hother with h | h <;> simp only [judgeSwitch, hactive, h]
  have hjudge : reqKeySwitch.judge ([0] ++ bytesOfNat 1 i.1) s = answerDone (requestSwitch i a s) := by
    dsimp only [reqKeySwitch]
    rw [checked_cons_of_passes _ _ _ (by rfl), checked_cons_of_passes _ _ _ (by rw [hbyte]; simp), checked_nil,
      streamAt_of_byteAt hbyte, hswitch]
  exact congrArg Host.Outcome.next (takeRequest_done hs (by simp [reqKeySwitch]) hjudge)

/-- KWK_LOAD into the empty store writes the key its 32 bytes spell (R29). -/
theorem exec_kwkLoad_of_empty {s : State} (hs : s.serves) (key : BitVec 256) (hkwk : s.kwk = none) :
    exec (.kwkLoad (bytesOfBits 32 key)) s = .next (answersDone 0x46 { s with kwk := some key }) := by
  have hkey : BitVec.ofNat 256 (numAt (bytesOfBits 32 key) 0 32) = key := by
    rw [bytesOfBits, numAt_whole 32 _ key.isLt, BitVec.ofNat_toNat, BitVec.setWidth_eq]
  have hjudge : reqKwkLoad.judge (bytesOfBits 32 key) s = answerDone { s with kwk := some key } := by
    dsimp only [reqKwkLoad]
    rw [checked_cons_of_passes _ _ _ (by rw [hkwk]; rfl), checked_nil, hkey]
  exact congrArg Host.Outcome.next (takeRequest_done hs (by simp [reqKwkLoad, bytesOfBits]) hjudge)

/-- KWK_ERASE of a present key erases it (R30). -/
theorem exec_kwkErase_of_present {s : State} (hs : s.serves) (hkwk : s.kwk ≠ none) :
    exec (.kwkErase []) s = .next (answersDone 0x47 { s with kwk := none }) := by
  have hjudge : reqKwkErase.judge [] s = answerDone { s with kwk := none } := by
    dsimp only [reqKwkErase]
    rw [checked_cons_of_passes _ _ _ (by simpa [Option.isSome_iff_ne_none] using hkwk), checked_nil]
  exact congrArg Host.Outcome.next (takeRequest_done hs rfl hjudge)

/-- Settles O32: an accepted KEY_SWITCH is `requestSwitch`, which switches where the other slot is READY and sets the
pending switch where it is LOADING. -/
theorem keySwitchAndWrapKey : Obligations.KeySwitchAndWrapKey := by
  intro i a s hs
  refine ⟨fun hactive hready => ?switchNow, fun hactive hloading => ?switchLater,
    fun key hkwk => exec_kwkLoad_of_empty hs key hkwk, fun hkwk => exec_kwkErase_of_present hs hkwk⟩
  case switchNow =>
    have hswitch : requestSwitch i a s = switchStream i a s := by simp only [requestSwitch, hready]
    have hexec := exec_keySwitch_of_active hs hactive (.inl hready)
    rw [hswitch] at hexec
    refine ⟨switchStream i a s, hexec, ?frame, fun j hj => ?others, ?stream, ?otherSlot, ?leftSlot,
      switchStream_raisesExactly i a s⟩
    case frame =>
      obtain ⟨o, n, h⟩ := switchStream_touches i a s
      rw [h]
    case others => rw [switchStream_outStream, if_neg hj]
    case stream => rw [switchStream_outStream_self]; rfl
    case otherSlot => rw [State.outSlot, switchStream_outStream_self, OutStream.switched_slot_other]; rfl
    case leftSlot => rw [State.outSlot, switchStream_outStream_self, OutStream.switched_slot_left]; rfl
  case switchLater =>
    have hpending : requestSwitch i a s = s.modOut i fun st => { st with pendingSwitch := some (otherSlot a) } := by
      simp only [requestSwitch, hloading]
    rw [exec_keySwitch_of_active hs hactive (.inr hloading), hpending]

end Sys2Proof.Machine
end

section
/-! SUPPORT. Rules and the streams they name (R72): the operations that keep every rule, up to its match count, and
every open outbound stream on its link; and the requests and events as such operations. -/

namespace Sys2Proof.Machine

/-! ### What keeps rules and the streams they name -/

/-- An outbound stream that is not UNUSED stays so, on the same link. -/
def OutStream.staysOpen (st st' : OutStream) : Prop :=
  st.state ≠ .unused → st'.state ≠ .unused ∧ st'.link = st.link

theorem OutStream.staysOpen_refl (st : OutStream) : st.staysOpen st := fun h => ⟨h, rfl⟩

/-- From `s` to `t` every rule keeps all but its match count, and every open outbound stream stays open on its link.
Such a change keeps R72 (`State.keepsRuleStreams.invariant`). -/
structure State.keepsRuleStreams (s t : State) : Prop where
  rules : ∀ r, ∃ c, t.rules.get r = { s.rules.get r with matchCount := c }
  streams : ∀ i, (s.outStream i).staysOpen (t.outStream i)

namespace State.keepsRuleStreams

variable {s t u : State}

/-- A change that touches neither table. -/
theorem of_same (hr : t.rules = s.rules) (ho : t.outs = s.outs) : s.keepsRuleStreams t where
  rules r := ⟨(s.rules.get r).matchCount, by rw [hr]⟩
  streams i := by
    rw [State.outStream, State.outStream, ho]
    exact OutStream.staysOpen_refl _

theorem self (s : State) : s.keepsRuleStreams s := of_same rfl rfl

theorem trans (h : s.keepsRuleStreams t) (h' : t.keepsRuleStreams u) : s.keepsRuleStreams u where
  rules r := by
    obtain ⟨c, hc⟩ := h.rules r
    obtain ⟨c', hc'⟩ := h'.rules r
    exact ⟨c', by rw [hc', hc]⟩
  streams i hi := by
    obtain ⟨open₁, link₁⟩ := h.streams i hi
    obtain ⟨open₂, link₂⟩ := h'.streams i open₁
    exact ⟨open₂, link₂.trans link₁⟩

/-- A later change that touches neither table does not count. -/
theorem then_same (h : s.keepsRuleStreams t) (hr : u.rules = t.rules) (ho : u.outs = t.outs) : s.keepsRuleStreams u :=
  h.trans (of_same hr ho)

/-- An earlier change that touches neither table does not count. -/
theorem after_same (h : t.keepsRuleStreams u) (hr : t.rules = s.rules) (ho : t.outs = s.outs) : s.keepsRuleStreams u :=
  (of_same hr ho).trans h

theorem raised (h : s.keepsRuleStreams t) (k : NoticeKind) (m : NoticeMember) : s.keepsRuleStreams (raise k m t) :=
  h.then_same rfl rfl

/-- An update of one stream that keeps it open. -/
theorem streamUpdate {i : StreamNo} {f : OutStream → OutStream} (hf : ∀ st : OutStream, st.staysOpen (f st)) :
    s.keepsRuleStreams (s.modOut i f) where
  rules := (self s).rules
  streams j := by
    rw [outStream_modOut]
    split
    next h => rw [h]; exact hf _
    next => exact OutStream.staysOpen_refl _

/-- A slot is no part of what a rule names. -/
theorem slotUpdate (i : StreamNo) (k : SlotNo) (f : OutSlot → OutSlot) (s : State) :
    s.keepsRuleStreams (s.modOutSlot i k f) :=
  streamUpdate fun _ hopen => ⟨hopen, rfl⟩

theorem ite {c : Prop} [Decidable c] (ht : c → s.keepsRuleStreams t) (hu : ¬ c → s.keepsRuleStreams u) :
    s.keepsRuleStreams (if c then t else u) := by
  split
  next h => exact ht h
  next h => exact hu h

theorem foldl {α : Type} {f : State → α → State} (hf : ∀ (s : State) (a : α), s.keepsRuleStreams (f s a))
    (xs : List α) (s : State) : s.keepsRuleStreams (xs.foldl f s) := by
  induction xs generalizing s with
  | nil => exact self s
  | cons x xs ih => exact (hf s x).trans (ih (f s x))

theorem unlessHeld {f : State → State} (h : s.keepsRuleStreams (f s)) : s.keepsRuleStreams (unlessHeld f s) :=
  ite (fun _ => self s) (fun _ => h)

/-- R72 is kept by such a change. -/
theorem invariant (h : s.keepsRuleStreams t) (hs : s.rulesNameOpenStreams) : t.rulesNameOpenStreams := by
  intro r hvalid haction
  obtain ⟨c, hrule⟩ := h.rules r
  rw [hrule] at hvalid haction ⊢
  obtain ⟨hopen, hset⟩ := hs r hvalid haction
  obtain ⟨hopen', hlink⟩ := h.streams _ hopen
  exact ⟨hopen', by rw [hlink]; exact hset⟩

end State.keepsRuleStreams

open State.keepsRuleStreams (of_same self streamUpdate slotUpdate)

/-! ### Outbound slots and streams -/

theorem leaveOutSlot_keepsRuleStreams (i : StreamNo) (k : SlotNo) (s : State) :
    s.keepsRuleStreams (leaveOutSlot i k s) :=
  .ite (fun _ => (slotUpdate i k _ s).raised _ _) (fun _ => slotUpdate i k _ s)

theorem switchStream_keepsRuleStreams (i : StreamNo) (a : SlotNo) (s : State) :
    s.keepsRuleStreams (switchStream i a s) := by
  refine .raised (.trans ?_ (leaveOutSlot_keepsRuleStreams i a _)) _ _
  exact (slotUpdate i (otherSlot a) _ s).trans (streamUpdate fun _ _ => ⟨nofun, rfl⟩)

theorem leaveActive_keepsRuleStreams (i : StreamNo) (a : SlotNo) (s : State) :
    s.keepsRuleStreams (leaveActive i a s) := by
  refine .ite (fun _ => switchStream_keepsRuleStreams i a s) (fun _ => .raised ?_ _ _)
  exact (leaveOutSlot_keepsRuleStreams i a s).trans (streamUpdate fun _ _ => ⟨nofun, rfl⟩)

theorem requestSwitch_keepsRuleStreams (i : StreamNo) (a : SlotNo) (s : State) :
    s.keepsRuleStreams (requestSwitch i a s) := by
  unfold requestSwitch
  split
  · exact switchStream_keepsRuleStreams i a s
  · exact streamUpdate fun _ hopen => ⟨hopen, rfl⟩
  · exact self s

theorem activateSlot_keepsRuleStreams (i : StreamNo) (k : SlotNo) (s : State) :
    s.keepsRuleStreams
      ((s.modOutSlot i k fun sl => { sl with state := .active }).modOut i fun st => { st with state := .active k }) :=
  (slotUpdate i k _ s).trans (streamUpdate fun _ _ => ⟨nofun, rfl⟩)

theorem outSlotReady_keepsRuleStreams (i : StreamNo) (k : SlotNo) (s : State) :
    s.keepsRuleStreams (outSlotReady i k s) := by
  unfold outSlotReady
  split
  · exact activateSlot_keepsRuleStreams i k s
  · exact activateSlot_keepsRuleStreams i k s
  · exact .ite (fun _ => switchStream_keepsRuleStreams i _ s) (fun _ => self s)
  · exact self s

theorem outItemLeft_keepsRuleStreams (i : StreamNo) (k : SlotNo) (s : State) :
    s.keepsRuleStreams (outItemLeft i k s) :=
  .ite (fun _ => (slotUpdate i k _ s).raised _ _) (fun _ => slotUpdate i k _ s)

theorem itemLeft_keepsRuleStreams (it : Item) (s : State) : s.keepsRuleStreams (itemLeft it s) := by
  unfold itemLeft
  split
  · exact self s
  · exact outItemLeft_keepsRuleStreams _ _ s
  · obtain ⟨o, n, h⟩ := inItemLeft_touches _ _ s
    rw [h]
    exact of_same rfl rfl

theorem outStoreError_keepsRuleStreams (i : StreamNo) (a : SlotNo) (s : State) :
    s.keepsRuleStreams (outStoreError i a s) :=
  ((slotUpdate i a _ s).trans (leaveActive_keepsRuleStreams i a _)).then_same rfl rfl

/-! ### Links -/

theorem drainCheck_keepsRuleStreams (l : LinkNo) (s : State) : s.keepsRuleStreams (drainCheck l s) :=
  .ite (fun _ => of_same rfl rfl) (fun _ => self s)

theorem drainLink_keepsRuleStreams (l : LinkNo) (c : StopCause) (s : State) : s.keepsRuleStreams (drainLink l c s) :=
  .ite (fun _ => (drainCheck_keepsRuleStreams l _).after_same rfl rfl) (fun _ => self s)

theorem cancelItem_keepsRuleStreams (s : State) (it : Item) : s.keepsRuleStreams (cancelItem it s) := by
  refine .trans ?_ (itemLeft_keepsRuleStreams it _)
  unfold freeItemLane
  split
  · exact of_same rfl rfl
  · exact self s

theorem stopLinkNow_keepsRuleStreams (l : LinkNo) (c : StopCause) (s : State) :
    s.keepsRuleStreams (stopLinkNow l c s) := by
  have hflushed : ∀ x : State, s.keepsRuleStreams x → s.keepsRuleStreams (enterOff l c (x.modLink l Link.flushed)) :=
    fun x hx => hx.then_same rfl rfl
  exact .ite (fun _ => self s) (fun _ => hflushed _ (.foldl cancelItem_keepsRuleStreams _ s))

theorem noteChange_keepsRuleStreams (l : LinkNo) (side : Side) (s : State) : s.keepsRuleStreams (noteChange l side s) :=
  .ite (fun _ => of_same rfl rfl) (fun _ => self s)

/-! ### Triggers -/

theorem switchListed_keepsRuleStreams (s : State) (i : StreamNo) : s.keepsRuleStreams (switchListed s i) := by
  unfold switchListed
  split
  · exact requestSwitch_keepsRuleStreams i _ s
  · exact self s

theorem doAction_keepsRuleStreams (s : State) (a : TriggerAction) : s.keepsRuleStreams (doAction s a) := by
  cases a with
  | switch streams => exact .foldl switchListed_keepsRuleStreams streams s
  | start l => exact of_same rfl rfl
  | stopDrain l => exact drainLink_keepsRuleStreams l _ s
  | stopNow l => exact stopLinkNow_keepsRuleStreams l _ s

theorem fireTrigger_keepsRuleStreams (j : TriggerNo) (c : TriggerCond) (a : TriggerAction) (s : State) :
    s.keepsRuleStreams (fireTrigger j c a s) := by
  unfold fireTrigger
  split
  · exact of_same rfl rfl
  · exact ((doAction_keepsRuleStreams (s.setTrigger j .empty) a).raised _ _).after_same rfl rfl

theorem triggerEvent_keepsRuleStreams (e : FireEvent) (s : State) (j : TriggerNo) :
    s.keepsRuleStreams (triggerEvent e s j) := by
  unfold triggerEvent
  split
  · exact .ite (fun _ => fireTrigger_keepsRuleStreams j _ _ s) (fun _ => of_same rfl rfl)
  · exact self s

theorem triggersEvent_keepsRuleStreams (e : FireEvent) (s : State) : s.keepsRuleStreams (triggersEvent e s) :=
  .foldl (triggerEvent_keepsRuleStreams e) _ s

/-! ### Time -/

theorem milliEvent_keepsRuleStreams (s : State) : s.keepsRuleStreams (milliEvent s) := by
  obtain ⟨o, n, h⟩ := milliEvent_touches s
  rw [h]
  exact of_same rfl rfl

theorem secondAtSlot_keepsRuleStreams (i : StreamNo) (a : SlotNo) (s : State) :
    s.keepsRuleStreams (secondAtSlot i a s) := by
  have haccrue := slotUpdate i a (fun sl => { sl with accrued := sl.accrued + 1 }) s
  have hrekey := State.keepsRuleStreams.ite
    (c := ((s.modOutSlot i a fun sl => { sl with accrued := sl.accrued + 1 }).outSlot i a).rekeyDueNow = true)
    (fun _ => (haccrue.trans (slotUpdate i a (fun sl => { sl with rekeyRaised := true }) _)).raised
      .rekeyDue (.outStream i))
    (fun _ => haccrue)
  exact .ite (fun _ => hrekey.trans (leaveActive_keepsRuleStreams i a _)) (fun _ => hrekey)

theorem lifetimeTick_keepsRuleStreams (s : State) (i : StreamNo) : s.keepsRuleStreams (lifetimeTick i s) := by
  unfold lifetimeTick
  split
  · exact .ite (fun _ => secondAtSlot_keepsRuleStreams i _ s) (fun _ => self s)
  · exact self s

theorem secondEvent_keepsRuleStreams (s : State) : s.keepsRuleStreams (secondEvent s) :=
  .trans (.foldl lifetimeTick_keepsRuleStreams _ s) (triggersEvent_keepsRuleStreams _ _)

theorem microEvent_keepsRuleStreams (s : State) : s.keepsRuleStreams (microEvent s) := by
  have hcount : s.keepsRuleStreams { s with time := s.time.micro, links := mapTable Link.micro s.links } :=
    of_same rfl rfl
  have hmilli := State.keepsRuleStreams.ite (c := s.time.micro.micros % 1000 = 0)
    (fun _ => hcount.trans (milliEvent_keepsRuleStreams _)) (fun _ => hcount)
  exact .ite (fun _ => hmilli.trans (secondEvent_keepsRuleStreams _)) (fun _ => hmilli)

theorem microEvents_keepsRuleStreams (n : Nat) (s : State) : s.keepsRuleStreams (microEvents n s) := by
  induction n generalizing s with
  | zero => exact self s
  | succ n ih => exact (microEvent_keepsRuleStreams s).trans (ih _)

theorem tick_keepsRuleStreams (s : State) : s.keepsRuleStreams (tick s) :=
  (microEvents_keepsRuleStreams _ _).after_same rfl rfl

theorem disciplineEdge_keepsRuleStreams (s : State) : s.keepsRuleStreams (disciplineEdge s) := by
  refine .ite (fun _ => ?_) (fun _ => .ite (fun _ => of_same rfl rfl) (fun _ => of_same rfl rfl))
  exact ((milliEvent_keepsRuleStreams _).trans (secondEvent_keepsRuleStreams _)).after_same rfl rfl

theorem edge_keepsRuleStreams (s : State) : s.keepsRuleStreams (edge s) :=
  .trans (.ite (fun _ => disciplineEdge_keepsRuleStreams s) (fun _ => self s)) (triggersEvent_keepsRuleStreams _ _)

/-! ### The key preparation unit -/

theorem emptyLoading_keepsRuleStreams (j : Job) (r : LoadResult) (s : State) :
    s.keepsRuleStreams (emptyLoading j r s) := by
  unfold emptyLoading
  split
  · exact slotUpdate _ _ _ s
  · exact of_same rfl rfl

theorem dropPending_keepsRuleStreams (j : Job) (s : State) : s.keepsRuleStreams (dropPending j s) := by
  unfold dropPending
  split
  · exact streamUpdate fun _ hopen => ⟨hopen, rfl⟩
  · exact self s

theorem installLoad_keepsRuleStreams (j : Job) (x : Secret) (s : State) : s.keepsRuleStreams (installLoad j x s) := by
  unfold installLoad
  split
  · exact .trans ((slotUpdate _ _ _ s).raised _ _) (outSlotReady_keepsRuleStreams _ _ _)
  · exact of_same rfl rfl

theorem endJob_keepsRuleStreams (j : Job) (r : LoadResult) (x : Option Secret) (s : State) :
    s.keepsRuleStreams (endJob j r x s) := by
  have hdropped : ∀ r, s.keepsRuleStreams (dropPending j (emptyLoading j r s)) := fun r =>
    (emptyLoading_keepsRuleStreams j r s).trans (dropPending_keepsRuleStreams j _)
  unfold endJob
  split
  · exact installLoad_keepsRuleStreams j _ s
  · exact hdropped .cancelled
  · exact (hdropped _).raised _ _

theorem removeHeadJob_keepsRuleStreams (s : State) : s.keepsRuleStreams (removeHeadJob s) := by
  obtain ⟨u, a, h⟩ := removeHeadJob_touches s
  rw [h]
  exact of_same rfl rfl

theorem grantKeyUnit_keepsRuleStreams (n : LaneNo) (s : State) : s.keepsRuleStreams (grantKeyUnit n s) := by
  unfold grantKeyUnit
  split
  · exact self s
  · split
    · exact of_same rfl rfl
    · exact (endJob_keepsRuleStreams _ _ _ s).trans (removeHeadJob_keepsRuleStreams _)

theorem completeJob_keepsRuleStreams (n : LaneNo) (j : Job) (s : State) : s.keepsRuleStreams (completeJob n j s) := by
  unfold completeJob
  split
  · exact ((endJob_keepsRuleStreams j _ _ (s.setLane n .free)).trans (removeHeadJob_keepsRuleStreams _)).after_same
      rfl rfl
  · exact self s

/-! ### Grants and releases -/

/-- Counting a match changes the match count of one rule (R60). -/
theorem countMatch_keepsRuleStreams (l : LinkNo) (f : Frame) (s : State) : s.keepsRuleStreams (countMatch l f s) := by
  unfold countMatch
  split
  · refine ⟨fun r => ?_, (self s).streams⟩
    rw [State.modRule_rules, get_putAt]
    split
    next h => exact ⟨_, by rw [h]⟩
    next => exact (self s).rules r
  · exact self s

theorem assignNumber_keepsRuleStreams (l : LinkNo) (n : LaneNo) (i : StreamNo) (a : SlotNo) (f : Frame) (tc : Bool)
    (s : State) : s.keepsRuleStreams (assignNumber l n i a f tc s) := by
  unfold assignNumber
  refine .trans ?_ (streamUpdate fun _ hopen => ⟨hopen, rfl⟩)
  exact .after_same (slotUpdate i a _ _) rfl rfl

theorem assignRekey_keepsRuleStreams (i : StreamNo) (a : SlotNo) (p : Nat) (s : State) :
    s.keepsRuleStreams (assignRekey i a p s) :=
  .ite (fun _ => (slotUpdate i a _ s).raised _ _) (fun _ => self s)

theorem assignEnd_keepsRuleStreams (i : StreamNo) (a : SlotNo) (p : Nat) (s : State) :
    s.keepsRuleStreams (assignEnd i a p s) :=
  .ite (fun _ => leaveActive_keepsRuleStreams i a s) (fun _ => self s)

theorem assignAutoSwitch_keepsRuleStreams (i : StreamNo) (a : SlotNo) (p : Nat) (s : State) :
    s.keepsRuleStreams (assignAutoSwitch i a p s) :=
  .ite (fun _ => switchStream_keepsRuleStreams i a s) (fun _ => self s)

theorem assign_keepsRuleStreams (l : LinkNo) (n : LaneNo) (i : StreamNo) (a : SlotNo) (f : Frame) (tc : Bool)
    (s : State) : s.keepsRuleStreams (assign l n i a f tc s) :=
  (assignNumber_keepsRuleStreams l n i a f tc s).trans <|
    (assignRekey_keepsRuleStreams i a _ _).trans <|
      (assignEnd_keepsRuleStreams i a _ _).trans <|
        (assignAutoSwitch_keepsRuleStreams i a _ _).trans (triggersEvent_keepsRuleStreams _ _)

theorem noteCorrection_keepsRuleStreams (read : KeyRead) (s : State) : s.keepsRuleStreams (noteCorrection read s) :=
  .ite (fun _ => of_same rfl rfl) (fun _ => self s)

theorem disposeOut_keepsRuleStreams (l : LinkNo) (n : LaneNo) (read : KeyRead) (f : Frame) (d : Decision) (s : State) :
    s.keepsRuleStreams (disposeOut l n read f d s) := by
  unfold disposeOut
  split
  · exact of_same rfl rfl
  · exact .ite (fun _ => of_same rfl rfl) (fun _ => of_same rfl rfl)
  · refine .ite (fun _ => of_same rfl rfl) (fun _ => ?_)
    split
    · exact .ite (fun _ => outStoreError_keepsRuleStreams _ _ s)
        (fun _ => (noteCorrection_keepsRuleStreams read s).trans (assign_keepsRuleStreams _ _ _ _ _ _ _))
    · exact streamUpdate fun _ hopen => ⟨hopen, rfl⟩

theorem grantOutbound_keepsRuleStreams (l : LinkNo) (n : LaneNo) (read : KeyRead) (s : State) :
    s.keepsRuleStreams (grantOutbound l n read s) := by
  unfold grantOutbound
  split
  · exact self s
  next f _ _ =>
    have hdisposed := (countMatch_keepsRuleStreams l f (s.modLink l Link.dropOutHead)).trans
      (disposeOut_keepsRuleStreams l n read f (classify s l f) _)
    exact (hdisposed.trans (drainCheck_keepsRuleStreams l _)).after_same rfl rfl

theorem releaseOutbound_keepsRuleStreams (l : LinkNo) (s : State) : s.keepsRuleStreams (releaseOutbound l s) := by
  have hleft : ∀ (it : Item) (g : Link → Link), s.keepsRuleStreams (drainCheck l (itemLeft it (s.modLink l g))) :=
    fun it g => ((itemLeft_keepsRuleStreams it (s.modLink l g)).trans (drainCheck_keepsRuleStreams l _)).after_same
      rfl rfl
  unfold releaseOutbound
  split
  · exact self s
  · exact .ite (fun _ => .ite (fun _ => hleft _ _) (fun _ => .ite (fun _ => self s) (fun _ => hleft _ _)))
      (fun _ => self s)

theorem examineStream_keepsRuleStreams (l : LinkNo) (n : LaneNo) (read : KeyRead) (i : StreamNo) (p : Parsed)
    (f : Frame) (s : State) : s.keepsRuleStreams (examineStream l n read i p f s) := by
  have hcorrected := noteCorrection_keepsRuleStreams read s
  refine .ite (fun _ => of_same rfl rfl) fun _ => .ite (fun _ => ?storeError) fun _ =>
    .ite (fun _ => hcorrected.then_same rfl rfl) (fun _ => hcorrected.then_same rfl rfl)
  case storeError =>
    obtain ⟨o, nt, d, e, h⟩ := inStoreError_touches i p.phase s
    rw [h]
    exact of_same rfl rfl

theorem examineIn_keepsRuleStreams (l : LinkNo) (n : LaneNo) (read : KeyRead) (f : Frame) (s : State) :
    s.keepsRuleStreams (examineIn l n read f s) := by
  unfold examineIn
  split
  · exact .ite (fun _ => of_same rfl rfl) (fun _ => of_same rfl rfl)
  · split
    · exact of_same rfl rfl
    · split
      · exact of_same rfl rfl
      · exact examineStream_keepsRuleStreams l n read _ _ f s

theorem grantInbound_keepsRuleStreams (l : LinkNo) (n : LaneNo) (read : KeyRead) (s : State) :
    s.keepsRuleStreams (grantInbound l n read s) := by
  unfold grantInbound
  split
  · exact self s
  · exact .after_same ((examineIn_keepsRuleStreams l n read _ _).trans (drainCheck_keepsRuleStreams l _)) rfl rfl

theorem sendToGrace_keepsRuleStreams (i : StreamNo) (k : SlotNo) (s : State) :
    s.keepsRuleStreams (sendToGrace i k s) := by
  refine .ite (fun _ => ?_) (fun _ => of_same rfl rfl)
  obtain ⟨o, n, h⟩ := leaveInSlot_touches i k s
  rw [h]
  exact of_same rfl rfl

theorem flipSelector_keepsRuleStreams (i : StreamNo) (k : SlotNo) (s : State) :
    s.keepsRuleStreams (flipSelector i k s) := by
  have hactive : s.keepsRuleStreams (s.modInSlot i k fun sl => { sl with state := .active }) := of_same rfl rfl
  exact .ite (fun _ => (hactive.trans (sendToGrace_keepsRuleStreams i _ _)).raised _ _) (fun _ => hactive)

theorem deliver_keepsRuleStreams (l : LinkNo) (ref : KeyRef) (frame : Frame) (s : State) :
    s.keepsRuleStreams (deliver l ref frame s) :=
  .ite (fun _ => .after_same (flipSelector_keepsRuleStreams _ _ _) rfl rfl) (fun _ => of_same rfl rfl)

theorem countIntegrityFailure_keepsRuleStreams (i : StreamNo) (s : State) :
    s.keepsRuleStreams (countIntegrityFailure i s) :=
  .ite (fun _ => of_same rfl rfl) fun _ => .ite (fun _ => of_same rfl rfl) (fun _ => of_same rfl rfl)

theorem judgeHead_keepsRuleStreams (l : LinkNo) (it : Item) (s : State) : s.keepsRuleStreams (judgeHead l it s) := by
  unfold judgeHead
  split
  · exact of_same rfl rfl
  · unfold judgeVerify
    split
    · exact .ite (fun _ => deliver_keepsRuleStreams _ _ _ s) (fun _ => of_same rfl rfl)
    · exact countIntegrityFailure_keepsRuleStreams _ s
  · exact self s

theorem releaseInbound_keepsRuleStreams (l : LinkNo) (s : State) : s.keepsRuleStreams (releaseInbound l s) := by
  have hleft : ∀ (it : Item) (x : State), x.keepsRuleStreams (drainCheck l (itemLeft it x)) := fun it x =>
    (itemLeft_keepsRuleStreams it x).trans (drainCheck_keepsRuleStreams l _)
  unfold releaseInbound
  split
  · exact self s
  · refine .ite (fun _ => .ite (fun _ => ?delivered) (fun _ => .ite (fun _ => self s) (fun _ => ?discarded)))
      (fun _ => self s)
    case delivered => exact .after_same ((judgeHead_keepsRuleStreams l _ _).trans (hleft _ _)) rfl rfl
    case discarded => exact .after_same (hleft _ _) rfl rfl

/-! ### ALARM, the self-test and resets -/

/-- At ALARM entry a stream that was ACTIVE or STALLED is OPEN, and its link stays (R32). -/
theorem OutStream.staysOpen_alarmed (st : OutStream) : st.staysOpen st.alarmed := by
  intro hopen
  exact ⟨by simp only [OutStream.alarmed, hopen, if_false]; nofun, rfl⟩

theorem raiseLinksStopped_keepsRuleStreams (before s : State) : s.keepsRuleStreams (raiseLinksStopped before s) :=
  .foldl (fun s _ => .ite (fun _ => self s) (fun _ => (self s).raised _ _)) _ s

theorem alarmEntry_keepsRuleStreams (cause : AlarmCause) (s : State) : s.keepsRuleStreams (alarmEntry cause s) := by
  have hstreams : s.keepsRuleStreams { s with outs := mapTable OutStream.alarmed s.outs } := by
    refine ⟨(self s).rules, fun i => ?_⟩
    simp only [State.outStream, get_mapTable]
    exact OutStream.staysOpen_alarmed _
  refine .raised (.trans ?_ (raiseLinksStopped_keepsRuleStreams s _)) _ _
  exact hstreams.then_same rfl rfl

theorem completeSelfTest_keepsRuleStreams (passed : BitVec 8) (s : State) :
    s.keepsRuleStreams (completeSelfTest passed s) := by
  unfold completeSelfTest
  extract_lets few pool noticed
  have hnoticed : s.keepsRuleStreams noticed := .ite (fun _ => of_same rfl rfl) (fun _ => of_same rfl rfl)
  exact .ite (fun _ => hnoticed.then_same rfl rfl) fun _ =>
    .ite (fun _ => hnoticed.trans (alarmEntry_keepsRuleStreams _ _)) (fun _ => hnoticed.then_same rfl rfl)

theorem tamperByMode_keepsRuleStreams (s : State) : s.keepsRuleStreams (tamperByMode s) := by
  unfold tamperByMode
  split
  · exact of_same rfl rfl
  · exact alarmEntry_keepsRuleStreams _ s
  · exact self s
  · exact self s

/-- A reset leaves no valid rule (R166). -/
theorem released_rulesNameOpenStreams (kind : ResetKind) (address : BitVec 3) (rateHigh : Bool) (s : State) :
    (released kind address rateHigh s).rulesNameOpenStreams := by
  intro r hvalid
  have hempty : (released kind address rateHigh s).rules.get r = Rule.empty := get_replicate _ r
  rw [hempty] at hvalid
  cases hvalid

/-! ### Requests -/

/-- An answer that does not refuse leaves a state that keeps R72. -/
def answerKeepsRules (s : State) (a : Answer) : Prop :=
  ∀ content t, a = .ok (content, t) → s.rulesNameOpenStreams → t.rulesNameOpenStreams

theorem answerKeepsRules_ok {s t : State} (content : Option ReplyContent) (h : s.keepsRuleStreams t) :
    answerKeepsRules s (.ok (content, t)) := by
  rintro _ _ ⟨⟩ hs
  exact h.invariant hs

theorem answerKeepsRules_done {s t : State} (h : s.keepsRuleStreams t) : answerKeepsRules s (answerDone t) :=
  answerKeepsRules_ok none h

theorem answerKeepsRules_data {s t : State} (data : List Byte) (h : s.keepsRuleStreams t) :
    answerKeepsRules s (answerBytes data t) :=
  answerKeepsRules_ok _ h

theorem answerKeepsRules_refuse (s : State) (r : ReqRefusal) : answerKeepsRules s (refuse r) :=
  fun _ _ h => nomatch h

/-- An answer behind checks counts only where every check passes (R183). -/
theorem answerKeepsRules_of_passes {s : State} {checks : List (Bool × ReqRefusal)} {a : Answer}
    (h : firstFailing checks = none → answerKeepsRules s a) : answerKeepsRules s (checked checks a) := by
  unfold checked
  split
  · exact answerKeepsRules_refuse s _
  next hpass => exact h hpass

theorem answerKeepsRules_checked {s : State} {checks : List (Bool × ReqRefusal)} {a : Answer}
    (h : answerKeepsRules s a) : answerKeepsRules s (checked checks a) :=
  answerKeepsRules_of_passes fun _ => h

/-- A list of checks passes where its first check and the rest of it pass. -/
theorem firstFailing_cons_eq_none_iff {fails : Bool} {r : ReqRefusal} {rest : List (Bool × ReqRefusal)} :
    firstFailing ((fails, r) :: rest) = none ↔ fails = false ∧ firstFailing rest = none := by
  cases fails <;> simp [firstFailing]

/-- No valid PROTECT rule names the stream, rule by rule (R6 check 2). -/
theorem ruleNames_eq_false_iff {s : State} {i : StreamNo} :
    ruleNames s i = false ↔
      ∀ r, (s.rules.get r).valid = true → (s.rules.get r).action = .protect → (s.rules.get r).stream ≠ i := by
  simp only [ruleNames, List.any_eq_false, mem_toList_iff]
  constructor
  · intro h r hvalid haction hstream
    exact h _ ⟨r, rfl⟩ (by simp [hvalid, haction, hstream])
  · rintro h _ ⟨r, rfl⟩ hnames
    simp only [Bool.and_eq_true, decide_eq_true_eq] at hnames
    obtain ⟨⟨hvalid, haction⟩, hstream⟩ := hnames
    exact h r hvalid haction hstream

/-- A change of one stream that no valid PROTECT rule names keeps R72. -/
theorem modOut_rulesNameOpenStreams {s : State} {i : StreamNo} (f : OutStream → OutStream)
    (hnamed : ∀ r, (s.rules.get r).valid = true → (s.rules.get r).action = .protect → (s.rules.get r).stream ≠ i)
    (hs : s.rulesNameOpenStreams) : (s.modOut i f).rulesNameOpenStreams := by
  intro r hvalid haction
  rw [State.modOut_rules] at hvalid haction ⊢
  rw [outStream_modOut, if_neg (hnamed r hvalid haction)]
  exact hs r hvalid haction

/-- A rule written keeps R72 where it names, if it is a valid PROTECT rule, an open stream of its link. -/
theorem modRule_rulesNameOpenStreams {s : State} (i : RuleNo) (x : Rule)
    (hx : x.valid = true → x.action = .protect →
      (s.outStream x.stream).state ≠ .unused ∧ x.linkSet = BitVec.ofNat 4 (2 ^ (s.outStream x.stream).link.1))
    (hs : s.rulesNameOpenStreams) : (s.modRule i fun _ => x).rulesNameOpenStreams := by
  intro r
  rw [State.modRule_rules, get_putAt]
  split
  · exact hx
  · exact hs r

/-- STREAM_OPEN opens a stream that was UNUSED, which no rule can name (R4 check 7). -/
theorem streamOpen_keepsRules (ps : List Byte) (s : State) :
    answerKeepsRules s (checked (streamOpenChecks ps s) (answerDone (openStream ps s))) := by
  refine answerKeepsRules_of_passes fun hpass => ?_
  simp only [streamOpenChecks, firstFailing_cons_eq_none_iff] at hpass
  obtain ⟨-, -, -, -, -, -, hunused, -⟩ := hpass
  rintro _ _ ⟨⟩ hs
  unfold openStream
  split
  next hdir =>
    simp only [hdir, streamUnused, Bool.not_eq_eq_eq_not, Bool.not_false, decide_eq_true_eq] at hunused
    refine modOut_rulesNameOpenStreams _ (fun r hvalid haction hnamed => ?_) hs
    obtain ⟨hopen, -⟩ := hs r hvalid haction
    exact hopen (hnamed ▸ hunused)
  next => exact (of_same rfl rfl : s.keepsRuleStreams _).invariant hs

/-- STREAM_CLOSE closes no stream that a valid PROTECT rule names (R6 check 2). -/
theorem streamClose_keepsRules (ps : List Byte) (s : State) :
    answerKeepsRules s
      (checked (streamCloseChecks ps s) (answerDone (closeStream (dirAt ps 0) (streamAt ps 1) s))) := by
  refine answerKeepsRules_of_passes fun hpass => ?_
  simp only [streamCloseChecks, firstFailing_cons_eq_none_iff] at hpass
  obtain ⟨-, -, -, hnames, -⟩ := hpass
  rintro _ _ ⟨⟩ hs
  have hraised : ∀ (c : Prop) [Decidable c] (m : NoticeMember) (x : State),
      x.keepsRuleStreams (if c then raise .slotFreed m x else x) := fun c _ m x =>
    .ite (fun _ => (self x).raised _ _) (fun _ => self x)
  cases hdir : dirAt ps 0 with
  | out =>
    simp only [hdir, decide_true, Bool.true_and] at hnames
    exact (hraised _ _ _).invariant (modOut_rulesNameOpenStreams _ (ruleNames_eq_false_iff.1 hnames) hs)
  | inn =>
    exact ((hraised _ _ _).after_same rfl rfl).invariant hs

/-- RULE_PUT of a PROTECT rule names an open stream and that stream's link alone (R68 checks 6 and 7). -/
theorem rulePut_keepsRules (ps : List Byte) (s : State) :
    answerKeepsRules s
      (checked (rulePutChecks ps s) (answerDone (s.modRule (ruleAt ps 0) fun _ => ruleOf ps))) := by
  refine answerKeepsRules_of_passes fun hpass => ?_
  simp only [rulePutChecks, firstFailing_cons_eq_none_iff] at hpass
  obtain ⟨-, -, -, -, -, hopen, hset, -⟩ := hpass
  rintro _ _ ⟨⟩ hs
  refine modRule_rulesNameOpenStreams _ _ (fun _ haction => ?_) hs
  have hprotect : byteAt ps 6 = 0 := by
    by_contra h
    simp only [ruleOf, ruleActionOf, h, if_false] at haction
    split at haction <;> cases haction
  have hstream : (ruleOf ps).stream = streamAt ps 7 := by simp [ruleOf, ruleActionOf, hprotect]
  simp only [hprotect, decide_true, Bool.true_and, decide_eq_false_iff_not, ne_eq, not_not] at hopen hset
  rw [hstream]
  exact ⟨hopen, by rw [← hset]; rfl⟩

theorem ruleDrop_keepsRules (ps : List Byte) (s : State) (checks : List (Bool × ReqRefusal)) :
    answerKeepsRules s (checked checks (answerDone (s.modRule (ruleAt ps 0) fun _ => Rule.empty))) := by
  refine answerKeepsRules_checked ?_
  rintro _ _ ⟨⟩ hs
  exact modRule_rulesNameOpenStreams _ _ nofun hs

theorem zeroScope_keepsRuleStreams (scope : Nat) (l : LinkNo) (i : StreamNo) (s : State) :
    s.keepsRuleStreams (zeroScope scope l i s) := by
  unfold zeroScope
  split
  · exact of_same rfl rfl
  · exact of_same rfl rfl
  · exact of_same rfl rfl
  · exact of_same rfl rfl
  · exact streamUpdate fun _ hopen => ⟨hopen, rfl⟩
  · exact of_same rfl rfl

theorem zeroizeEffect_keepsRuleStreams (s : State) : s.keepsRuleStreams (zeroizeEffect s) :=
  .ite (fun _ => alarmEntry_keepsRuleStreams _ s) (fun _ => of_same rfl rfl)

theorem stopLink_keepsRuleStreams (l : LinkNo) (action : Nat) (s : State) : s.keepsRuleStreams (stopLink l action s) :=
  .ite (fun _ => drainLink_keepsRuleStreams l _ s) (fun _ => stopLinkNow_keepsRuleStreams l _ s)

theorem startLoad_keepsRuleStreams (j : Job) (s : State) : s.keepsRuleStreams (beginLoading j (appendJob j s)) := by
  have happend : s.keepsRuleStreams (appendJob j s) := .ite (fun _ => of_same rfl rfl) (fun _ => of_same rfl rfl)
  refine happend.trans ?_
  unfold beginLoading
  split
  · exact slotUpdate _ _ _ _
  · exact of_same rfl rfl

theorem removeJob_keepsRuleStreams (d : Dir) (i : StreamNo) (k : SlotNo) (s : State) :
    s.keepsRuleStreams (removeJob d i k s) :=
  .ite (fun _ => of_same rfl rfl) (fun _ => of_same rfl rfl)

theorem cancelOutLoad_keepsRuleStreams (i : StreamNo) (k : SlotNo) (s : State) :
    s.keepsRuleStreams (cancelOutLoad i k s) := by
  unfold cancelOutLoad clearPendingTo
  refine .trans ?_ (streamUpdate fun _ hopen => ⟨hopen, rfl⟩)
  exact .ite (fun _ => of_same rfl rfl) (fun _ => (removeJob_keepsRuleStreams _ i k s).trans (slotUpdate i k _ _))

theorem retireKey_keepsRuleStreams (d : Dir) (i : StreamNo) (k : SlotNo) (s : State) :
    s.keepsRuleStreams (retireKey d i k s) := by
  have hleft : s.keepsRuleStreams (leaveInSlot i k s) := by
    obtain ⟨o, n, h⟩ := leaveInSlot_touches i k s
    rw [h]
    exact of_same rfl rfl
  cases d with
  | out =>
    simp only [retireKey, retireOut]
    split
    · exact cancelOutLoad_keepsRuleStreams i k s
    · exact leaveOutSlot_keepsRuleStreams i k s
    · exact leaveActive_keepsRuleStreams i k s
    · exact self s
    · exact self s
  | inn =>
    simp only [retireKey, retireIn]
    split
    · exact .ite (fun _ => of_same rfl rfl) (fun _ => (removeJob_keepsRuleStreams _ i k s).then_same rfl rfl)
    · exact hleft
    · exact hleft
    · exact hleft
    · exact self s
    · exact self s

theorem judgeSwitch_keepsRules (i : StreamNo) (s : State) : answerKeepsRules s (judgeSwitch i s) := by
  have hrequested : ∀ a, answerKeepsRules s (answerDone (requestSwitch i a s)) := fun a =>
    answerKeepsRules_done (requestSwitch_keepsRuleStreams i a s)
  unfold judgeSwitch
  split
  · exact answerKeepsRules_refuse s _
  · exact answerKeepsRules_refuse s _
  · exact answerKeepsRules_refuse s _
  · split
    · exact hrequested _
    · exact hrequested _
    · exact answerKeepsRules_refuse s _

/-- Every request of Table 10-4 that is not refused keeps R72. -/
theorem requestTable_keepsRules : ∀ r ∈ requestTable, ∀ ps s, answerKeepsRules s (r.judge ps s) := by
  have hread : ∀ data s, answerKeepsRules s (answerBytes data s) := fun data s => answerKeepsRules_data data (self s)
  have hsame : ∀ s t, t.rules = s.rules → t.outs = s.outs → answerKeepsRules s (answerDone t) := fun s t hr ho =>
    answerKeepsRules_done (of_same hr ho)
  simp only [requestTable, List.forall_mem_append, List.forall_mem_cons]
  refine ⟨⟨⟨⟨⟨⟨?poll, ?identify, ?readStatus, ?readNotices, ?noticeSetup, ?readCounters, ?deviceSetup, nofun⟩,
    ?linkSetup, ?rampSet, ?linkStart, ?linkStop, ?readLink, ?readLinkChanges, nofun⟩,
    ?rulePut, ?ruleDrop, ?readRule, nofun⟩,
    ?streamOpen, ?streamClose, ?readStream, ?keyLoad, ?keyRetire, ?keySwitch, ?kwkLoad, ?kwkErase, nofun⟩,
    ?timeSet, ?timeTrim, ?timeRead, ?triggerArm, ?triggerCancel, ?triggerRelease, ?readTrigger, nofun⟩,
    ?restart, ?zeroize, ?alarmClear, ?readRetained, nofun⟩
  all_goals intro ps s
  case poll => exact hread _ s
  case identify => exact hread _ s
  case readStatus => exact answerKeepsRules_data _ (of_same rfl rfl)
  case readNotices => exact answerKeepsRules_checked (answerKeepsRules_data _ (of_same rfl rfl))
  case noticeSetup => exact answerKeepsRules_checked (hsame _ _ rfl rfl)
  case readCounters =>
    exact answerKeepsRules_checked
      (answerKeepsRules_data _ (.ite (fun _ => self s) (fun _ => zeroScope_keepsRuleStreams _ _ _ s)))
  case deviceSetup => exact answerKeepsRules_checked (hsame _ _ rfl rfl)
  case linkSetup => exact answerKeepsRules_checked (hsame _ _ rfl rfl)
  case rampSet => exact answerKeepsRules_checked (hsame _ _ rfl rfl)
  case linkStart => exact answerKeepsRules_checked (hsame _ _ rfl rfl)
  case linkStop => exact answerKeepsRules_checked (answerKeepsRules_done (stopLink_keepsRuleStreams _ _ s))
  case readLink => exact answerKeepsRules_checked (hread _ s)
  case readLinkChanges => exact answerKeepsRules_data _ (of_same rfl rfl)
  case rulePut => exact rulePut_keepsRules ps s
  case ruleDrop => exact ruleDrop_keepsRules ps s _
  case readRule => exact answerKeepsRules_checked (hread _ s)
  case streamOpen => exact streamOpen_keepsRules ps s
  case streamClose => exact streamClose_keepsRules ps s
  case readStream => exact answerKeepsRules_checked (answerKeepsRules_ok _ (self s))
  case keyLoad => exact answerKeepsRules_checked (answerKeepsRules_done (startLoad_keepsRuleStreams _ s))
  case keyRetire => exact answerKeepsRules_checked (answerKeepsRules_done (retireKey_keepsRuleStreams _ _ _ s))
  case keySwitch => exact answerKeepsRules_checked (judgeSwitch_keepsRules _ s)
  case kwkLoad => exact answerKeepsRules_checked (hsame _ _ rfl rfl)
  case kwkErase => exact answerKeepsRules_checked (hsame _ _ rfl rfl)
  case timeSet => exact answerKeepsRules_done (.after_same (triggersEvent_keepsRuleStreams _ _) rfl rfl)
  case timeTrim => exact answerKeepsRules_checked (hsame _ _ rfl rfl)
  case timeRead => exact hread _ s
  case triggerArm => exact answerKeepsRules_checked (hsame _ _ rfl rfl)
  case triggerCancel => exact answerKeepsRules_checked (hsame _ _ rfl rfl)
  case triggerRelease => exact answerKeepsRules_checked (hsame _ _ rfl rfl)
  case readTrigger => exact answerKeepsRules_checked (hread _ s)
  case restart => exact hsame _ _ rfl rfl
  case zeroize => exact answerKeepsRules_done (zeroizeEffect_keepsRuleStreams s)
  case alarmClear => exact answerKeepsRules_checked (hsame _ _ rfl rfl)
  case readRetained => exact hread _ s

/-- The reply and the assembly are beside the rules and the streams. -/
theorem modLine_keepsRuleStreams (f : Line → Line) (s : State) : s.keepsRuleStreams (s.modLine f) := of_same rfl rfl

theorem answerRequest_rulesNameOpenStreams {r : Request} (hr : r ∈ requestTable) (ps : List Byte) {s : State}
    (hs : s.rulesNameOpenStreams) : (answerRequest r ps s).rulesNameOpenStreams := by
  have hjudged : answerKeepsRules s (judgement r ps s) := by
    unfold judgement
    split
    · exact answerKeepsRules_refuse s _
    · split
      · exact answerKeepsRules_refuse s _
      · exact requestTable_keepsRules r hr ps s
  unfold answerRequest
  split
  · exact (modLine_keepsRuleStreams _ s).invariant hs
  next content t hanswer => exact (modLine_keepsRuleStreams _ t).invariant (hjudged content t hanswer hs)

theorem recordArrives_rulesNameOpenStreams (len : Nat) {f : State → State} {s : State}
    (hf : (f s).rulesNameOpenStreams) (hs : s.rulesNameOpenStreams) : (recordArrives len f s).rulesNameOpenStreams := by
  unfold recordArrives
  split
  · exact hs
  · split
    · exact (modLine_keepsRuleStreams _ s).invariant hs
    · exact hf

theorem takeRequest_rulesNameOpenStreams {r : Request} (hr : r ∈ requestTable) (ps : List Byte) {s : State}
    (hs : s.rulesNameOpenStreams) : (takeRequest r ps s).rulesNameOpenStreams :=
  recordArrives_rulesNameOpenStreams _ (answerRequest_rulesNameOpenStreams hr ps hs) hs

/-! ### The management line -/

theorem takeRecord_rulesNameOpenStreams (body : List Byte) {s : State} (hs : s.rulesNameOpenStreams) :
    (takeRecord body s).rulesNameOpenStreams := by
  unfold takeRecord
  split
  · exact (modLine_keepsRuleStreams _ s).invariant hs
  · split
    next hrequest => exact answerRequest_rulesNameOpenStreams (List.mem_of_find?_eq_some hrequest) _ hs
    next => exact (modLine_keepsRuleStreams _ s).invariant hs

theorem judgeRecord_rulesNameOpenStreams (head : Byte) (body : List Byte) (check : Byte) {s : State}
    (hs : s.rulesNameOpenStreams) : (judgeRecord head body check s).rulesNameOpenStreams := by
  unfold judgeRecord
  split
  · exact (modLine_keepsRuleStreams _ s).invariant hs
  · split
    · exact takeRecord_rulesNameOpenStreams body hs
    · exact (modLine_keepsRuleStreams _ s).invariant hs

theorem assembleByte_rulesNameOpenStreams (byte : Byte) {s : State} (hs : s.rulesNameOpenStreams) :
    (assembleByte byte s).rulesNameOpenStreams := by
  have hline : ∀ f, (s.modLine f).rulesNameOpenStreams := fun f => (modLine_keepsRuleStreams f s).invariant hs
  unfold assembleByte
  split
  · split
    · exact hline _
    · exact hs
  · exact hline _
  · split
    · exact hline _
    · exact hline _
  · split
    · exact hline _
    · exact hline _
  · exact judgeRecord_rulesNameOpenStreams _ _ byte hs

theorem receiveByte_rulesNameOpenStreams (byte : Byte) {s : State} (hs : s.rulesNameOpenStreams) :
    (receiveByte byte s).rulesNameOpenStreams := by
  unfold receiveByte
  split
  · exact (modLine_keepsRuleStreams _ s).invariant hs
  · exact assembleByte_rulesNameOpenStreams byte hs

/-! ### Every command -/

theorem rulesNameOpenStreams_of_next {s t u : State} (h : (.next u : Host.Outcome State Fault Refusal) = .next t)
    (hu : s.rulesNameOpenStreams → u.rulesNameOpenStreams) (hs : s.rulesNameOpenStreams) : t.rulesNameOpenStreams := by
  cases h
  exact hu hs

/-- A request command. -/
theorem rulesNameOpenStreams_of_request {r : Request} {ps : List Byte} {s t : State}
    (h : (.next (takeRequest r ps s) : Host.Outcome State Fault Refusal) = .next t) (hr : r ∈ requestTable)
    (hs : s.rulesNameOpenStreams) : t.rulesNameOpenStreams :=
  rulesNameOpenStreams_of_next h (takeRequest_rulesNameOpenStreams hr ps) hs

/-- A command that does nothing while a reset is held (R166). -/
theorem rulesNameOpenStreams_of_unlessHeld {f : State → State} {s t : State}
    (h : (.next (unlessHeld f s) : Host.Outcome State Fault Refusal) = .next t)
    (hf : s.keepsRuleStreams (f s)) (hs : s.rulesNameOpenStreams) : t.rulesNameOpenStreams :=
  rulesNameOpenStreams_of_next h hf.unlessHeld.invariant hs

/-- Every command keeps R72. -/
theorem exec_rulesNameOpenStreams (c : Instr) {s t : State} (h : exec c s = .next t) (hs : s.rulesNameOpenStreams) :
    t.rulesNameOpenStreams := by
  have hline : ∀ f, s.keepsRuleStreams (s.modLine f) := fun f => modLine_keepsRuleStreams f s
  have hlink : ∀ l f, s.keepsRuleStreams (s.modLink l f) := fun l f => of_same rfl rfl
  cases c with
  | poll | identify | readStatus | readNotices | noticeSetup | readCounters | deviceSetup | linkSetup | rampSet
  | linkStart | linkStop | readLink | readLinkChanges | rulePut | ruleDrop | readRule | streamOpen | streamClose
  | readStream | keyLoad | keyRetire | keySwitch | kwkLoad | kwkErase | timeSet | timeTrim | timeRead
  | triggerArm | triggerCancel | triggerRelease | readTrigger | restart | zeroize | alarmClear | readRetained =>
    exact rulesNameOpenStreams_of_request h (by simp [requestTable]) hs
  | unknownRequest code ps =>
    exact rulesNameOpenStreams_of_next h
      (fun hs => recordArrives_rulesNameOpenStreams _ (takeRecord_rulesNameOpenStreams _ hs) hs) hs
  | recordCheckFailed head body check =>
    exact rulesNameOpenStreams_of_next h
      (fun hs => recordArrives_rulesNameOpenStreams _ (judgeRecord_rulesNameOpenStreams _ _ _ hs) hs) hs
  | recordIgnored head body check =>
    exact rulesNameOpenStreams_of_next h
      (fun hs => recordArrives_rulesNameOpenStreams _ (judgeRecord_rulesNameOpenStreams _ _ _ hs) hs) hs
  | recordLenInvalid len =>
    refine rulesNameOpenStreams_of_unlessHeld h ?_ hs
    split
    · exact .ite (fun _ => self s) (fun _ => hline _)
    · exact self s
  | framingError =>
    refine rulesNameOpenStreams_of_unlessHeld h (.ite (fun _ => hline _) (fun _ => ?_)) hs
    unfold badStopBit
    split
    · exact self s
    · exact hline _
  | recordGapTimeout =>
    refine rulesNameOpenStreams_of_unlessHeld h ?_ hs
    split
    · exact self s
    · exact hline _
  | overlapByte byte => exact rulesNameOpenStreams_of_unlessHeld h (.ite (fun _ => hline _) (fun _ => self s)) hs
  | replyEnd =>
    refine rulesNameOpenStreams_of_unlessHeld h (.ite (fun _ => ?_) (fun _ => self s)) hs
    exact .ite (fun _ => of_same rfl rfl) (fun _ => hline _)
  | powerOn => exact rulesNameOpenStreams_of_next h (of_same rfl rfl : s.keepsRuleStreams _).invariant hs
  | pinReset => exact rulesNameOpenStreams_of_next h (of_same rfl rfl : s.keepsRuleStreams _).invariant hs
  | resetRelease address rateHigh =>
    refine rulesNameOpenStreams_of_next h (fun hs => ?_) hs
    split
    · exact released_rulesNameOpenStreams _ _ _ s
    · exact hs
  | selfTestComplete passed =>
    exact rulesNameOpenStreams_of_unlessHeld h
      (.ite (fun _ => completeSelfTest_keepsRuleStreams passed s) (fun _ => self s)) hs
  | tamperAssert =>
    refine rulesNameOpenStreams_of_next h (State.keepsRuleStreams.invariant ?_) hs
    exact .ite (fun _ => self s) fun _ => .after_same (tamperByMode_keepsRuleStreams _).unlessHeld rfl rfl
  | tamperDeassert => exact rulesNameOpenStreams_of_next h (of_same rfl rfl : s.keepsRuleStreams _).invariant hs
  | referenceTick => exact rulesNameOpenStreams_of_unlessHeld h (tick_keepsRuleStreams s) hs
  | rampStageEnd link =>
    refine rulesNameOpenStreams_of_unlessHeld h ?_ hs
    split
    · exact .ite (fun _ => hlink _ _) (fun _ => self s)
    · exact self s
  | pauseRefresh link =>
    refine rulesNameOpenStreams_of_unlessHeld h ?_ hs
    split
    · exact .ite (fun _ => hlink _ _) (fun _ => self s)
    · exact self s
  | graceExpiry stream slot =>
    refine rulesNameOpenStreams_of_unlessHeld h (.ite (fun _ => ?_) (fun _ => self s)) hs
    obtain ⟨o, n, heq⟩ := leaveInSlot_touches stream slot s
    rw [heq]
    exact of_same rfl rfl
  | lifetimeExpiry stream =>
    refine rulesNameOpenStreams_of_unlessHeld h ?_ hs
    split
    · exact .ite (fun _ => secondAtSlot_keepsRuleStreams stream _ s) (fun _ => self s)
    · exact self s
  | pulseEdge => exact rulesNameOpenStreams_of_unlessHeld h (edge_keepsRuleStreams s) hs
  | triggerFire slot event =>
    refine rulesNameOpenStreams_of_unlessHeld h ?_ hs
    split
    · exact .ite (fun _ => fireTrigger_keepsRuleStreams _ _ _ s) (fun _ => self s)
    · exact self s
  | faceUp link side =>
    exact rulesNameOpenStreams_of_unlessHeld h
      (.ite (fun _ => self s) (fun _ => (hlink _ _).trans (noteChange_keepsRuleStreams link side _))) hs
  | faceDown link side =>
    exact rulesNameOpenStreams_of_unlessHeld h
      (.ite (fun _ => (hlink _ _).trans (noteChange_keepsRuleStreams link side _)) (fun _ => self s)) hs
  | frameReceived link side frame =>
    exact rulesNameOpenStreams_of_unlessHeld h (.ite (fun _ => hlink _ _) (fun _ => self s)) hs
  | pauseSend link => exact rulesNameOpenStreams_of_unlessHeld h (.ite (fun _ => hlink _ _) (fun _ => self s)) hs
  | transmissionEnd link side => exact rulesNameOpenStreams_of_unlessHeld h (hlink _ _) hs
  | outboundGrant read =>
    refine rulesNameOpenStreams_of_unlessHeld h ?_ hs
    split
    · exact .ite (fun _ => (grantOutbound_keepsRuleStreams _ _ read _).after_same rfl rfl) (fun _ => self s)
    · exact self s
  | inboundGrant read =>
    refine rulesNameOpenStreams_of_unlessHeld h ?_ hs
    split
    · exact .ite (fun _ => self s) (fun _ => (grantInbound_keepsRuleStreams _ _ read _).after_same rfl rfl)
    · exact self s
  | keyPreparationGrant =>
    refine rulesNameOpenStreams_of_unlessHeld h ?_ hs
    split
    · exact .after_same (grantKeyUnit_keepsRuleStreams _ _) rfl rfl
    · exact self s
  | laneCompletion lane =>
    refine rulesNameOpenStreams_of_unlessHeld h ?_ hs
    split
    · exact of_same rfl rfl
    · exact of_same rfl rfl
    · exact self s
  | keyJobCompletion =>
    refine rulesNameOpenStreams_of_unlessHeld h ?_ hs
    split
    · exact completeJob_keepsRuleStreams _ _ s
    · exact self s
  | outboundRelease link => exact rulesNameOpenStreams_of_unlessHeld h (releaseOutbound_keepsRuleStreams link s) hs
  | inboundRelease link => exact rulesNameOpenStreams_of_unlessHeld h (releaseInbound_keepsRuleStreams link s) hs
  | drainComplete link => exact rulesNameOpenStreams_of_unlessHeld h (drainCheck_keepsRuleStreams link s) hs
  | byteReceived byte =>
    refine rulesNameOpenStreams_of_next h (fun hs => ?_) hs
    unfold unlessHeld
    split
    · exact hs
    · exact receiveByte_rulesNameOpenStreams byte hs

/-- Settles O15: only RULE_PUT and STREAM_CLOSE could break R72, and their checks forbid it; STREAM_OPEN meets an UNUSED
stream, and every other command keeps rules and open streams as far as R72 sees them. -/
theorem rulesNameOpenStreams : Obligations.RulesNameOpenStreams := by
  intro s t hs hstep
  unfold step at hstep
  split at hstep
  · cases hstep
    exact hs
  · exact exec_rulesNameOpenStreams _ hstep ((of_same rfl rfl : s.keepsRuleStreams _).invariant hs)

end Sys2Proof.Machine
end

section
/-! SUPPORT. The classifier (chapter 3): when a rule matches a frame, which rule decides it, and what the decision and
the match count then are. -/

namespace Sys2Proof.Machine

/-! ### When a rule matches a frame (R57 to R59) -/

theorem frameTagged_iff (f : Frame) : frameTagged f = true ↔ numAt f 12 2 = 0x8100 := by
  simp [frameTagged, frameType]

/-- A tag match, condition by condition (R58, R59). -/
theorem Rule.tagHolds_iff (r : Rule) (f : Frame) :
    r.tagHolds f = true ↔
      match r.tagMatch with
      | .any => True
      | .untagged => ¬ numAt f 12 2 = 0x8100
      | .tagRange => numAt f 12 2 = 0x8100 ∧ numAt f 14 2 % 4096 / 2 ^ r.tagExp * 2 ^ r.tagExp = r.tagBase := by
  rw [Rule.tagHolds, ← frameTagged_iff]
  cases r.tagMatch <;> simp [inAperture, tagId]

/-- The broadcast address begins with an odd byte. -/
theorem byteAt_zero_of_broadcast {f : Frame} (h : f.take 6 = List.replicate 6 0xFF) : byteAt f 0 % 2 = 1 := by
  have hhead : f[0]? = some 0xFF := by
    rw [← List.getElem?_take_of_lt (show 0 < 6 by decide), h]
    rfl
  simp [byteAt, List.getD_eq_getElem?_getD, hhead]

theorem frameClass_eq_broadcast_iff (f : Frame) : frameClass f = .broadcast ↔ f.take 6 = List.replicate 6 0xFF := by
  unfold frameClass
  split
  · simp_all
  · split <;> simp_all

theorem frameClass_eq_multicast_iff (f : Frame) :
    frameClass f = .multicast ↔ byteAt f 0 % 2 = 1 ∧ ¬ f.take 6 = List.replicate 6 0xFF := by
  unfold frameClass
  split
  · simp_all
  · split <;> simp_all

theorem frameClass_eq_unicast_iff (f : Frame) : frameClass f = .unicast ↔ byteAt f 0 % 2 = 0 := by
  unfold frameClass
  split
  next h => simp [byteAt_zero_of_broadcast h]
  next => split <;> simp_all

/-- A destination class, condition by condition (R57, R58). -/
theorem Rule.classHolds_iff (r : Rule) (f : Frame) :
    r.classHolds f = true ↔
      match r.destClass with
      | .any => True
      | .unicast => byteAt f 0 % 2 = 0
      | .multicast => byteAt f 0 % 2 = 1 ∧ ¬ f.take 6 = List.replicate 6 0xFF
      | .broadcast => f.take 6 = List.replicate 6 0xFF := by
  rw [← frameClass_eq_unicast_iff, ← frameClass_eq_multicast_iff, ← frameClass_eq_broadcast_iff, Rule.classHolds,
    Bool.or_eq_true, beq_iff_eq, beq_iff_eq, eq_comm (b := frameClass f)]
  cases r.destClass <;> simp

theorem Rule.matchesFrame_iff (r : Rule) (l : LinkNo) (f : Frame) :
    r.matchesFrame l f = true ↔
      r.valid = true ∧ r.linkSet.getLsbD l.1 = true ∧ r.tagHolds f = true ∧ r.classHolds f = true := by
  simp only [Rule.matchesFrame, Bool.and_eq_true, and_assoc]

/-! ### The deciding rule (R60) -/

/-- The lowest number that passes a test. -/
theorem find?_finRange_eq_some {n : Nat} {p : Fin n → Bool} {i : Fin n} (hi : p i = true)
    (hbelow : ∀ j < i, ¬ p j = true) : (List.finRange n).find? p = some i := by
  rw [List.find?_eq_some_iff_getElem]
  refine ⟨hi, i.1, by simp, by simp, fun j hj => ?_⟩
  simpa using hbelow ⟨j, hj.trans i.2⟩ hj

theorem decidingRule_eq_some {s : State} {l : LinkNo} {f : Frame} {i : RuleNo}
    (hi : (s.rules.get i).matchesFrame l f = true) (hbelow : ∀ j < i, ¬ (s.rules.get j).matchesFrame l f = true) :
    decidingRule s l f = some i :=
  find?_finRange_eq_some hi hbelow

theorem decidingRule_eq_none {s : State} {l : LinkNo} {f : Frame}
    (h : ∀ i, ¬ (s.rules.get i).matchesFrame l f = true) : decidingRule s l f = none := by
  simpa [decidingRule] using h

/-- Settles O52: the search finds the matching rule with the lowest index, or none; decision and match count
follow. -/
theorem framesAreClassified : Obligations.FramesAreClassified := by
  intro l f s tagged broadcast matching
  have hmatching : ∀ r, matching r ↔ r.matchesFrame l f = true := fun r => by
    rw [Rule.matchesFrame_iff, Rule.tagHolds_iff, Rule.classHolds_iff]
    rfl
  simp only [hmatching]
  refine ⟨fun i hi hbelow => ?decided, fun hnone => ?byDefault⟩
  case decided =>
    have hrule := decidingRule_eq_some hi hbelow
    exact ⟨by rw [classify, hrule], by rw [countMatch, hrule]; rfl⟩
  case byDefault =>
    have hrule := decidingRule_eq_none hnone
    rw [classify, countMatch, hrule]
    exact ⟨rfl, rfl, fun hdefault => by simp [hdefault], fun hdefault => by simp [hdefault]⟩

end Sys2Proof.Machine
end

section
/-! SUPPORT. The rule list requests (R68 to R71): requests that read, what the parameters of RULE_PUT spell, and the one
entry each request writes or reads. -/

namespace Sys2Proof.Machine

/-! ### Requests answered DATA in RUNNING and ALARM -/

/-- A request of fitting length that RUNNING and ALARM let through, and that its own checks accept, is answered DATA (R181,
R183, R185). -/
theorem takeRequest_data {r : Request} {ps : List Byte} {s t : State} {data : List Byte} (hs : s.reads)
    (hadmitted : alarmAdmits.contains r.code = true) (hfits : r.fits ps = true)
    (hjudge : r.judge ps s = answerBytes data t) : takeRequest r ps s = answersData r.code data t := by
  obtain ⟨⟨hreset, hreply⟩, hmode⟩ := hs
  have hrefusal : modeRefusal s.mode r.code = none := by
    rcases hmode with h | h
    · rw [h]; rfl
    · rw [h, modeRefusal, if_pos hadmitted]
  have hanswer : answerRequest r ps s = answersData r.code data t := by
    simp only [answerRequest, judgement, hfits, not_true_eq_false, if_false, hrefusal, hjudge]
    rfl
  simp only [takeRequest, recordArrives, hreset, hreply, Option.isSome_none, Bool.false_eq_true, if_false, hanswer]

/-! ### What RULE_PUT's parameters spell (R68, R69) -/

/-- The tag match reads back from the match parameter of a RULE_PUT that is not refused. -/
theorem encoded_tagMatchOf {m : Nat} (h : m ≤ 11) : (tagMatchOf m).encoded = m / 4 := by
  interval_cases m <;> rfl

theorem tagMatchOf_eq_tagRange_iff {m : Nat} (h : m ≤ 11) : tagMatchOf m = .tagRange ↔ m / 4 = 2 := by
  interval_cases m <;> decide

/-- The destination class reads back from the match parameter. -/
theorem encoded_destClassOf {m : Nat} (h : m ≤ 11) : (destClassOf m).encoded = m % 4 := by
  interval_cases m <;> rfl

/-- The action reads back from its parameter. -/
theorem encoded_ruleActionOf {v : Nat} (h : v ≤ 2) : (ruleActionOf v).encoded = v := by
  interval_cases v <;> rfl

theorem ruleActionOf_eq_protect_iff {v : Nat} (h : v ≤ 2) : ruleActionOf v = .protect ↔ v = 0 := by
  interval_cases v <;> decide

/-- An aperture that meets R59 is valid. -/
theorem apertureInvalid_eq_false {b k : Nat} (hk : k ≤ 12) (hb : b ≤ 4095) (hmul : b % 2 ^ k = 0) :
    apertureInvalid b k = false := by
  simp only [apertureInvalid, Bool.or_eq_false_iff, decide_eq_false_iff_not]
  omega

/-! ### The requests -/

/-- RULE_PUT that passes the checks of R68 writes the entry its parameters spell. -/
theorem exec_rulePut_of_passes {ps : List Byte} {r : RuleNo} {s : State} (hs : s.serves) (hr : byteAt ps 0 = r.1)
    (hlen : ps.length = 9) (hpass : firstFailing (rulePutChecks ps s) = none) :
    exec (.rulePut ps) s = .next (answersDone 0x30 { s with rules := putAt s.rules r (ruleOf ps) }) := by
  have hjudge : reqRulePut.judge ps s = answerDone { s with rules := putAt s.rules r (ruleOf ps) } := by
    simp only [reqRulePut, checked, hpass, ruleAt_of_byteAt hr]
    rfl
  exact congrArg Host.Outcome.next (takeRequest_done hs (by simp [reqRulePut, hlen]) hjudge)

/-- The checks of R68, in their order. -/
theorem rulePutChecks_pass {ps : List Byte} {r : RuleNo} {s : State} (hr : byteAt ps 0 = r.1)
    (hset : 1 ≤ byteAt ps 1 ∧ byteAt ps 1 ≤ 15) (hmatch : byteAt ps 2 ≤ 11) (haction : byteAt ps 6 ≤ 2)
    (haperture : byteAt ps 2 / 4 = 2 → byteAt ps 5 ≤ 12 ∧ numAt ps 3 2 ≤ 4095 ∧ numAt ps 3 2 % 2 ^ byteAt ps 5 = 0)
    (hstream : byteAt ps 6 = 0 → ∃ i : StreamNo, byteAt ps 7 = i.1 ∧ (s.outStream i).state ≠ .unused ∧
      byteAt ps 1 = 2 ^ (s.outStream i).link.1) :
    firstFailing (rulePutChecks ps s) = none := by
  have hrule : byteAt ps 0 < 128 := hr ▸ r.2
  have hinvalid : byteAt ps 2 / 4 = 2 → apertureInvalid (numAt ps 3 2) (byteAt ps 5) = false := fun h =>
    let ⟨hk, hb, hmul⟩ := haperture h
    apertureInvalid_eq_false hk hb hmul
  simp only [rulePutChecks, firstFailing_cons_eq_none_iff, Bool.or_eq_false_iff, Bool.and_eq_false_iff,
    decide_eq_false_iff_not, not_le, not_lt]
  refine ⟨hrule, ⟨by omega, hset.2⟩, ⟨hmatch, ?aperture⟩, haction, ?stream⟩
  case aperture => exact or_iff_not_imp_left.2 fun h => hinvalid (not_not.1 h)
  case stream =>
    by_cases hprotect : byteAt ps 6 = 0
    · obtain ⟨i, hi, hopen, hlink⟩ := hstream hprotect
      rw [streamAt_of_byteAt hi, hi]
      exact ⟨.inr i.2, .inr hopen, .inr (not_not.2 hlink), rfl⟩
    · exact ⟨.inl hprotect, .inl hprotect, .inl hprotect, rfl⟩

/-- Settles O26: each request passes its checks, and `ruleOf` spells the entry that RULE_PUT writes. -/
theorem ruleRequestsWriteOneEntry : Obligations.RuleRequestsWriteOneEntry := by
  intro ps r s hr
  have hrule : ¬ 128 ≤ byteAt ps 0 := by rw [hr]; omega
  refine ⟨fun hs hlen hset hset' hmatch haction haperture hstream => ?put, fun hs hlen => ?drop, fun hs hlen => ?read⟩
  case put =>
    have hpass := rulePutChecks_pass hr ⟨hset, hset'⟩ hmatch haction haperture hstream
    have htag := tagMatchOf_eq_tagRange_iff hmatch
    have hact := ruleActionOf_eq_protect_iff haction
    refine ⟨ruleOf ps, exec_rulePut_of_passes hs hr hlen hpass, rfl, rfl, encoded_tagMatchOf hmatch,
      encoded_destClassOf hmatch, encoded_ruleActionOf haction, rfl, fun h => ?range, fun h => ?noRange,
      fun h => ?protect, fun h => ?noProtect⟩
    case range => exact ⟨if_pos (htag.2 h), if_pos (htag.2 h)⟩
    case noRange => exact ⟨if_neg (mt htag.1 h), if_neg (mt htag.1 h)⟩
    case protect =>
      obtain ⟨i, hi, -⟩ := hstream h
      have hnamed : (ruleOf ps).stream = streamAt ps 7 := if_pos (hact.2 h)
      exact ⟨by rw [hnamed, streamAt_of_byteAt hi, hi], by simp [ruleOf, hact.2 h]⟩
    case noProtect => exact ⟨if_neg (mt hact.1 h), by simp [ruleOf, mt hact.1 h]⟩
  case drop =>
    have hjudge : reqRuleDrop.judge ps s = answerDone { s with rules := putAt s.rules r Rule.empty } := by
      dsimp only [reqRuleDrop]
      rw [checked_cons_of_passes _ _ _ (decide_eq_false hrule), checked_nil, ruleAt_of_byteAt hr]
      rfl
    exact congrArg Host.Outcome.next (takeRequest_done hs (by simp [reqRuleDrop, hlen]) hjudge)
  case read =>
    have hjudge : reqReadRule.judge ps s = answerBytes (ruleData r (s.rules.get r)) s := by
      dsimp only [reqReadRule]
      rw [checked_cons_of_passes _ _ _ (decide_eq_false hrule), checked_nil, ruleAt_of_byteAt hr]
    exact congrArg Host.Outcome.next (takeRequest_data hs (by decide) (by simp [reqReadRule, hlen]) hjudge)

end Sys2Proof.Machine
end

section
/-! SUPPORT. The outbound grant (R61 to R66) and frame-number assignment (R34): an ACTIVE slot with work in flight
leaving service, the assignment's steps as one update of the stream with the notices they raise, and the disposal of the
head frame case by case. -/

namespace Sys2Proof.Machine

/-! ### Updates of one outbound stream, and notices raised on a condition -/

/-- Two updates of one stream are one update. -/
theorem State.modOut_modOut (i : StreamNo) (f g : OutStream → OutStream) (s : State) :
    (s.modOut i f).modOut i g = s.modOut i fun st => g (f st) := by
  simp only [State.modOut, get_putAt_self, putAt_putAt]

/-- An update of a stream is what it makes of the stream as it is. -/
theorem State.modOut_congr {i : StreamNo} {f g : OutStream → OutStream} {s : State}
    (h : f (s.outStream i) = g (s.outStream i)) : s.modOut i f = s.modOut i g := by
  unfold State.modOut
  exact congrArg (fun st => { s with outs := putAt s.outs i st }) h

/-- A notice raised where a condition holds. -/
def raiseIf (c : Bool) (k : NoticeKind) (m : NoticeMember) (s : State) : State := if c then raise k m s else s

@[simp] theorem raiseIf_true (k : NoticeKind) (m : NoticeMember) (s : State) : raiseIf true k m s = raise k m s := rfl
@[simp] theorem raiseIf_false (k : NoticeKind) (m : NoticeMember) (s : State) : raiseIf false k m s = s := rfl

/-- A notice and an update of a stream are beside each other. -/
theorem raiseIf_modOut (c : Bool) (k : NoticeKind) (m : NoticeMember) (i : StreamNo) (f : OutStream → OutStream)
    (s : State) : (raiseIf c k m s).modOut i f = raiseIf c k m (s.modOut i f) := by cases c <;> rfl

@[simp] theorem raiseIf_outs (c : Bool) (k : NoticeKind) (m : NoticeMember) (s : State) :
    (raiseIf c k m s).outs = s.outs := by cases c <;> rfl

theorem raiseIf_notices_get (c : Bool) (k : NoticeKind) (m : NoticeMember) (s : State) (q : Fin 15) :
    (raiseIf c k m s).notices.get q =
      if c = true ∧ q = k.number then (s.notices.get k.number).raised m else s.notices.get q := by
  cases c
  · simp
  · simp [get_putAt]

/-! ### The ACTIVE slot leaves service with work in flight (R13, R44, R46) -/

/-- A slot with work in flight leaves service into DRAINING. -/
theorem OutSlot.left_of_inFlight {sl : OutSlot} (h : sl.inFlight ≠ 0) : sl.left = { sl with state := .draining } :=
  if_neg h

theorem leaveOutSlot_of_inFlight {i : StreamNo} {k : SlotNo} {s : State} (h : (s.outSlot i k).inFlight ≠ 0) :
    leaveOutSlot i k s = s.modOutSlot i k OutSlot.left :=
  if_neg h

/-- A stream whose ACTIVE slot `a` has left service without a slot to switch to. -/
def OutStream.stalledFrom (a : SlotNo) (st : OutStream) : OutStream :=
  { st with state := .stalled, pendingSwitch := none, slots := putAt st.slots a (st.slots.get a).left }

/-- A stream whose ACTIVE slot `a` has left service: switched to its READY other slot, or STALLED (R44). -/
def OutStream.leftActive (a : SlotNo) (st : OutStream) : OutStream :=
  if (st.slots.get (otherSlot a)).state = .ready then st.switched a else st.stalledFrom a

theorem switchStream_of_inFlight {i : StreamNo} {a : SlotNo} {s : State} (h : (s.outSlot i a).inFlight ≠ 0) :
    switchStream i a s = raise .switched (.outStream i) (s.modOut i (OutStream.switched a)) := by
  unfold switchStream
  dsimp only
  rw [leaveOutSlot_of_inFlight (by rw [outSlot_left_before_switch]; exact h)]
  simp only [State.modOutSlot, State.modOut_modOut]
  refine congrArg _ (State.modOut_congr ?_)
  simp only [OutStream.switched, get_putAt_ne _ _ (otherSlot_ne a).symm]

theorem leaveActive_of_inFlight {i : StreamNo} {a : SlotNo} {s : State} (h : (s.outSlot i a).inFlight ≠ 0) :
    leaveActive i a s =
      raise (if (s.outSlot i (otherSlot a)).state = .ready then .switched else .stalled) (.outStream i)
        (s.modOut i (OutStream.leftActive a)) := by
  unfold leaveActive
  split
  next hready =>
    rw [switchStream_of_inFlight h]
    exact congrArg _ (State.modOut_congr (if_pos hready).symm)
  next hready =>
    rw [leaveOutSlot_of_inFlight h, State.modOutSlot, State.modOut_modOut]
    exact congrArg _ (State.modOut_congr (if_neg hready).symm)

/-! ### Frame-number assignment (R34) -/

/-- A stream after steps 1 to 3 of an assignment under its slot `a`: the number taken and the counters advanced. -/
def OutStream.numberTaken (a : SlotNo) (bytes : Nat) (st : OutStream) : OutStream :=
  { st with
    slots := putAt st.slots a ((st.slots.get a).assigned bytes)
    protectedFrames := count48 st.protectedFrames 1
    protectedBytes := count48 st.protectedBytes bytes }

/-- A stream whose slot `a` has its REKEY_DUE flag set where `due` (step 4). -/
def OutStream.rekeyNoted (a : SlotNo) (due : Bool) (st : OutStream) : OutStream :=
  { st with slots := putAt st.slots a { st.slots.get a with rekeyRaised := (st.slots.get a).rekeyRaised || due } }

/-- The ACTIVE slot `a` leaves service at the assignment of `p`: exhausted, expired, or switched away from (steps 5 and
6). -/
def OutStream.leavesAt (a : SlotNo) (p : Nat) (st : OutStream) : Bool :=
  (st.slots.get a).endsAt p ||
    (st.autoSwitch && decide ((st.slots.get a).soft ≤ p ∧ (st.slots.get (otherSlot a)).state = .ready))

/-- Steps 1 to 3: the item joins the list on its lane, and one update of the stream. -/
theorem assignNumber_eq (l : LinkNo) (n : LaneNo) (i : StreamNo) (a : SlotNo) (f : Frame) (tc : Bool) {s : State}
    {x : Secret} (hx : (s.outSlot i a).secret = some x) :
    assignNumber l n i a f tc s =
      ((s.modLink l fun k => { k with outList := k.outList ++ [protectItem s l n i a f tc] }).setLane n
        (.protect l x (nonceOf x.salt (s.outSlot i a).nextFn))).modOut i
          (OutStream.numberTaken a (encryptedLength f.length tc)) := by
  unfold assignNumber
  simp only [hx, Option.getD_some, State.modOutSlot, State.modOut_modOut]
  rfl

/-- Step 4: REKEY_DUE is raised, and noted at the slot, where it is due. -/
theorem assignRekey_eq (i : StreamNo) (a : SlotNo) (p : Nat) (s : State) :
    assignRekey i a p s =
      raiseIf ((s.outSlot i a).rekeyDueAt p) .rekeyDue (.outStream i)
        (s.modOut i (OutStream.rekeyNoted a ((s.outSlot i a).rekeyDueAt p))) := by
  unfold assignRekey
  cases (s.outSlot i a).rekeyDueAt p with
  | true =>
    refine congrArg (raise .rekeyDue (.outStream i)) (State.modOut_congr ?_)
    simp only [OutStream.rekeyNoted, Bool.or_true]
  | false =>
    have hsame : (s.outStream i).rekeyNoted a false = s.outStream i := by
      simp only [OutStream.rekeyNoted, Bool.or_false]
      exact congrArg (fun v => { s.outStream i with slots := v }) (putAt_get _ a)
    rw [raiseIf_false, State.modOut_congr (g := id) hsame]
    simp [State.modOut]

/-- Steps 5 and 6 together: the ACTIVE slot leaves service at most once, and switches where the other slot is READY. -/
theorem assignEnd_autoSwitch_eq {i : StreamNo} {a : SlotNo} {p : Nat} {s : State}
    (hactive : (s.outStream i).state = .active a) (hflight : (s.outSlot i a).inFlight ≠ 0) :
    assignAutoSwitch i a p (assignEnd i a p s) =
      if (s.outStream i).leavesAt a p then leaveActive i a s else s := by
  unfold assignEnd
  by_cases hends : (s.outSlot i a).endsAt p = true
  · have hleaves : (s.outStream i).leavesAt a p = true := by
      rw [OutStream.leavesAt]; exact Bool.or_eq_true_iff.2 (.inl hends)
    have hgone : ((leaveActive i a s).outStream i).state ≠ .active a := by
      rw [leaveActive_of_inFlight hflight, raise_outStream, outStream_modOut_self, OutStream.leftActive]
      split
      · simp [OutStream.switched]
      · simp [OutStream.stalledFrom]
    rw [if_pos hends, if_pos hleaves]
    exact if_neg fun h => hgone h.1
  · have hleaves : (s.outStream i).leavesAt a p = true ↔ (s.outStream i).autoSwitch = true ∧
        (s.outSlot i a).soft ≤ p ∧ (s.outSlot i (otherSlot a)).state = .ready := by
      rw [Bool.not_eq_true] at hends
      rw [OutStream.leavesAt]
      simp only [State.outSlot] at hends ⊢
      simp [hends]
    rw [if_neg hends]
    unfold assignAutoSwitch
    by_cases h : (s.outStream i).leavesAt a p = true
    · obtain ⟨hauto, hsoft, hready⟩ := hleaves.1 h
      rw [if_pos h, if_pos ⟨hactive, hauto, hsoft, hready⟩, leaveActive, if_pos hready]
    · rw [if_neg h, if_neg fun hall => h (hleaves.2 hall.2)]

/-! ### The stream and the notices after an assignment -/

/-- An assignment of `bytes` bytes under slot `a` finds REKEY_DUE due (step 4). -/
def OutStream.dueAtNumber (a : SlotNo) (bytes : Nat) (st : OutStream) : Bool :=
  ((st.slots.get a).assigned bytes).rekeyDueAt (st.slots.get a).nextFn

/-- A stream after steps 1 to 4. -/
def OutStream.afterRekey (a : SlotNo) (bytes : Nat) (st : OutStream) : OutStream :=
  (st.numberTaken a bytes).rekeyNoted a (st.dueAtNumber a bytes)

/-- The ACTIVE slot leaves service at the assignment (steps 5 and 6). -/
def OutStream.leavesAtNumber (a : SlotNo) (bytes : Nat) (st : OutStream) : Bool :=
  (st.afterRekey a bytes).leavesAt a (st.slots.get a).nextFn

/-- The stream goes on under its other slot. -/
def OutStream.goesOn (a : SlotNo) (bytes : Nat) (st : OutStream) : Bool :=
  st.leavesAtNumber a bytes && decide ((st.slots.get (otherSlot a)).state = .ready)

/-- A stream after steps 1 to 6. -/
def OutStream.afterAssignment (a : SlotNo) (bytes : Nat) (st : OutStream) : OutStream :=
  if st.leavesAtNumber a bytes then (st.afterRekey a bytes).leftActive a else st.afterRekey a bytes

/-- The notices of an assignment that finds out-stream `i` as `st`. -/
def raiseAssignment (i : StreamNo) (a : SlotNo) (bytes : Nat) (st : OutStream) (s : State) : State :=
  raiseIf (st.leavesAtNumber a bytes && !st.goesOn a bytes) .stalled (.outStream i)
    (raiseIf (st.goesOn a bytes) .switched (.outStream i)
      (raiseIf (st.dueAtNumber a bytes) .rekeyDue (.outStream i) s))

theorem OutStream.afterRekey_slot (a : SlotNo) (bytes : Nat) (st : OutStream) :
    (st.afterRekey a bytes).slots.get a =
      { (st.slots.get a).assigned bytes with
        rekeyRaised := (st.slots.get a).rekeyRaised || st.dueAtNumber a bytes } := by
  simp only [OutStream.afterRekey, OutStream.rekeyNoted, OutStream.numberTaken, get_putAt_self]
  rfl

theorem OutStream.afterRekey_otherSlot (a : SlotNo) (bytes : Nat) (st : OutStream) :
    (st.afterRekey a bytes).slots.get (otherSlot a) = st.slots.get (otherSlot a) := by
  simp only [OutStream.afterRekey, OutStream.rekeyNoted, OutStream.numberTaken, get_putAt_ne _ _ (otherSlot_ne a)]

/-- Steps 1 to 4 on a state where the item is placed. -/
theorem assignRekey_numberTaken {i : StreamNo} {a : SlotNo} {bytes p : Nat} {s : State}
    (hp : p = (s.outSlot i a).nextFn) :
    assignRekey i a p (s.modOut i (OutStream.numberTaken a bytes)) =
      raiseIf ((s.outStream i).dueAtNumber a bytes) .rekeyDue (.outStream i)
        (s.modOut i (OutStream.afterRekey a bytes)) := by
  have hdue : ((s.modOut i (OutStream.numberTaken a bytes)).outSlot i a).rekeyDueAt p =
      (s.outStream i).dueAtNumber a bytes := by
    simp only [State.outSlot, outStream_modOut_self, OutStream.numberTaken, get_putAt_self, hp]
    rfl
  rw [assignRekey_eq, hdue, State.modOut_modOut]
  exact congrArg _ (State.modOut_congr rfl)

/-- Steps 5 and 6 after them. -/
theorem assignLeaving_afterRekey {i : StreamNo} {a : SlotNo} {bytes p : Nat} {s : State}
    (hactive : (s.outStream i).state = .active a) (hp : p = (s.outSlot i a).nextFn) :
    assignAutoSwitch i a p (assignEnd i a p
        (raiseIf ((s.outStream i).dueAtNumber a bytes) .rekeyDue (.outStream i)
          (s.modOut i (OutStream.afterRekey a bytes)))) =
      raiseAssignment i a bytes (s.outStream i) (s.modOut i (OutStream.afterAssignment a bytes)) := by
  subst hp
  generalize hz : raiseIf ((s.outStream i).dueAtNumber a bytes) .rekeyDue (.outStream i)
    (s.modOut i (OutStream.afterRekey a bytes)) = z
  have hstream : z.outStream i = (s.outStream i).afterRekey a bytes := by
    rw [← hz, State.outStream, raiseIf_outs]
    exact outStream_modOut_self i _ s
  have hflight : (z.outSlot i a).inFlight ≠ 0 := by
    rw [State.outSlot, hstream, OutStream.afterRekey_slot]
    exact Nat.succ_ne_zero _
  have hother : (z.outSlot i (otherSlot a)).state = ((s.outStream i).slots.get (otherSlot a)).state := by
    rw [State.outSlot, hstream, OutStream.afterRekey_otherSlot]
  have hleaves : (z.outStream i).leavesAt a (s.outSlot i a).nextFn = (s.outStream i).leavesAtNumber a bytes := by
    rw [hstream]
    rfl
  rw [assignEnd_autoSwitch_eq (by rw [hstream]; exact hactive) hflight, hleaves]
  unfold raiseAssignment OutStream.goesOn
  cases h : (s.outStream i).leavesAtNumber a bytes with
  | true =>
    have hafter : (s.modOut i (OutStream.afterRekey a bytes)).modOut i (OutStream.leftActive a) =
        s.modOut i (OutStream.afterAssignment a bytes) := by
      rw [State.modOut_modOut]
      exact State.modOut_congr (if_pos h).symm
    rw [if_pos rfl, leaveActive_of_inFlight hflight, hother, ← hz, raiseIf_modOut, hafter]
    by_cases hready : ((s.outStream i).slots.get (otherSlot a)).state = .ready
    · simp [hready]
    · simp [hready]
  | false =>
    have hafter : s.modOut i (OutStream.afterRekey a bytes) = s.modOut i (OutStream.afterAssignment a bytes) :=
      State.modOut_congr (if_neg (by simp [h])).symm
    simp only [Bool.false_and, raiseIf_false, ← hz, hafter, Bool.false_eq_true, if_false]

/-- Steps 1 to 6 of R34 as the item placed, one update of the stream, and the notices; step 7 hands the number to the
triggers. -/
theorem assign_eq (l : LinkNo) (n : LaneNo) (i : StreamNo) (a : SlotNo) (f : Frame) (tc : Bool) {s : State} {x : Secret}
    (hactive : (s.outStream i).state = .active a) (hx : (s.outSlot i a).secret = some x) :
    assign l n i a f tc s =
      triggersEvent (.assigned i (s.outSlot i a).nextFn)
        (raiseAssignment i a (encryptedLength f.length tc) (s.outStream i)
          (((s.modLink l fun k => { k with outList := k.outList ++ [protectItem s l n i a f tc] }).setLane n
            (.protect l x (nonceOf x.salt (s.outSlot i a).nextFn))).modOut i
              (OutStream.afterAssignment a (encryptedLength f.length tc)))) := by
  unfold assign
  dsimp only
  rw [assignNumber_eq l n i a f tc hx, assignRekey_numberTaken, assignLeaving_afterRekey]
  · rfl
  · exact hactive
  · rfl
  · rfl

/-! ### What the assignment leaves in the stream and its slots -/

theorem OutStream.afterAssignment_eq {a : SlotNo} (bytes : Nat) {st : OutStream} (hactive : st.state = .active a) :
    st.afterAssignment a bytes =
      { st with
        state := if st.leavesAtNumber a bytes then
          (if st.goesOn a bytes then .active (otherSlot a) else .stalled) else .active a
        pendingSwitch := if st.leavesAtNumber a bytes then none else st.pendingSwitch
        slots := (st.afterAssignment a bytes).slots
        protectedFrames := count48 st.protectedFrames 1
        protectedBytes := count48 st.protectedBytes bytes } := by
  unfold OutStream.afterAssignment OutStream.goesOn
  cases h : st.leavesAtNumber a bytes with
  | true =>
    simp only [if_true, OutStream.leftActive, OutStream.afterRekey_otherSlot, Bool.true_and, decide_eq_true_eq]
    split <;> rfl
  | false =>
    simp only [Bool.false_eq_true, if_false, ← hactive]
    rfl

theorem OutStream.afterAssignment_slot (a : SlotNo) (bytes : Nat) (st : OutStream) :
    (st.afterAssignment a bytes).slots.get a =
      { (st.slots.get a).assigned bytes with
        state := if st.leavesAtNumber a bytes then .draining else (st.slots.get a).state
        rekeyRaised := (st.slots.get a).rekeyRaised || st.dueAtNumber a bytes } := by
  have hslot := OutStream.afterRekey_slot a bytes st
  have hleft : ((st.afterRekey a bytes).slots.get a).left =
      { (st.afterRekey a bytes).slots.get a with state := .draining } :=
    OutSlot.left_of_inFlight (by rw [hslot]; exact Nat.succ_ne_zero _)
  unfold OutStream.afterAssignment
  cases st.leavesAtNumber a bytes with
  | true =>
    simp only [if_true, OutStream.leftActive]
    split
    · rw [OutStream.switched_slot_left, hleft, hslot]
    · rw [OutStream.stalledFrom, get_putAt_self, hleft, hslot]
  | false => simp only [Bool.false_eq_true, if_false, hslot]; rfl

theorem OutStream.afterAssignment_otherSlot (a : SlotNo) (bytes : Nat) (st : OutStream) :
    (st.afterAssignment a bytes).slots.get (otherSlot a) =
      if st.goesOn a bytes then { st.slots.get (otherSlot a) with state := .active }
      else st.slots.get (otherSlot a) := by
  have hother := OutStream.afterRekey_otherSlot a bytes st
  unfold OutStream.afterAssignment OutStream.goesOn
  cases st.leavesAtNumber a bytes with
  | true =>
    simp only [if_true, OutStream.leftActive, hother, Bool.true_and, decide_eq_true_eq]
    split
    · rw [OutStream.switched_slot_other, hother]
    · rw [OutStream.stalledFrom, get_putAt_ne _ _ (otherSlot_ne a), hother]
  | false => simp only [Bool.false_eq_true, if_false, Bool.false_and, hother]

/-- REKEY_DUE at an assignment, by the slot it finds (R38, R34 step 4). -/
theorem OutStream.dueAtNumber_eq (a : SlotNo) (bytes : Nat) (st : OutStream) :
    st.dueAtNumber a bytes =
      (!(st.slots.get a).rekeyRaised && (decide ((st.slots.get a).soft ≤ (st.slots.get a).nextFn) ||
        decide ((st.slots.get a).lifetimeKind = .mebibytes ∧ (st.slots.get a).warning ≠ 0 ∧
          (st.slots.get a).warning * 1048576 ≤ ((st.slots.get a).assigned bytes).accrued))) := by
  simp only [Bool.decide_and, ← Bool.and_assoc]
  rfl

/-- The end of the ACTIVE slot's service at an assignment, by the slots it finds (R42, R43, R51). -/
theorem OutStream.leavesAtNumber_eq (a : SlotNo) (bytes : Nat) (st : OutStream) :
    st.leavesAtNumber a bytes =
      (decide ((st.slots.get a).nextFn = (st.slots.get a).hard) ||
        decide ((st.slots.get a).lifetimeKind = .mebibytes ∧
          (st.slots.get a).limit * 1048576 ≤ ((st.slots.get a).assigned bytes).accrued) ||
        (st.autoSwitch && decide ((st.slots.get a).soft ≤ (st.slots.get a).nextFn ∧
          (st.slots.get (otherSlot a)).state = .ready))) := by
  unfold OutStream.leavesAtNumber OutStream.leavesAt
  rw [OutStream.afterRekey_slot, OutStream.afterRekey_otherSlot, OutSlot.endsAt, beq_eq_decide]
  simp only [Bool.decide_and]
  rfl

/-- The notice kinds an assignment can raise, and every other kind as it was. -/
theorem raiseAssignment_notices (i : StreamNo) (a : SlotNo) (bytes : Nat) (st : OutStream) (s : State) :
    let after := (raiseAssignment i a bytes st s).notices
    after.get NoticeKind.rekeyDue.number =
        (if st.dueAtNumber a bytes then (s.notices.get NoticeKind.rekeyDue.number).raised (.outStream i)
         else s.notices.get NoticeKind.rekeyDue.number) ∧
      after.get NoticeKind.switched.number =
        (if st.goesOn a bytes then (s.notices.get NoticeKind.switched.number).raised (.outStream i)
         else s.notices.get NoticeKind.switched.number) ∧
      after.get NoticeKind.stalled.number =
        (if st.leavesAtNumber a bytes && !st.goesOn a bytes then
          (s.notices.get NoticeKind.stalled.number).raised (.outStream i)
         else s.notices.get NoticeKind.stalled.number) ∧
      ∀ m, m ≠ NoticeKind.rekeyDue.number → m ≠ NoticeKind.switched.number → m ≠ NoticeKind.stalled.number →
        after.get m = s.notices.get m := by
  dsimp only
  unfold raiseAssignment
  refine ⟨?_, ?_, ?_, fun m hdue hon hstalled => ?_⟩
  · simp [raiseIf_notices_get, NoticeKind.number]
  · simp [raiseIf_notices_get, NoticeKind.number]
  · simp [raiseIf_notices_get, NoticeKind.number]
  · simp [raiseIf_notices_get, hdue, hon, hstalled]

/-- Nothing but the notice block is written. -/
theorem raiseAssignment_eq (i : StreamNo) (a : SlotNo) (bytes : Nat) (st : OutStream) (s : State) :
    raiseAssignment i a bytes st s = { s with notices := (raiseAssignment i a bytes st s).notices } := by
  unfold raiseAssignment raiseIf
  split <;> split <;> split <;> rfl

/-- The notices after an assignment depend on the notices before it alone. -/
theorem raiseAssignment_notices_congr {i : StreamNo} {a : SlotNo} {bytes : Nat} {st : OutStream} {s t : State}
    (h : s.notices = t.notices) :
    (raiseAssignment i a bytes st s).notices = (raiseAssignment i a bytes st t).notices := by
  unfold raiseAssignment raiseIf
  split <;> split <;> split <;> simp only [raise_notices, h]

/-- An assignment step by step: what the triggers are handed in step 7 is the state before it with the item placed, the
stream and the notices as above, and nothing else changed. -/
theorem assign_effect (l : LinkNo) (n : LaneNo) (i : StreamNo) (a : SlotNo) (f : Frame) (tc : Bool) {s : State}
    {x : Secret} (hactive : (s.outStream i).state = .active a) (hx : (s.outSlot i a).secret = some x) :
    let bytes := encryptedLength f.length tc
    let st := s.outStream i
    ∃ y,
      assign l n i a f tc s = triggersEvent (.assigned i (s.outSlot i a).nextFn) y ∧
      y = { s with
        links := putAt s.links l
          { s.link l with outList := (s.link l).outList ++ [protectItem s l n i a f tc] }
        lanes := putAt s.lanes n (.protect l x (nonceOf x.salt (s.outSlot i a).nextFn))
        outs := y.outs
        notices := y.notices } ∧
      (∀ j, j ≠ i → y.outStream j = s.outStream j) ∧
      y.outStream i = st.afterAssignment a bytes ∧
      y.notices = (raiseAssignment i a bytes st s).notices := by
  intro bytes st
  let placed := ((s.modLink l fun k => { k with outList := k.outList ++ [protectItem s l n i a f tc] }).setLane n
    (.protect l x (nonceOf x.salt (s.outSlot i a).nextFn))).modOut i (OutStream.afterAssignment a bytes)
  have hraised := raiseAssignment_eq i a bytes st placed
  refine ⟨raiseAssignment i a bytes st placed, assign_eq l n i a f tc hactive hx, ?frame, fun j hj => ?others, ?stream,
    raiseAssignment_notices_congr rfl⟩
  case frame =>
    have houts : (raiseAssignment i a bytes st placed).outs = placed.outs := by rw [hraised]
    rw [houts]
    exact hraised
  case others =>
    rw [hraised]
    exact (outStream_modOut i j _ _).trans (if_neg hj)
  case stream =>
    rw [hraised]
    exact outStream_modOut_self i _ _

/-! ### The grant (R61, R94) -/

/-- An OUTBOUND_GRANT that is the arbiter's next grant (R91, R92). -/
theorem exec_outboundGrant_of_next {r : Fin 8} {n : LaneNo} {s : State} (read : KeyRead) (hreset : s.resetHeld = none)
    (hnext : nextGrant s = some (.traffic r, n)) (hr : r.1 < 4) :
    exec (.outboundGrant read) s = .next (grantOutbound (requesterLink r) n read (noteTrafficGrant r s)) := by
  show execOutboundGrant read s = _
  simp only [execOutboundGrant, unlessHeld, hreset, Option.isSome_none, Bool.false_eq_true, if_false, hnext, hr,
    if_true]

theorem grantOutbound_of_head {l : LinkNo} {n : LaneNo} {f : Frame} {rest : List Frame} {s : State} (read : KeyRead)
    (hqueue : (s.link l).outQueue = f :: rest) :
    grantOutbound l n read s =
      drainCheck l (disposeOut l n read f (classify s l f) (countMatch l f (s.modLink l Link.dropOutHead))) := by
  rw [grantOutbound, hqueue]

theorem Link.dropOutHead_of_head {k : Link} {f : Frame} {rest : List Frame} (hqueue : k.outQueue = f :: rest) :
    k.dropOutHead =
      if k.pauseAsserted = true ∧ occupancy rest ≤ k.settings.lowMark * 1024 then
        { k with outQueue := rest, pauseAsserted := false, pauseOwed := true }
      else { k with outQueue := rest } := by
  unfold Link.dropOutHead Link.departed
  rw [hqueue]
  rfl

/-- The head frame leaves the queue: its settings and its reorder list stay. -/
theorem Link.dropOutHead_keeps (k : Link) :
    k.dropOutHead.settings = k.settings ∧ k.dropOutHead.outList = k.outList := by
  unfold Link.dropOutHead Link.departed
  split <;> exact ⟨rfl, rfl⟩

/-- Counting a match writes the rules alone. -/
theorem countMatch_touches (l : LinkNo) (f : Frame) (s : State) : ∃ rs, countMatch l f s = { s with rules := rs } := by
  unfold countMatch
  split
  · exact ⟨_, rfl⟩
  · exact ⟨s.rules, rfl⟩

/-! ### The decision acted on, case by case (R61) -/

section Dispose

variable {l : LinkNo} {n : LaneNo} {read : KeyRead} {f : Frame} {d : Decision} {s : State}

theorem disposeOut_discard (h : d.action = .discard) :
    disposeOut l n read f d s =
      s.modLink l fun k =>
        { k with outCount := { k.outCount with classifier := count48 k.outCount.classifier 1 } } := by
  simp only [disposeOut, h]
  rfl

theorem disposeOut_passClear (h : d.action = .passClear) :
    disposeOut l n read f d s =
      if (s.link l).settings.campusMax < f.length then discardOversize l s
      else s.modLink l fun k => { k with outList := k.outList ++ [passItem .out l f] } := by
  simp only [disposeOut, h]

theorem disposeOut_protect_oversize (h : d.action = .protect) (hlong : (s.link l).settings.campusMax < f.length + 28) :
    disposeOut l n read f d s = discardOversize l s := by
  simp only [disposeOut, h]
  exact if_pos hlong

theorem disposeOut_protect_noKey (h : d.action = .protect) (hfits : f.length + 28 ≤ (s.link l).settings.campusMax)
    (hkey : ∀ a, (s.outStream d.stream).state ≠ .active a) :
    disposeOut l n read f d s =
      s.modOut d.stream fun st => { st with noKeyDiscards := count48 st.noKeyDiscards 1 } := by
  simp only [disposeOut, h]
  exact if_neg (Nat.not_lt.2 hfits)

theorem disposeOut_protect_active {a : SlotNo} (h : d.action = .protect)
    (hfits : f.length + 28 ≤ (s.link l).settings.campusMax) (hactive : (s.outStream d.stream).state = .active a) :
    disposeOut l n read f d s =
      if read = .uncorrectable then outStoreError d.stream a s
      else assign l n d.stream a f (d.keepTag && frameTagged f) (noteCorrection read s) := by
  simp only [disposeOut, h, hactive]
  exact if_neg (Nat.not_lt.2 hfits)

end Dispose

/-- An uncorrectable error on the ACTIVE slot: the slot leaves service, and the discard, the record and the notice are
those of the state before (R28). -/
theorem outStoreError_eq (i : StreamNo) (a : SlotNo) (s : State) :
    outStoreError i a s =
      raise .keyStoreError .none
        { leaveActive i a (s.modOutSlot i a fun sl => { sl with lastLoad := .storeError }) with
          storeDiscards := count48 s.storeDiscards 1
          storeError :=
            match s.storeError with
            | some e => some e
            | none => some (.out, i, a) } := by
  unfold outStoreError noteStoreError
  obtain ⟨o, nt, h⟩ := leaveActive_touches i a (s.modOutSlot i a fun sl => { sl with lastLoad := .storeError })
  rw [h]
  dsimp only [State.modOutSlot_storeDiscards, State.modOutSlot_storeError]
  cases s.storeError <;> rfl

/-- The PROTECT item of a frame, field by field (R34, R75, R76). -/
theorem protectItem_eq (s : State) (l : LinkNo) (n : LaneNo) (i : StreamNo) (a : SlotNo) (f : Frame) (tc : Bool) :
    protectItem s l n i a f tc =
      { dir := .out, link := l
        body := .protect { stream := i, slot := a, fn := (s.outSlot i a).nextFn, tagClear := tc }
          (f.take (if tc then 16 else 12) ++ bytesOfNat 2 s.envelopeType ++
            [0x01, (if a = 1 then 1 else 0) + (if tc then 2 else 0)] ++
            bytesOfNat 2 (s.outStream i).streamId ++ bytesOfNat 6 (s.outSlot i a).nextFn)
          ((f.take (f.length - 4)).drop (if tc then 16 else 12)) none
        length := f.length + 28
        state := .onLane n } := by
  have hflags : bytesOfNat 1 (a.1 + if tc then 2 else 0) = [(if a = 1 then 1 else 0) + (if tc then 2 else 0)] := by
    revert a tc; decide
  simp only [protectItem, sealAad, envelopeHeader, hflags, List.append_assoc, List.singleton_append]
  rfl

theorem noteCorrection_eq (read : KeyRead) (s : State) :
    noteCorrection read s =
      { s with
        storeCorrections := if read = .corrected then count48 s.storeCorrections 1 else s.storeCorrections } := by
  unfold noteCorrection
  split <;> rfl

/-- Settles O53: the grant is the disposal of the head frame on `base`, each case of the decision has its equation, and
a PROTECT item is `assign_effect` there. -/
theorem outboundGrants : Obligations.OutboundGrants := by
  intro r n read f rest s hreset hnext hr hqueue l d i k dropped base settled grants oversize
  have hdropped : k.dropOutHead = dropped := Link.dropOutHead_of_head hqueue
  obtain ⟨hsettings, hlist⟩ := hdropped ▸ k.dropOutHead_keeps
  obtain ⟨rs, hbase⟩ : ∃ rs, base = { noteTrafficGrant r s with links := putAt s.links l dropped, rules := rs } :=
    countMatch_touches l f _
  have hlink : base.link l = dropped := by rw [hbase]; exact get_putAt_self _ _ _
  have hmax : (base.link l).settings.campusMax = k.settings.campusMax := by rw [hlink, hsettings]
  have hstream : ∀ j, base.outStream j = s.outStream j := fun j => by rw [hbase]; rfl
  have hgrants : ∀ x, disposeOut l n read f d base = x → grants x := by
    rintro x rfl
    have hhead : (noteTrafficGrant r s).modLink l Link.dropOutHead =
        { noteTrafficGrant r s with links := putAt s.links l dropped } := by
      rw [← hdropped]
      rfl
    have hgrant := grantOutbound_of_head (l := l) (n := n) (s := noteTrafficGrant r s) read hqueue
    rw [hhead] at hgrant
    exact (exec_outboundGrant_of_next read hreset hnext hr).trans (congrArg Host.Outcome.next hgrant)
  refine ⟨fun hd => ?discard, fun hd hlong => ?passLong, fun hd hfits => ?pass, fun hd hlong => ?protectLong,
    fun hd hfits => ⟨fun hkey => ?noKey, fun a hactive hread => ?storeError, fun a x hactive hread hx => ?protect⟩⟩
  case discard => exact hgrants _ (disposeOut_discard hd)
  case passLong => exact hgrants _ ((disposeOut_passClear hd).trans (if_pos (hmax ▸ hlong)))
  case pass => exact hgrants _ ((disposeOut_passClear hd).trans (if_neg (hmax ▸ Nat.not_lt.2 hfits)))
  case protectLong => exact hgrants _ (disposeOut_protect_oversize hd (hmax ▸ hlong))
  case noKey => exact hgrants _ (disposeOut_protect_noKey hd (hmax ▸ hfits) fun a => hstream i ▸ hkey a)
  case storeError =>
    refine hgrants _ ?_
    rw [disposeOut_protect_active hd (hmax ▸ hfits) (hstream i ▸ hactive), if_pos hread, outStoreError_eq, hbase]
    rfl
  case protect =>
    intro sl other p tagClear h bytes accrued due ends leaves onward item
    generalize hcorrected : noteCorrection read base = b
    have hb : b = { base with
        storeCorrections := if read = .corrected then count48 s.storeCorrections 1 else s.storeCorrections } := by
      rw [← hcorrected, noteCorrection_eq, hbase]
      rfl
    have hbstream : ∀ j, b.outStream j = s.outStream j := fun j => by rw [hb]; exact hstream j
    have hbslot : b.outSlot i a = sl := by rw [State.outSlot, hbstream]; rfl
    have hitem : protectItem b l n i a f tagClear = item := by
      have henvelope : b.envelopeType = s.envelopeType := by rw [hb, hbase]; rfl
      rw [protectItem_eq, hbslot, hbstream, henvelope]
    obtain ⟨y, hassign, hframe, hothers, hafter, hnotices⟩ :=
      assign_effect l n i a f tagClear (hbstream i ▸ hactive) ((congrArg OutSlot.secret hbslot).trans hx)
    rw [hbslot] at hassign hframe
    rw [hbstream] at hnotices
    replace hafter : y.outStream i = (s.outStream i).afterAssignment a bytes := hbstream i ▸ hafter
    have hdue : (s.outStream i).dueAtNumber a bytes = due := OutStream.dueAtNumber_eq a bytes _
    have hleaves : (s.outStream i).leavesAtNumber a bytes = leaves := OutStream.leavesAtNumber_eq a bytes _
    have honward : (s.outStream i).goesOn a bytes = onward := by rw [OutStream.goesOn, hleaves]; rfl
    have hexec : disposeOut l n read f d base = triggersEvent (.assigned i p) y := by
      rw [disposeOut_protect_active hd (hmax ▸ hfits) (hstream i ▸ hactive), if_neg hread, hcorrected]
      exact hassign
    have hquiet : y.notices = (raiseAssignment i a bytes (s.outStream i) s).notices :=
      hnotices.trans (raiseAssignment_notices_congr (by rw [hb, hbase]; rfl))
    have hraised := raiseAssignment_notices i a bytes (s.outStream i) s
    simp only [← hquiet, hdue, hleaves, honward] at hraised
    refine ⟨y, y.outs, y.notices, hgrants _ hexec, ?frame, fun j hj => (hothers j hj).trans (hbstream j), ?stream,
      ?slot, ?otherSlot, hraised⟩
    case frame =>
      have hblink : b.link l = dropped := by rw [hb]; exact hlink
      have hblanes : b.lanes = s.lanes := by rw [hb, hbase]; rfl
      refine hframe.trans ?_
      rw [hblink, hblanes, hlist, hitem, hb]
      rfl
    case stream =>
      have hassigned := OutStream.afterAssignment_eq bytes hactive
      rw [hleaves, honward] at hassigned
      rw [hafter]
      exact hassigned
    case slot =>
      rw [State.outSlot, hafter, OutStream.afterAssignment_slot, hleaves, hdue]
      rfl
    case otherSlot =>
      rw [State.outSlot, hafter, OutStream.afterAssignment_otherSlot, honward]
      rfl

end Sys2Proof.Machine
end

section
/-! SUPPORT. DEVICE_SETUP (R74): requests that their own checks refuse, and the checks on the envelope type, the rotation
and the links. -/

namespace Sys2Proof.Machine

/-! ### Requests refused by their own checks -/

/-- A check that fails refuses, whatever stands behind it (R183). -/
theorem checked_cons_of_fails {fails : Bool} (r : ReqRefusal) (rest : List (Bool × ReqRefusal)) (a : Answer)
    (h : fails = true) : checked ((fails, r) :: rest) a = refuse r := by
  subst h; rfl

/-- A request of fitting length that the part takes in RUNNING, and that its own checks refuse, changes nothing but the
reply (R180, R181, R183). -/
theorem takeRequest_refused {r : Request} {ps : List Byte} {s : State} {e : ReqRefusal} (hs : s.serves)
    (hfits : r.fits ps = true) (hjudge : r.judge ps s = refuse e) :
    takeRequest r ps s = answersRefused r.code (BitVec.ofNat 8 e.classCode) (BitVec.ofNat 8 e.detail) s := by
  obtain ⟨⟨hreset, hreply⟩, hmode⟩ := hs
  have hjudged : judgement r ps s = refuse e := by
    simp only [judgement, hfits, hmode, modeRefusal, not_true_eq_false, if_false, hjudge]
  have hanswer :
      answerRequest r ps s = answersRefused r.code (BitVec.ofNat 8 e.classCode) (BitVec.ofNat 8 e.detail) s := by
    rw [answerRequest, hjudged]
    simp [refuse, answersRefused, refusedReply, bytesOfNat]
  simp only [takeRequest, recordArrives, hreset, hreply, Option.isSome_none, Bool.false_eq_true, if_false, hanswer]

/-! ### DEVICE_SETUP (R74) -/

theorem anyLinkRuns_eq_true_iff (s : State) : anyLinkRuns s = true ↔ ∃ l, (s.link l).state ≠ .off := by
  simp only [anyLinkRuns, List.any_eq_true, mem_toList_iff, exists_exists_eq_and, decide_eq_true_eq, State.link]

theorem anyLinkRuns_eq_false_iff (s : State) : anyLinkRuns s = false ↔ ∀ l, (s.link l).state = .off := by
  rw [← Bool.not_eq_true, anyLinkRuns_eq_true_iff]; simp

/-- The envelope types that DEVICE_SETUP's first check lets pass. -/
theorem envelopeType_passes_iff (envelope : Nat) :
    (decide (envelope < 0x0600) || envelope == 0x8100) = false ↔ 0x0600 ≤ envelope ∧ envelope ≠ 0x8100 := by
  simp

/-- The rotations that its second check lets pass. -/
theorem rotation_passes_iff (rotation : Nat) :
    (decide (rotation = 0) || decide (7 < rotation)) = false ↔ 1 ≤ rotation ∧ rotation ≤ 7 := by
  simp [Nat.one_le_iff_ne_zero]

/-- Settles O22: the three checks of R74 in their order. -/
theorem deviceSetupWrites : Obligations.DeviceSetupWrites := by
  intro ps s hs hlen envelope rotation good
  have hfits : reqDeviceSetup.fits ps = true := by simp [reqDeviceSetup, hlen]
  have hrefused (e : ReqRefusal) (hjudge : reqDeviceSetup.judge ps s = refuse e) :
      exec (.deviceSetup ps) s =
        .next (answersRefused 0x10 (BitVec.ofNat 8 e.classCode) (BitVec.ofNat 8 e.detail) s) :=
    congrArg Host.Outcome.next (takeRequest_refused hs hfits hjudge)
  have htype := envelopeType_passes_iff envelope
  have hrotation := rotation_passes_iff rotation
  refine ⟨fun hgood hlow hhigh hoff => ?written, fun hbad => hrefused (badParameter 0x19) ?type,
    fun hgood hbad => hrefused (badParameter 0x1A) ?rotation,
    fun hgood hlow hhigh hruns => hrefused (wrongState 0x03) ?running⟩
  case written =>
    refine congrArg Host.Outcome.next (takeRequest_done hs hfits ?_)
    dsimp only [reqDeviceSetup]
    rw [checked_cons_of_passes _ _ _ (htype.2 hgood), checked_cons_of_passes _ _ _ (hrotation.2 ⟨hlow, hhigh⟩),
      checked_cons_of_passes _ _ _ ((anyLinkRuns_eq_false_iff s).2 hoff), checked_nil]
  case type =>
    exact checked_cons_of_fails _ _ _ (Bool.of_not_eq_false (mt htype.1 hbad))
  case rotation =>
    dsimp only [reqDeviceSetup]
    rw [checked_cons_of_passes _ _ _ (htype.2 hgood)]
    exact checked_cons_of_fails _ _ _ (Bool.of_not_eq_false (mt hrotation.1 (by omega)))
  case running =>
    dsimp only [reqDeviceSetup]
    rw [checked_cons_of_passes _ _ _ (htype.2 hgood), checked_cons_of_passes _ _ _ (hrotation.2 ⟨hlow, hhigh⟩)]
    exact checked_cons_of_fails _ _ _ ((anyLinkRuns_eq_true_iff s).2 hruns)

end Sys2Proof.Machine
end

section
/-! SUPPORT. The envelope's round trip (chapter 4): frames that end in their FCS, the header's fields where the far end
reads them, and a protected frame cut up again. -/

namespace Sys2Proof.Machine

/-! ### Frames closed with their FCS (R78) -/

@[simp] theorem length_bytesOfBits {w : Nat} (n : Nat) (v : BitVec w) : (bytesOfBits n v).length = n :=
  length_bytesOfNat n v.toNat

@[simp] theorem length_withFcs (body : List Byte) : (withFcs body).length = body.length + 4 := by simp [withFcs]

@[simp] theorem frameBody_withFcs (body : List Byte) : frameBody (withFcs body) = body := by
  rw [frameBody, length_withFcs, Nat.add_sub_cancel]
  exact List.take_left

@[simp] theorem frameFcs_withFcs (body : List Byte) : frameFcs (withFcs body) = bytesOfBits 4 (Config.fcs body) := by
  rw [frameFcs, length_withFcs, Nat.add_sub_cancel]
  exact List.drop_left

/-- A frame the part closes itself passes the receive check when its length does (R131). -/
theorem receivedGood_withFcs {body : List Byte} (hmin : 60 ≤ body.length) (hmax : body.length ≤ 9724) :
    receivedGood (withFcs body) = true := by
  simp [receivedGood, hmin, hmax]

/-- A frame with a right FCS is its body closed again. -/
theorem withFcs_frameBody {f : Frame} (h : receivedGood f = true) : withFcs (frameBody f) = f := by
  have hfcs : frameFcs f = bytesOfBits 4 (Config.fcs (frameBody f)) := by
    simp only [receivedGood, Bool.and_eq_true, decide_eq_true_eq] at h
    exact h.2
  rw [withFcs, ← hfcs]
  exact List.take_append_drop _ f

/-! ### Reading behind and inside leading bytes -/

/-- A byte skips the bytes before it. -/
theorem byteAt_skip (xs ys : List Byte) (i : Nat) : byteAt (xs ++ ys) (xs.length + i) = byteAt ys i := by
  rw [byteAt_eq_numAt, numAt_skip, ← byteAt_eq_numAt]

/-- A number within the bytes kept of a frame reads as it did in the frame. -/
theorem numAt_take_append {i n k : Nat} {f : List Byte} (rest : List Byte) (hin : i + n ≤ k) (hk : k ≤ f.length) :
    numAt (f.take k ++ rest) i n = numAt f i n := by
  have hfront : ((f.take k).drop i).length = k - i := by simp [hk]
  rw [numAt, List.drop_append_of_le_length (by simp; omega), List.take_append_of_le_length (by omega), List.drop_take,
    List.take_take, min_eq_left (by omega), numAt]

/-! ### The envelope header (R75) -/

/-- The flags byte: key phase in bit 0, tag-clear in bit 1 (`byteAt_envelopeHeader_flags`). -/
def headerFlags (slot : SlotNo) (tagClear : Bool) : Nat := slot.1 + if tagClear then 2 else 0

/-- The flags stay within the two bits that R80 allows, and spell the tag-clear mark and the key phase. -/
theorem headerFlags_reads (slot : SlotNo) (tagClear : Bool) :
    headerFlags slot tagClear < 4 ∧ decide (headerFlags slot tagClear / 2 % 2 = 1) = tagClear ∧
      (if headerFlags slot tagClear % 2 = 1 then 1 else 0) = slot := by
  revert slot tagClear; decide

section Header
variable {envelope streamId fn : Nat} {slot : SlotNo} {tagClear : Bool}

@[simp] theorem length_envelopeHeader : (envelopeHeader envelope slot tagClear streamId fn).length = 12 := by
  simp [envelopeHeader]

theorem numAt_envelopeHeader_type (rest : List Byte) (h : envelope < 2 ^ 16) :
    numAt (envelopeHeader envelope slot tagClear streamId fn ++ rest) 0 2 = envelope := by
  simp only [envelopeHeader, List.append_assoc]
  exact numAt_front _ 2 envelope h

theorem byteAt_envelopeHeader_version (rest : List Byte) :
    byteAt (envelopeHeader envelope slot tagClear streamId fn ++ rest) 2 = 0x01 := rfl

theorem byteAt_envelopeHeader_flags (rest : List Byte) :
    byteAt (envelopeHeader envelope slot tagClear streamId fn ++ rest) 3 = headerFlags slot tagClear := by
  have hflags : headerFlags slot tagClear < 256 := (headerFlags_reads slot tagClear).1.trans (by decide)
  have := byteAt_after (bytesOfNat 2 envelope ++ [0x01]) (bytesOfNat 2 streamId ++ bytesOfNat 6 fn ++ rest) 3 _
    (by simp) hflags
  simpa [envelopeHeader, headerFlags] using this

theorem numAt_envelopeHeader_streamId (rest : List Byte) (h : streamId < 2 ^ 16) :
    numAt (envelopeHeader envelope slot tagClear streamId fn ++ rest) 4 2 = streamId := by
  have := numAt_after (bytesOfNat 2 envelope ++ [0x01] ++ bytesOfNat 1 (headerFlags slot tagClear))
    (bytesOfNat 6 fn ++ rest) 4 2 streamId (by simp) h
  simpa [envelopeHeader, headerFlags] using this

theorem numAt_envelopeHeader_fn (rest : List Byte) (h : fn ≤ Config.maxFn) :
    numAt (envelopeHeader envelope slot tagClear streamId fn ++ rest) 6 6 = fn := by
  have hfn : fn < 256 ^ 6 := lt_of_le_of_lt h (by decide)
  have := numAt_after (bytesOfNat 2 envelope ++ [0x01] ++ bytesOfNat 1 (headerFlags slot tagClear) ++
    bytesOfNat 2 streamId) rest 6 6 fn (by simp) hfn
  simpa [envelopeHeader, headerFlags] using this

/-! ### What the far end reads from the associated data (R79, R80) -/

theorem clearBytes_le (tagClear : Bool) : clearBytes tagClear ≤ 16 := by cases tagClear <;> decide

/-- The clear bytes of a frame are all there. -/
theorem length_clearTake {f : Frame} (hf : 16 ≤ f.length) :
    (f.take (clearBytes tagClear)).length = clearBytes tagClear := by
  have := clearBytes_le tagClear
  rw [List.length_take, min_eq_left (by omega)]

/-- The header stands behind the clear bytes. -/
theorem sealAad_append (f : Frame) (tagClear : Bool) (header rest : List Byte) :
    sealAad f tagClear header ++ rest = f.take (clearBytes tagClear) ++ (header ++ rest) :=
  List.append_assoc _ _ _

/-- The associated data reaches to the ciphertext (R76, R82). -/
theorem length_sealAad {f : Frame} (hf : 16 ≤ f.length) :
    (sealAad f tagClear (envelopeHeader envelope slot tagClear streamId fn)).length = cipherStart tagClear := by
  rw [sealAad, List.length_append, length_clearTake hf, length_envelopeHeader, cipherStart]

/-- A frame that begins with associated data of R76 is recognised with its own mark: by the first type field, or, behind
a tag kept clear, by the one after the tag (R79). -/
theorem recognise_sealAad {f : Frame} (rest : List Byte) (hf : 16 ≤ f.length) (htype : envelope < 2 ^ 16)
    (hne : envelope ≠ 0x8100) (htag : tagClear = true → frameTagged f = true) :
    recognise envelope (sealAad f tagClear (envelopeHeader envelope slot tagClear streamId fn) ++ rest) =
      some tagClear := by
  have hfield : numAt (sealAad f tagClear (envelopeHeader envelope slot tagClear streamId fn) ++ rest)
      (clearBytes tagClear) 2 = envelope := by
    have h := numAt_skip (f.take (clearBytes tagClear)) (envelopeHeader envelope slot tagClear streamId fn ++ rest) 0 2
    rw [length_clearTake hf, numAt_envelopeHeader_type rest htype] at h
    rwa [sealAad_append]
  cases tagClear with
  | false => exact if_pos hfield
  | true =>
    have hfirst : frameType (sealAad f true (envelopeHeader envelope slot true streamId fn) ++ rest) = 0x8100 := by
      rw [sealAad_append]
      exact (numAt_take_append _ (by decide) hf).trans (beq_iff_eq.1 (htag rfl))
    rw [recognise, if_neg (by rw [hfirst]; exact hne.symm), if_pos ⟨hfirst, hfield⟩]

/-- A frame of at least 92 bytes that begins with associated data of R76 parses without error to what its header was
made of (R80, R82). -/
theorem parseHeader_sealAad {f : Frame} (rest : List Byte) (hf : 16 ≤ f.length)
    (hlen : 92 ≤ (sealAad f tagClear (envelopeHeader envelope slot tagClear streamId fn) ++ rest).length)
    (hid : streamId < 2 ^ 16) (hfn : 1 ≤ fn) (hmax : fn ≤ Config.maxFn) :
    parseHeader (sealAad f tagClear (envelopeHeader envelope slot tagClear streamId fn) ++ rest) tagClear =
      .ok { streamId := streamId, phase := slot, fn := fn, tagClear := tagClear } := by
  obtain ⟨hflags, hmark, hphase⟩ := headerFlags_reads slot tagClear
  have hstart : clearBytes tagClear = (f.take (clearBytes tagClear)).length := (length_clearTake hf).symm
  rw [parseHeader, if_neg (not_lt.2 hlen), sealAad_append]
  generalize f.take (clearBytes tagClear) = front at hstart
  simp only [hstart, byteAt_skip, numAt_skip, byteAt_envelopeHeader_version, byteAt_envelopeHeader_flags,
    numAt_envelopeHeader_streamId rest hid, numAt_envelopeHeader_fn rest hmax]
  simp [not_le.2 hflags, hmark, hphase, Nat.one_le_iff_ne_zero.1 hfn]

end Header

/-! ### The bytes to be encrypted (R76, R77) -/

/-- The clear bytes and the bytes to be encrypted are the frame without its FCS. -/
theorem clearTake_append_sealPlain {f : Frame} (tagClear : Bool) (hf : 20 ≤ f.length) :
    f.take (clearBytes tagClear) ++ sealPlain f tagClear = frameBody f := by
  have hclear := clearBytes_le tagClear
  have htake : f.take (clearBytes tagClear) = (frameBody f).take (clearBytes tagClear) := by
    rw [frameBody, List.take_take, min_eq_left (by omega)]
  rw [htake, sealPlain, List.take_append_drop]

theorem length_sealPlain (f : Frame) (tagClear : Bool) :
    (sealPlain f tagClear).length = encryptedLength f.length tagClear := by
  simp only [sealPlain, frameBody, List.length_drop, List.length_take, clearBytes, encryptedLength]
  split <;> omega

/-- Associated data and as many bytes as were encrypted are 8 bytes longer than the frame: the header's 12 for the
FCS's 4 (R77). -/
theorem length_sealed {f : Frame} {tagClear : Bool} (hf : 20 ≤ f.length) :
    cipherStart tagClear + encryptedLength f.length tagClear = f.length + 8 := by
  simp only [cipherStart, clearBytes, encryptedLength]
  split <;> omega

/-- The rack frame rebuilt from associated data of R76 and its plaintext (R78, R83). -/
theorem rebuiltFrame_sealed {f : Frame} (ref : KeyRef) (header : List Byte) (hf : 20 ≤ f.length) :
    rebuiltFrame ref (sealAad f ref.tagClear header) (sealPlain f ref.tagClear) = withFcs (frameBody f) := by
  have hclear := length_clearTake (tagClear := ref.tagClear) (show 16 ≤ f.length by omega)
  rw [rebuiltFrame, sealAad, List.take_append_of_le_length hclear.ge, List.take_take, min_self,
    clearTake_append_sealPlain _ hf]

/-! ### The protected frame cut up again (R82) -/

section Sent
variable (ref : KeyRef) (aad cipher : List Byte) (tag : BitVec 128)

theorem sentFrame_protect : sentFrame (.protect ref aad cipher (some tag)) =
    withFcs (aad ++ cipher ++ bytesOfBits 16 tag) := rfl

/-- The protected frame in the order the far end cuts it. -/
theorem sentFrame_protect_parts : sentFrame (.protect ref aad cipher (some tag)) =
    aad ++ (cipher ++ (bytesOfBits 16 tag ++ bytesOfBits 4 (Config.fcs (aad ++ cipher ++ bytesOfBits 16 tag)))) := by
  simp [sentFrame_protect, withFcs]

@[simp] theorem length_sentFrame_protect :
    (sentFrame (.protect ref aad cipher (some tag))).length = aad.length + cipher.length + 20 := by
  simp only [sentFrame_protect, length_withFcs, List.length_append, length_bytesOfBits]

theorem receivedGood_sentFrame_protect (hmin : 44 ≤ aad.length + cipher.length)
    (hmax : aad.length + cipher.length ≤ 9708) :
    receivedGood (sentFrame (.protect ref aad cipher (some tag))) = true := by
  have hbody : (aad ++ cipher ++ bytesOfBits 16 tag).length = aad.length + cipher.length + 16 := by
    simp only [List.length_append, length_bytesOfBits]
  rw [sentFrame_protect]
  exact receivedGood_withFcs (by omega) (by omega)

theorem openTag_sentFrame : openTag (sentFrame (.protect ref aad cipher (some tag))) = tag := by
  have hstart : (sentFrame (.protect ref aad cipher (some tag))).length - 20 = (aad ++ cipher).length := by simp
  have hbody : frameBody (sentFrame (.protect ref aad cipher (some tag))) = aad ++ cipher ++ bytesOfBits 16 tag := by
    rw [sentFrame_protect, frameBody_withFcs]
  have hlt : tag.toNat < 256 ^ 16 := tag.isLt
  rw [openTag, hstart, hbody, List.drop_left, bytesOfBits, natOfBytes_bytesOfNat, Nat.mod_eq_of_lt hlt,
    BitVec.ofNat_toNat, BitVec.setWidth_eq]

variable {aad} {tagClear : Bool} (haad : aad.length = cipherStart tagClear)
include haad

theorem openAad_sentFrame : openAad (sentFrame (.protect ref aad cipher (some tag))) tagClear = aad := by
  rw [openAad, sentFrame_protect_parts, ← haad]
  exact List.take_left

theorem openCipher_sentFrame : openCipher (sentFrame (.protect ref aad cipher (some tag))) tagClear = cipher := by
  have hend : (sentFrame (.protect ref aad cipher (some tag))).length - 20 = (aad ++ cipher).length := by simp
  rw [openCipher, hend, sentFrame_protect_parts, ← List.append_assoc, List.take_left, ← haad, List.drop_left]

end Sent

/-- Settles O58: the associated data stands in front of the sent frame, so the far end's fields are those of R75, and the
cuts of R82 fall where the sealing put its parts together. -/
theorem envelopesOpenAsTheyWereSealed : Obligations.EnvelopesOpenAsTheyWereSealed := by
  intro f envelope streamId fn slot stream tagClear cipher tag hmin hmax _ htype hne hid hfn hfnMax htag aad plain ref
    sent hcipher
  have haad : aad.length = cipherStart tagClear := length_sealAad (by omega)
  have hplain : plain.length = encryptedLength f.length tagClear := length_sealPlain f tagClear
  have hparts : aad.length + cipher.length = f.length + 8 := by
    rw [haad, hcipher, hplain, length_sealed (by omega)]
  have hlength : sent.length = f.length + 28 := by
    rw [length_sentFrame_protect, hparts]
  obtain ⟨rest, hsent⟩ : ∃ rest, sent = aad ++ rest := ⟨_, sentFrame_protect_parts ref aad cipher tag⟩
  have hrebuilt : rebuiltFrame ref aad plain = withFcs (frameBody f) := rebuiltFrame_sealed ref _ (by omega)
  refine ⟨receivedGood_sentFrame_protect _ _ _ _ (by omega) (by omega), hlength, hplain, ?recognised, ?parsed,
    openAad_sentFrame _ _ _ haad, openCipher_sentFrame _ _ _ haad, openTag_sentFrame _ _ _ _, hrebuilt,
    fun hgood => hrebuilt.trans (withFcs_frameBody hgood)⟩
  case recognised =>
    rw [hsent]
    exact recognise_sealAad rest (by omega) htype hne htag
  case parsed =>
    have hlong : 92 ≤ (aad ++ rest).length := by rw [← hsent]; omega
    rw [hsent]
    exact parseHeader_sealAad rest (by omega) hlong hid hfn hfnMax

end Sys2Proof.Machine
end

section
/-! SUPPORT. The arbiter (R89 to R92): which lanes are free, who requests, and what the next grant is. -/

namespace Sys2Proof.Machine

/-! ### Who requests (R90) -/

/-- An outbound requester requests while its queue holds a frame and its list has room (R90). -/
theorem trafficRequests_out_iff {s : State} {r : Fin 8} (hr : r.1 < 4) :
    trafficRequests s r = true ↔
      (s.link (requesterLink r)).outQueue ≠ [] ∧ (s.link (requesterLink r)).outList.length < Config.listCapacity := by
  simp [trafficRequests, hr]

/-- An inbound requester likewise (R90). -/
theorem trafficRequests_in_iff {s : State} {r : Fin 8} (hr : ¬ r.1 < 4) :
    trafficRequests s r = true ↔
      (s.link (requesterLink r)).inQueue ≠ [] ∧ (s.link (requesterLink r)).inList.length < Config.listCapacity := by
  simp [trafficRequests, hr]

theorem keyUnitRequests_iff (s : State) :
    keyUnitRequests s = true ↔ s.keyUnit.jobs ≠ [] ∧ s.keyUnit.working = none := by
  simp [keyUnitRequests]

/-! ### The search round the pointer and the lowest free lane (R91, R92) -/

/-- The first that passes a test in the order of the search, by its distance from the pointer. -/
theorem find?_searchOrder_eq_some {p d : Fin 8} {q : Fin 8 → Bool} (hd : q (p + d) = true)
    (hbelow : ∀ d' < d, ¬ q (p + d') = true) : (searchOrder p).find? q = some (p + d) := by
  rw [searchOrder, List.find?_map, find?_finRange_eq_some (p := q ∘ fun n => p + n) hd hbelow]
  rfl

theorem freeLane_eq_some {s : State} {n : LaneNo} (hn : s.lanesEnabled.getLsbD n.1 = true ∧ s.lanes.get n = .free)
    (hbelow : ∀ m < n, ¬ (s.lanesEnabled.getLsbD m.1 = true ∧ s.lanes.get m = .free)) : freeLane s = some n :=
  find?_finRange_eq_some (by simpa using hn) fun m hm => by simpa using hbelow m hm

theorem freeLane_eq_none {s : State}
    (h : ∀ m : LaneNo, ¬ (s.lanesEnabled.getLsbD m.1 = true ∧ s.lanes.get m = .free)) : freeLane s = none := by
  simpa [freeLane] using h

/-! ### The requester chosen (R92) -/

theorem chooseRequester_keyUnit {s : State} (hunit : keyUnitRequests s = true)
    (hturn : s.arbiter.rotation ≤ s.arbiter.count ∨ ∀ r, ¬ trafficRequests s r = true) :
    chooseRequester s = some .keyUnit := by
  have hidle : (∀ r, ¬ trafficRequests s r = true) →
      (searchOrder s.arbiter.pointer).find? (trafficRequests s) = none := fun h =>
    List.find?_eq_none.2 fun r _ => h r
  refine if_pos ?_
  rw [hunit, Bool.true_and, Bool.or_eq_true, decide_eq_true_eq, Option.isNone_iff_eq_none]
  exact hturn.imp_right hidle

theorem chooseRequester_traffic {s : State} {d : Fin 8}
    (hunit : ¬ (keyUnitRequests s = true ∧ s.arbiter.rotation ≤ s.arbiter.count))
    (hd : trafficRequests s (s.arbiter.pointer + d) = true)
    (hbelow : ∀ d' < d, ¬ trafficRequests s (s.arbiter.pointer + d') = true) :
    chooseRequester s = some (.traffic (s.arbiter.pointer + d)) := by
  unfold chooseRequester
  rw [find?_searchOrder_eq_some hd hbelow]
  simpa using hunit

theorem chooseRequester_none {s : State} (hunit : ¬ keyUnitRequests s = true)
    (htraffic : ∀ r, ¬ trafficRequests s r = true) : chooseRequester s = none := by
  unfold chooseRequester
  rw [List.find?_eq_none.2 fun r _ => htraffic r]
  simpa using hunit

/-- A traffic requester that is chosen requests (R90, R92). -/
theorem trafficRequests_of_chooseRequester {s : State} {r : Fin 8} (h : chooseRequester s = some (.traffic r)) :
    trafficRequests s r = true := by
  unfold chooseRequester at h
  dsimp only at h
  split at h
  · cases h
  · simp only [Option.map_eq_some_iff, Requester.traffic.injEq] at h
    obtain ⟨_, hfound, rfl⟩ := h
    exact List.find?_some hfound

/-! ### The next grant (R89, R91, R107) -/

theorem nextGrant_eq_none_of_not_running {s : State} (h : s.mode ≠ .running) : nextGrant s = none := if_neg h

theorem nextGrant_eq_none_of_freeLane {s : State} (h : freeLane s = none) : nextGrant s = none := by
  unfold nextGrant
  rw [h]
  split
  · cases chooseRequester s <;> rfl
  · rfl

/-- In RUNNING with a lane free, the grant goes to the requester chosen, if there is one. -/
theorem nextGrant_of_freeLane {s : State} {n : LaneNo} (hmode : s.mode = .running) (hlane : freeLane s = some n) :
    nextGrant s = (chooseRequester s).map fun r => (r, n) := by
  unfold nextGrant
  rw [if_pos hmode, hlane]
  cases chooseRequester s <;> rfl

/-- The arbiter grants to a traffic requester that requests. -/
theorem trafficRequests_of_nextGrant {s : State} {r : Fin 8} {n : LaneNo} (h : nextGrant s = some (.traffic r, n)) :
    trafficRequests s r = true := by
  unfold nextGrant at h
  split at h
  · split at h
    next hchosen _ => cases h; exact trafficRequests_of_chooseRequester hchosen
    next => cases h
  · cases h

/-- A grant command of another kind than the next grant changes nothing (log entry 1). -/
theorem unlessHeld_eq_self {f : State → State} {s : State} (h : f s = s) : unlessHeld f s = s := by
  unfold unlessHeld
  rw [h, ite_self]

/-- Settles O51: the search round the pointer finds the next requester, the search of the lanes the lowest FREE one, and
each grant command asks for the next grant to be of its kind. -/
theorem grantsAreArbitrated : Obligations.GrantsAreArbitrated := by
  intro n s requests unit free
  have hrequests : ∀ r, requests r ↔ trafficRequests s r = true := fun r => by
    by_cases hr : r.1 < 4
    · simp only [requests, hr, if_true, trafficRequests_out_iff hr]; rfl
    · simp only [requests, hr, if_false, trafficRequests_in_iff hr]; rfl
  have hunit : unit ↔ keyUnitRequests s = true := (keyUnitRequests_iff s).symm
  simp only [hrequests, hunit]
  refine ⟨fun _ => rfl, ?noLane, fun hmode hn hbelow => ?granted, fun r => ?noted, fun read h => ?outbound,
    fun read h => ?inbound, fun h => ?keyUnit⟩
  case noLane =>
    rintro (hmode | hbusy)
    · exact nextGrant_eq_none_of_not_running hmode
    · exact nextGrant_eq_none_of_freeLane (freeLane_eq_none hbusy)
  case granted =>
    rw [nextGrant_of_freeLane hmode (freeLane_eq_some hn hbelow)]
    refine ⟨fun hu hturn => ?_, fun d hu hd hnone => ?_, fun hu hidle => ?_⟩
    · rw [chooseRequester_keyUnit hu hturn]; rfl
    · rw [chooseRequester_traffic hu hd hnone]; rfl
    · rw [chooseRequester_none hu hidle]; rfl
  case noted =>
    have hcount : min (s.arbiter.count + 1) 7 = if s.arbiter.count < 7 then s.arbiter.count + 1 else 7 := by
      split <;> omega
    rw [noteTrafficGrant, hcount]
  case outbound =>
    refine congrArg Host.Outcome.next (unlessHeld_eq_self ?_)
    split
    next r m hnext => exact if_neg fun hr => h r m hr hnext
    next => rfl
  case inbound =>
    refine congrArg Host.Outcome.next (unlessHeld_eq_self ?_)
    split
    next r m hnext => exact if_pos (Nat.lt_of_not_le fun hr => h r m hr hnext)
    next => rfl
  case keyUnit =>
    refine congrArg Host.Outcome.next (unlessHeld_eq_self ?_)
    split
    next m hnext => exact absurd hnext (h m)
    next => rfl

end Sys2Proof.Machine
end

section
/-! SUPPORT. Releases (R99 to R101): the heads of the reorder lists taken in order, what a release writes and when a
drain ends with it. -/

namespace Sys2Proof.Machine

/-! ### Updates of one link and of one inbound stream -/

/-- An update of a link is what it makes of the link as it is. -/
theorem State.modLink_congr {l : LinkNo} {f g : Link → Link} {s : State} (h : f (s.link l) = g (s.link l)) :
    s.modLink l f = s.modLink l g := by
  rw [State.modLink_eq, State.modLink_eq, h]

/-- An update of an inbound stream is what it makes of the stream as it is. -/
theorem State.modIn_congr {i : StreamNo} {f g : InStream → InStream} {s : State}
    (h : f (s.inStream i) = g (s.inStream i)) : s.modIn i f = s.modIn i g := by
  unfold State.modIn
  exact congrArg (fun st => { s with ins := putAt s.ins i st }) h

/-- Two updates of one inbound stream are one update. -/
theorem State.modIn_modIn (i : StreamNo) (f g : InStream → InStream) (s : State) :
    (s.modIn i f).modIn i g = s.modIn i fun st => g (f st) := by
  simp only [State.modIn, get_putAt_self, putAt_putAt]

/-! ### What a release shares with others -/

theorem unlessHeld_of_not_held {f : State → State} {s : State} (h : s.resetHeld = none) : unlessHeld f s = f s := by
  rw [unlessHeld, h]
  rfl

/-- A DRAINING link left empty enters OFF and keeps the cause recorded when the drain began (R134). -/
theorem drainCheck_eq (l : LinkNo) (s : State) :
    drainCheck l s =
      if (s.link l).state = .draining ∧ (s.link l).quiet = true then
        raise .linkStopped (.link l) (s.modLink l fun k => { k with state := .off, pacer := Pacer.idle })
      else s :=
  if_congr Iff.rfl (congrArg (raise .linkStopped (.link l)) (State.modLink_congr rfl)) rfl

/-- The last item of a DRAINING outbound slot (R14). -/
theorem outItemLeft_of_last {i : StreamNo} {k : SlotNo} {s : State} (hstate : (s.outSlot i k).state = .draining)
    (hlast : (s.outSlot i k).inFlight = 1) :
    outItemLeft i k s =
      raise .slotFreed (.outStream i) (s.modOutSlot i k fun sl => OutSlot.empty sl.lastLoad) :=
  if_pos ⟨hstate, hlast.le⟩

theorem outItemLeft_of_more {i : StreamNo} {k : SlotNo} {s : State}
    (h : (s.outSlot i k).state ≠ .draining ∨ 2 ≤ (s.outSlot i k).inFlight) :
    outItemLeft i k s = s.modOutSlot i k fun sl => { sl with inFlight := sl.inFlight - 1 } :=
  if_neg fun ⟨hstate, hlast⟩ => h.elim (fun hs => hs hstate) (fun hmore => by omega)

/-- The last item of a DRAINING inbound slot (R14). -/
theorem inItemLeft_of_last {i : StreamNo} {k : SlotNo} {s : State} (hstate : (s.inSlot i k).state = .draining)
    (hlast : (s.inSlot i k).inFlight = 1) :
    inItemLeft i k s = raise .slotFreed (.inStream i) (s.modInSlot i k fun sl => InSlot.empty sl.lastLoad) :=
  if_pos ⟨hstate, hlast.le⟩

theorem inItemLeft_of_more {i : StreamNo} {k : SlotNo} {s : State}
    (h : (s.inSlot i k).state ≠ .draining ∨ 2 ≤ (s.inSlot i k).inFlight) :
    inItemLeft i k s = s.modInSlot i k fun sl => { sl with inFlight := sl.inFlight - 1 } :=
  if_neg fun ⟨hstate, hlast⟩ => h.elim (fun hs => hs hstate) (fun hmore => by omega)

/-- A PASS item has no slot (R11). -/
theorem itemLeft_pass {it : Item} {f : Frame} (h : it.body = .pass f) (s : State) : itemLeft it s = s := by
  rw [itemLeft, h]

theorem itemLeft_protect {it : Item} {ref : KeyRef} {aad cipher : List Byte} {tag : Option (BitVec 128)}
    (h : it.body = .protect ref aad cipher tag) (s : State) :
    itemLeft it s = outItemLeft ref.stream ref.slot s := by
  rw [itemLeft, h]

theorem itemLeft_verify {it : Item} {ref : KeyRef} {aad cipher : List Byte} {tag : BitVec 128}
    {result : Option (Option (List Byte))} (h : it.body = .verify ref aad cipher tag result) (s : State) :
    itemLeft it s = inItemLeft ref.stream ref.slot s := by
  rw [itemLeft, h]

/-! ### The outbound release (R99, R100) -/

theorem Link.canSend_iff (k : Link) :
    k.canSend = true ↔ k.campus.up = true ∧ k.campus.tx = .idle ∧ 0 < k.pacer.credit := by
  simp [Link.canSend, and_assoc]

theorem OutCounters.sent_pass {it : Item} {f : Frame} (h : it.body = .pass f) (c : OutCounters) :
    c.sent it = { c with clearSent := count48 c.clearSent 1, campusBytes := count48 c.campusBytes it.length } := by
  rw [OutCounters.sent, h]

theorem OutCounters.sent_protect {it : Item} {ref : KeyRef} {aad cipher : List Byte} {tag : Option (BitVec 128)}
    (h : it.body = .protect ref aad cipher tag) (c : OutCounters) :
    c.sent it =
      { c with protectedSent := count48 c.protectedSent 1, campusBytes := count48 c.campusBytes it.length } := by
  rw [OutCounters.sent, h]

section Outbound

variable {l : LinkNo} {it : Item} {rest : List Item} {s : State} (hlist : (s.link l).outList = it :: rest)
include hlist

theorem releaseOutbound_of_onLane (hdone : it.state ≠ .done) : releaseOutbound l s = s := by
  rw [releaseOutbound, hlist]
  exact if_neg hdone

theorem releaseOutbound_of_canSend (hdone : it.state = .done) (hsend : (s.link l).canSend = true) :
    releaseOutbound l s = drainCheck l (itemLeft it (s.modLink l fun k => k.sendOut it)) := by
  rw [releaseOutbound, hlist]
  exact (if_pos hdone).trans (if_pos hsend)

theorem releaseOutbound_of_waits (hdone : it.state = .done) (hsend : ¬ (s.link l).canSend = true)
    (hup : (s.link l).campus.up = true) : releaseOutbound l s = s := by
  rw [releaseOutbound, hlist]
  exact (if_pos hdone).trans ((if_neg hsend).trans (if_pos hup))

theorem releaseOutbound_of_faceDown (hdone : it.state = .done) (hdown : (s.link l).campus.up = false) :
    releaseOutbound l s = drainCheck l (itemLeft it (s.modLink l Link.discardOut)) := by
  have hsend : ¬ (s.link l).canSend = true := fun h => by
    obtain ⟨hup, -⟩ := (Link.canSend_iff _).1 h
    rw [hdown] at hup
    cases hup
  rw [releaseOutbound, hlist]
  exact (if_pos hdone).trans ((if_neg hsend).trans (if_neg (by rw [hdown]; nofun)))

end Outbound

/-- Settles O56: `releaseOutbound` case by case, with the head's send and discard as updates of the link. -/
theorem outboundReleases : Obligations.OutboundReleases := by
  intro l it rest s hreset hlist settled releases sent goes
  have hexec : exec (.outboundRelease l) s = .next (releaseOutbound l s) :=
    congrArg Host.Outcome.next (unlessHeld_of_not_held hreset)
  have hgoes : goes ↔ (s.link l).canSend = true := (Link.canSend_iff _).symm
  have hreleases : ∀ x, releaseOutbound l s = drainCheck l x → releases x := fun x h =>
    hexec.trans (congrArg Host.Outcome.next (h.trans (drainCheck_eq l x)))
  have hsent : ∀ f g, sentFrame it.body = f →
      (∀ c : OutCounters, c.sent it = { g c with campusBytes := count48 c.campusBytes it.length }) →
      s.modLink l (fun k => k.sendOut it) = sent f g := fun f g hf hg => by
    refine State.modLink_congr ?_
    simp only [Link.sendOut, hlist, hf, hg, List.tail_cons]
    rfl
  refine ⟨fun hdone => ?onLane, fun hdone hgo => ⟨fun f hbody => ?pass, fun ref aad cipher tag hbody => ?protect⟩,
    fun hdone hup hgo => ?waits, fun hdone hdown => ?faceDown,
    fun i k x => ⟨outItemLeft_of_last, outItemLeft_of_more⟩,
    fun x => ⟨fun f hbody => itemLeft_pass hbody x, fun ref aad cipher tag hbody => itemLeft_protect hbody x⟩⟩
  case onLane => rw [hexec, releaseOutbound_of_onLane hlist hdone]
  case pass =>
    refine hreleases _ ((releaseOutbound_of_canSend hlist hdone (hgoes.1 hgo)).trans ?_)
    rw [itemLeft_pass hbody, hsent f (fun c => { c with clearSent := count48 c.clearSent 1 })
      (by rw [hbody, sentFrame]) (OutCounters.sent_pass hbody)]
  case protect =>
    refine hreleases _ ((releaseOutbound_of_canSend hlist hdone (hgoes.1 hgo)).trans ?_)
    rw [itemLeft_protect hbody, hsent (withFcs (aad ++ cipher ++ bytesOfBits 16 tag))
      (fun c => { c with protectedSent := count48 c.protectedSent 1 })
      (by rw [hbody, sentFrame]; rfl) (OutCounters.sent_protect hbody)]
    rfl
  case waits => rw [hexec, releaseOutbound_of_waits hlist hdone (mt hgoes.2 hgo) hup]
  case faceDown =>
    refine hreleases _ ((releaseOutbound_of_faceDown hlist hdone hdown).trans ?_)
    refine congrArg (fun x => drainCheck l (itemLeft it x)) (State.modLink_congr ?_)
    simp only [Link.discardOut, hlist, List.tail_cons]

/-! ### The inbound release (R101) -/

theorem Link.canDeliver_iff (k : Link) :
    k.canDeliver = true ↔ k.rack.up = true ∧ k.rack.tx = .idle ∧ k.pauseOwed = false := by
  simp [Link.canDeliver, and_assoc]

section Inbound

variable {l : LinkNo} {it : Item} {rest : List Item} {s : State} (hlist : (s.link l).inList = it :: rest)
include hlist

theorem releaseInbound_of_onLane (hdone : it.state ≠ .done) : releaseInbound l s = s := by
  rw [releaseInbound, hlist]
  exact if_neg hdone

theorem releaseInbound_of_canDeliver (hdone : it.state = .done) (hdeliver : (s.link l).canDeliver = true) :
    releaseInbound l s = drainCheck l (itemLeft it (judgeHead l it (s.modLink l Link.dropInHead))) := by
  rw [releaseInbound, hlist]
  exact (if_pos hdone).trans (if_pos hdeliver)

theorem releaseInbound_of_waits (hdone : it.state = .done) (hdeliver : ¬ (s.link l).canDeliver = true)
    (hup : (s.link l).rack.up = true) : releaseInbound l s = s := by
  rw [releaseInbound, hlist]
  exact (if_pos hdone).trans ((if_neg hdeliver).trans (if_pos hup))

theorem releaseInbound_of_faceDown (hdone : it.state = .done) (hdown : (s.link l).rack.up = false) :
    releaseInbound l s = drainCheck l (itemLeft it (s.modLink l Link.discardIn)) := by
  have hdeliver : ¬ (s.link l).canDeliver = true := fun h => by
    obtain ⟨hup, -⟩ := (Link.canDeliver_iff _).1 h
    rw [hdown] at hup
    cases hup
  rw [releaseInbound, hlist]
  exact (if_pos hdone).trans ((if_neg hdeliver).trans (if_neg (by rw [hdown]; nofun)))

end Inbound

/-! ### The judgement of a head (R116 to R120) -/

/-- An inbound stream that has counted an integrity failure (R116 step 1, R124). -/
def InStream.integrityFailed (st : InStream) : InStream :=
  { st with
    integrityFailures := count48 st.integrityFailures 1
    failures :=
      if st.threshold = 0 then st.failures else if st.failures + 1 < st.threshold then st.failures + 1 else 0 }

theorem countIntegrityFailure_eq (i : StreamNo) (s : State) :
    countIntegrityFailure i s =
      if (s.inStream i).threshold ≠ 0 ∧ (s.inStream i).threshold ≤ (s.inStream i).failures + 1 then
        raise .integrityAlert (.inStream i) (s.modIn i InStream.integrityFailed)
      else s.modIn i InStream.integrityFailed := by
  unfold countIntegrityFailure
  dsimp only
  by_cases hoff : (s.inStream i).threshold = 0
  · rw [if_pos hoff, if_neg (fun h => h.1 hoff)]
    exact State.modIn_congr (by simp [InStream.integrityFailed, hoff])
  · by_cases hreached : (s.inStream i).threshold ≤ (s.inStream i).failures + 1
    · rw [if_neg hoff, if_pos hreached, if_pos ⟨hoff, hreached⟩, State.modIn_modIn]
      exact congrArg _ (State.modIn_congr (by simp [InStream.integrityFailed, hoff, Nat.not_lt.2 hreached]))
    · rw [if_neg hoff, if_neg hreached, if_neg (fun h => hreached h.2), State.modIn_modIn]
      exact State.modIn_congr (by simp [InStream.integrityFailed, hoff, Nat.lt_of_not_le hreached])

theorem State.modInSlot_congr {i : StreamNo} {k : SlotNo} {f g : InSlot → InSlot} {s : State}
    (h : f (s.inSlot i k) = g (s.inSlot i k)) : s.modInSlot i k f = s.modInSlot i k g :=
  State.modIn_congr (congrArg
    (fun sl => { s.inStream i with slots := putAt (s.inStream i).slots k sl }) h)

/-- The window update leaves the slot's state (R118). -/
theorem InSlot.windowUpdated_state (sl : InSlot) (w p : Nat) : (sl.windowUpdated w p).state = sl.state := by
  unfold InSlot.windowUpdated
  split <;> rfl

/-- A state after the delivery of a frame under a slot that it leaves in state `x`: window, counters and the rack face's
transmitter (R118, R119). What `deliver` leaves, but for the slot selector's flip (`deliver_of_not_ready`,
`deliver_of_ready`). -/
def deliveredAs (l : LinkNo) (ref : KeyRef) (frame : Frame) (x : InSlotState) (s : State) : State :=
  ((s.modInSlot ref.stream ref.slot fun sl =>
      { sl.windowUpdated (s.inStream ref.stream).window ref.fn with state := x }).modIn ref.stream fun st =>
      { st with delivered := count48 st.delivered 1 }).modLink l fun k =>
    { k with
      rack := { k.rack with tx := .data frame }
      inCount := { k.inCount with delivered := count48 k.inCount.delivered 1,
                                  rackBytes := count48 k.inCount.rackBytes frame.length } }

theorem deliveredAs_otherSlot (l : LinkNo) (ref : KeyRef) (frame : Frame) (x : InSlotState) (s : State) :
    (deliveredAs l ref frame x s).inSlot ref.stream (otherSlot ref.slot) =
      s.inSlot ref.stream (otherSlot ref.slot) := by
  simp only [deliveredAs, State.inSlot, State.modLink_inStream, State.modInSlot, inStream_modIn_self,
    get_putAt_ne _ _ (otherSlot_ne ref.slot)]

theorem deliveredAs_grace (l : LinkNo) (ref : KeyRef) (frame : Frame) (x : InSlotState) (s : State) :
    ((deliveredAs l ref frame x s).inStream ref.stream).grace = (s.inStream ref.stream).grace := by
  simp only [deliveredAs, State.modLink_inStream, State.modInSlot, inStream_modIn_self]

/-- The state a slot is left in may be written later. -/
theorem deliveredAs_modInSlot_state (l : LinkNo) (ref : KeyRef) (frame : Frame) (x y : InSlotState) (s : State) :
    (deliveredAs l ref frame x s).modInSlot ref.stream ref.slot (fun sl => { sl with state := y }) =
      deliveredAs l ref frame y s := by
  have hslot : ∀ z : State, ∀ f g, (z.modLink l f).modIn ref.stream g = (z.modIn ref.stream g).modLink l f :=
    fun _ _ _ => rfl
  simp only [deliveredAs, State.modInSlot, hslot, State.modIn_modIn, get_putAt_self, putAt_putAt]

section Deliver

variable {l : LinkNo} {ref : KeyRef} {frame : Frame} {s : State}

/-- Before the flip the slot has the state it had. -/
theorem deliver_eq :
    deliver l ref frame s =
      if (s.inSlot ref.stream ref.slot).state = .ready then
        flipSelector ref.stream ref.slot
          (deliveredAs l ref frame (s.inSlot ref.stream ref.slot).state s)
      else deliveredAs l ref frame (s.inSlot ref.stream ref.slot).state s := by
  have hslot : (s.modInSlot ref.stream ref.slot fun sl => sl.windowUpdated (s.inStream ref.stream).window ref.fn) =
      s.modInSlot ref.stream ref.slot fun sl =>
        { sl.windowUpdated (s.inStream ref.stream).window ref.fn with
          state := (s.inSlot ref.stream ref.slot).state } :=
    State.modInSlot_congr (by rw [← InSlot.windowUpdated_state])
  unfold deliver
  rw [hslot]
  rfl

theorem deliver_of_not_ready (h : (s.inSlot ref.stream ref.slot).state ≠ .ready) :
    deliver l ref frame s = deliveredAs l ref frame (s.inSlot ref.stream ref.slot).state s := by
  rw [deliver_eq, if_neg h]

/-- The flip at a delivery under a READY slot (R120). -/
theorem deliver_of_ready (h : (s.inSlot ref.stream ref.slot).state = .ready) :
    deliver l ref frame s =
      if (s.inSlot ref.stream (otherSlot ref.slot)).state = .active then
        raise .peerSwitched (.inStream ref.stream)
          (sendToGrace ref.stream (otherSlot ref.slot) (deliveredAs l ref frame .active s))
      else deliveredAs l ref frame .active s := by
  rw [deliver_eq, if_pos h, flipSelector]
  rw [deliveredAs_modInSlot_state, deliveredAs_otherSlot]

end Deliver

/-- Settles O57: `releaseInbound` case by case, the judgement of a VERIFY head by `countIntegrityFailure_eq`,
`deliver_of_not_ready` and `deliver_of_ready`. -/
theorem inboundReleases : Obligations.InboundReleases := by
  intro l it rest s hreset hlist settled releases goes taken sent
  have hexec : exec (.inboundRelease l) s = .next (releaseInbound l s) :=
    congrArg Host.Outcome.next (unlessHeld_of_not_held hreset)
  have hgoes : goes ↔ (s.link l).canDeliver = true := (Link.canDeliver_iff _).symm
  have hreleases : ∀ x, releaseInbound l s = drainCheck l x → releases x := fun x h =>
    hexec.trans (congrArg Host.Outcome.next (h.trans (drainCheck_eq l x)))
  have htaken : s.modLink l Link.dropInHead = taken := State.modLink_congr (by
    simp only [Link.dropInHead, hlist, List.tail_cons])
  have hjudged : it.state = .done → goes → ∀ x, itemLeft it (judgeHead l it taken) = x → releases x := by
    rintro hdone hgo x rfl
    refine hreleases _ ((releaseInbound_of_canDeliver hlist hdone (hgoes.1 hgo)).trans ?_)
    rw [htaken]
  refine ⟨fun hdone => ?onLane, fun hdone hup hgo => ?waits, fun hdone hdown => ?faceDown,
    fun f hdone hgo hbody => ?pass, ?verify,
    fun i k x => ⟨inItemLeft_of_last, inItemLeft_of_more⟩,
    fun x => ⟨fun f hbody => itemLeft_pass hbody x,
      fun ref aad cipher tag result hbody => itemLeft_verify hbody x⟩⟩
  case onLane => rw [hexec, releaseInbound_of_onLane hlist hdone]
  case waits => rw [hexec, releaseInbound_of_waits hlist hdone (mt hgoes.2 hgo) hup]
  case faceDown =>
    refine hreleases _ ((releaseInbound_of_faceDown hlist hdone hdown).trans ?_)
    refine congrArg (fun x => drainCheck l (itemLeft it x)) (State.modLink_congr ?_)
    simp only [Link.discardIn, Link.dropInHead, hlist, List.tail_cons]
  case pass =>
    refine hjudged hdone hgo _ ?_
    rw [itemLeft_pass hbody, judgeHead, hbody]
  case verify =>
    intro ref aad cipher tag result hdone hgo hbody i st sl failed
    have hverified : ∀ x, judgeVerify l ref aad (some result) taken = x → releases (inItemLeft i ref.slot x) := by
      rintro x rfl
      refine hjudged hdone hgo _ ?_
      rw [itemLeft_verify hbody, judgeHead, hbody]
    refine ⟨fun hfail => ?failed, fun plain hpass => ⟨fun hreplayed => ?replayed, fun hfresh => ?delivered⟩⟩
    case failed =>
      subst hfail
      exact hverified _ (countIntegrityFailure_eq i taken)
    case replayed =>
      subst hpass
      exact hverified _ (if_neg (Bool.eq_false_iff.1 hreplayed))
    case delivered =>
      subst hpass
      intro bytes delivered other
      have hslot : taken.inSlot ref.stream ref.slot = sl := State.modLink_inSlot ..
      have hotherSlot : taken.inSlot ref.stream (otherSlot ref.slot) = other := State.modLink_inSlot ..
      have hstream : taken.inStream ref.stream = st := State.modLink_inStream ..
      have hshape : ∀ x, deliveredAs l ref (rebuiltFrame ref aad plain) x taken = delivered x := fun _ => rfl
      have hdelivered : ∀ x, deliver l ref (rebuiltFrame ref aad plain) taken = x →
          releases (inItemLeft i ref.slot x) := fun x h => hverified x ((if_pos hfresh).trans h)
      rw [← hslot, ← hotherSlot, ← hstream]
      simp only [← hshape]
      refine ⟨fun hstate => hdelivered _ (deliver_of_not_ready hstate), fun hready hother => ?first,
        fun hready hother hgrace => ?grace, fun hready hother hgrace => ?noGrace⟩
      case first => exact hdelivered _ ((deliver_of_ready hready).trans (if_neg hother))
      case grace =>
        refine hdelivered _ ((deliver_of_ready hready).trans ((if_pos hother).trans (congrArg _ ?_)))
        rw [sendToGrace, deliveredAs_grace]
        exact if_neg hgrace
      case noGrace =>
        refine hdelivered _ ((deliver_of_ready hready).trans ((if_pos hother).trans (congrArg _ ?_)))
        rw [sendToGrace, deliveredAs_grace]
        exact if_pos hgrace

end Sys2Proof.Machine
end

section
/-! SUPPORT. What makes one link legal (R84, R98, R129, R134, R141, R143, R145), and that everything a link does keeps
it so. -/

namespace Sys2Proof.Machine

/-! ### What makes one link legal -/

theorem Link.quiet_iff (k : Link) :
    k.quiet = true ↔ k.outQueue = [] ∧ k.inQueue = [] ∧ k.outList = [] ∧ k.inList = [] := by
  simp [Link.quiet, and_assoc]

theorem occupancy_append (q : List Frame) (f : Frame) : occupancy (q ++ [f]) = occupancy q + f.length := by
  simp [occupancy]

theorem occupancy_tail_le (q : List Frame) : occupancy q.tail ≤ occupancy q := by
  cases q with
  | nil => exact Nat.le_refl _
  | cons f q => simp [occupancy]

@[simp] theorem Item.completedOn_length (n : LaneNo) (x : Secret) (nonce : BitVec 96) (it : Item) :
    (it.completedOn n x nonce).length = it.length := by
  unfold Item.completedOn
  split <;> rfl

/-- An OFF link is empty (R134). -/
theorem Link.legal.empty_of_off {k : Link} (h : k.legal) (hoff : k.state = .off) :
    k.outQueue = [] ∧ k.inQueue = [] ∧ k.outList = [] ∧ k.inList = [] := by
  obtain ⟨-, -, -, -, -, -, -, -, hempty, -, -⟩ := h
  exact hempty hoff

/-- The queues and lists of a legal link that is not quiet belong to a link that runs. -/
theorem Link.legal.runs {k : Link} (h : k.legal)
    (hheld : k.outQueue ≠ [] ∨ k.inQueue ≠ [] ∨ k.outList ≠ [] ∨ k.inList ≠ []) : k.state ≠ .off := by
  intro hoff
  obtain ⟨hoq, hiq, hol, hil⟩ := h.empty_of_off hoff
  simp [hoq, hiq, hol, hil] at hheld

/-! ### The pacer (R141 to R144) -/

/-- The pacer a legal link has while it is OFF. -/
theorem Link.legal.pacer_of_off {k : Link} (h : k.legal) (hoff : k.state = .off) : k.pacer = Pacer.idle := by
  obtain ⟨-, -, -, -, -, -, -, -, -, -, -, -, hphase⟩ := h
  cases hpacer : k.pacer with
  | mk phase credit rate => cases phase <;> simp_all [Pacer.idle]

/-- An OFF link's pacer is IDLE (R141). -/
theorem Link.pacerLegal_idle {k : Link} (hoff : k.state = .off) (hpacer : k.pacer = Pacer.idle) : k.pacerLegal := by
  simp [Link.pacerLegal, hoff, hpacer, Pacer.idle]

/-- A running link's pacer is HELD while the campus face is down (R141). -/
theorem Link.pacerLegal_held {k : Link} (hruns : k.state ≠ .off) (hdown : k.campus.up = false)
    (hpacer : k.pacer = { phase := .held, credit := 0, rate := 0 }) : k.pacerLegal := by
  simp [Link.pacerLegal, hruns, hdown, hpacer]

/-- A running link's pacer at a stage of its profile, or STEADY after the last (R142, R144). -/
theorem Link.pacerLegal_atStage {k : Link} {n : Nat} {credit : Int} (hruns : k.state ≠ .off)
    (hup : k.campus.up = true) (hstages : ∀ st ∈ k.ramp, st.inRange k.settings.rate) (hn : 1 ≤ n)
    (hlow : -77983 ≤ credit) (hhigh : credit ≤ k.settings.burst)
    (hpacer : k.pacer = pacerAtStage k.ramp k.settings.rate n credit) : k.pacerLegal := by
  unfold Link.pacerLegal
  rw [hpacer, pacerAtStage]
  cases hst : k.ramp[n - 1]? with
  | none => exact ⟨hlow, hhigh, hruns, hup, rfl⟩
  | some st =>
    obtain ⟨-, -, hduration, -⟩ := hstages st (List.mem_of_getElem? hst)
    exact ⟨hlow, hhigh, hruns, hup, hn, hduration, st, hst, rfl, Nat.le_refl _⟩

/-- A refill keeps the bounds of the credit (R142). -/
theorem Pacer.refilled_credit {p : Pacer} (burst : Nat) (hlow : -77983 ≤ p.credit) :
    -77983 ≤ (p.refilled burst).credit ∧ (p.refilled burst).credit ≤ burst := by
  simp only [Pacer.refilled]
  omega

/-- A microsecond event at the pacer of a legal link (R142). -/
theorem Link.legal.pacerMicro {k : Link} (h : k.legal) : ({ k with pacer := k.pacerMicro } : Link).legal := by
  obtain ⟨hset, hramp, hstages, hout, hin, houtList, hinList, hmax, hoff, hsetUp, hpacer⟩ := h
  refine ⟨hset, hramp, hstages, hout, hin, houtList, hinList, hmax, hoff, hsetUp, ?_⟩
  obtain ⟨hlow, hhigh, hphase⟩ := hpacer
  obtain ⟨hlow', hhigh'⟩ := Pacer.refilled_credit k.settings.burst hlow
  unfold Link.pacerMicro
  cases hp : k.pacer.phase with
  | idle =>
    rw [hp] at hphase
    exact ⟨hlow, hhigh, by rw [hp]; exact hphase⟩
  | held =>
    rw [hp] at hphase
    exact ⟨hlow, hhigh, by rw [hp]; exact hphase⟩
  | steady =>
    rw [hp] at hphase
    exact ⟨hlow', hhigh', by simp only [Pacer.refilled, hp]; exact hphase⟩
  | ramp n left =>
    rw [hp] at hphase
    obtain ⟨hruns, hup, hn, hleft, st, hst, hrate, hduration⟩ := hphase
    by_cases hends : left ≤ 1
    · exact Link.pacerLegal_atStage hruns hup hstages (Nat.le_add_left 1 n) hlow' hhigh' (by simp [hends])
    · simp only [hends, if_false]
      exact ⟨hlow', hhigh', hruns, hup, hn, by omega, st, hst, hrate, by omega⟩

/-- The pacer as a start leaves it, or a campus face that comes up while the link runs (R132, R144). -/
theorem Link.pacerLegal_started {k : Link} (hruns : k.state ≠ .off)
    (hstages : ∀ st ∈ k.ramp, st.inRange k.settings.rate) :
    ({ k with pacer := k.pacerStarted } : Link).pacerLegal := by
  by_cases hup : k.campus.up = true
  · exact Link.pacerLegal_atStage hruns hup hstages (Nat.le_refl 1) (by decide) (Int.natCast_nonneg _) (if_pos hup)
  · exact Link.pacerLegal_held hruns (Bool.eq_false_of_not_eq_true hup) (if_neg hup)

/-! ### One part of a legal link rewritten -/

section Parts

variable {k : Link} (h : k.legal)
include h

theorem Link.legal.withOutQueue {q : List Frame} (hroom : occupancy q ≤ Config.queueCapacity)
    (hempty : k.state = .off → q = []) : ({ k with outQueue := q } : Link).legal := by
  obtain ⟨hset, hramp, hstages, -, hin, houtList, hinList, hmax, hoff, hsetUp, hpacer⟩ := h
  exact ⟨hset, hramp, hstages, hroom, hin, houtList, hinList, hmax,
    fun hs => ⟨hempty hs, (hoff hs).2⟩, hsetUp, hpacer⟩

theorem Link.legal.withInQueue {q : List Frame} (hroom : occupancy q ≤ Config.queueCapacity)
    (hempty : k.state = .off → q = []) : ({ k with inQueue := q } : Link).legal := by
  obtain ⟨hset, hramp, hstages, hout, -, houtList, hinList, hmax, hoff, hsetUp, hpacer⟩ := h
  refine ⟨hset, hramp, hstages, hout, hroom, houtList, hinList, hmax, fun hs => ?_, hsetUp, hpacer⟩
  obtain ⟨hoq, -, hlists⟩ := hoff hs
  exact ⟨hoq, hempty hs, hlists⟩

theorem Link.legal.withOutList {items : List Item} (hroom : items.length ≤ Config.listCapacity)
    (hfits : ∀ it ∈ items, it.length ≤ k.settings.campusMax) (hempty : k.state = .off → items = []) :
    ({ k with outList := items } : Link).legal := by
  obtain ⟨hset, hramp, hstages, hout, hin, -, hinList, -, hoff, hsetUp, hpacer⟩ := h
  refine ⟨hset, hramp, hstages, hout, hin, hroom, hinList, hfits, fun hs => ?_, hsetUp, hpacer⟩
  obtain ⟨hoq, hiq, -, hil⟩ := hoff hs
  exact ⟨hoq, hiq, hempty hs, hil⟩

theorem Link.legal.withInList {items : List Item} (hroom : items.length ≤ Config.listCapacity)
    (hempty : k.state = .off → items = []) : ({ k with inList := items } : Link).legal := by
  obtain ⟨hset, hramp, hstages, hout, hin, houtList, -, hmax, hoff, hsetUp, hpacer⟩ := h
  refine ⟨hset, hramp, hstages, hout, hin, houtList, hroom, hmax, fun hs => ?_, hsetUp, hpacer⟩
  obtain ⟨hoq, hiq, hol, -⟩ := hoff hs
  exact ⟨hoq, hiq, hol, hempty hs⟩

theorem Link.legal.withPacer {p : Pacer} (hp : ({ k with pacer := p } : Link).pacerLegal) :
    ({ k with pacer := p } : Link).legal := by
  obtain ⟨hset, hramp, hstages, hout, hin, houtList, hinList, hmax, hoff, hsetUp, -⟩ := h
  exact ⟨hset, hramp, hstages, hout, hin, houtList, hinList, hmax, hoff, hsetUp, hp⟩

/-- The link enters OFF, quiet (R134). -/
theorem Link.legal.entersOff (hquiet : k.quiet = true) (c : StopCause) :
    ({ k with state := .off, stopCause := c, pacer := Pacer.idle } : Link).legal := by
  obtain ⟨hset, hramp, hstages, hout, hin, houtList, hinList, hmax, -, -, -⟩ := h
  exact ⟨hset, hramp, hstages, hout, hin, houtList, hinList, hmax, fun _ => k.quiet_iff.1 hquiet, nofun,
    Link.pacerLegal_idle rfl rfl⟩

/-- The queues and lists emptied. -/
theorem Link.legal.emptied :
    ({ k with outQueue := [], inQueue := [], outList := [], inList := [] } : Link).legal := by
  obtain ⟨hset, hramp, hstages, -, -, -, -, -, -, hsetUp, hpacer⟩ := h
  exact ⟨hset, hramp, hstages, Nat.zero_le _, Nat.zero_le _, Nat.zero_le _, Nat.zero_le _, nofun,
    fun _ => ⟨rfl, rfl, rfl, rfl⟩, hsetUp, hpacer⟩

end Parts

/-! ### What a link does -/

theorem Link.carries_iff {k : Link} : k.carries = true ↔ k.state ≠ .off := decide_eq_true_iff

/-- A transmission that stops leaves the face up or down as it was (R137). -/
@[simp] theorem Face.stopped_up (f : Face) (e : TxEnding) : (f.stopped e).up = f.up := by
  unfold Face.stopped
  split <;> rfl

section Operations

variable {k : Link} (h : k.legal)
include h

theorem Link.legal.departed : k.departed.legal := by
  unfold Link.departed
  split <;> exact h

theorem Link.legal.arrived : k.arrived.legal := by
  unfold Link.arrived
  split <;> exact h

theorem Link.legal.offerOut (hruns : k.state ≠ .off) (f : Frame) : (k.offerOut f).legal := by
  unfold Link.offerOut
  split
  next hroom =>
    have hjoined := h.withOutQueue (q := k.outQueue ++ [f]) (by rw [occupancy_append]; exact hroom)
      (fun hs => absurd hs hruns)
    exact Link.legal.arrived hjoined
  next => exact h

theorem Link.legal.offerIn (hruns : k.state ≠ .off) (f : Frame) : (k.offerIn f).legal := by
  unfold Link.offerIn
  split
  next hroom =>
    exact h.withInQueue (q := k.inQueue ++ [f]) (by rw [occupancy_append]; exact hroom) (fun hs => absurd hs hruns)
  next => exact h

/-- A frame at a face (R131): only a LIVE link's queues take it. -/
theorem Link.legal.received (side : Side) (f : Frame) : (k.received side f).legal := by
  unfold Link.received
  split
  · exact h
  · split
    · exact h
    · exact h
    next hlive =>
      have hruns : k.state ≠ .off := by rw [hlive]; nofun
      cases side with
      | rack => exact h.offerOut hruns f
      | campus => exact h.offerIn hruns f

theorem Link.legal.dropOutHead : k.dropOutHead.legal := by
  have ⟨_, _, _, hout, _⟩ := h
  refine Link.legal.departed (h.withOutQueue ((occupancy_tail_le _).trans hout) fun hs => ?_)
  obtain ⟨hempty, -⟩ := h.empty_of_off hs
  rw [hempty]; rfl

theorem Link.legal.dropInQueueHead : ({ k with inQueue := k.inQueue.tail } : Link).legal := by
  have ⟨_, _, _, _, hin, _⟩ := h
  refine h.withInQueue ((occupancy_tail_le _).trans hin) fun hs => ?_
  obtain ⟨-, hempty, -⟩ := h.empty_of_off hs
  rw [hempty]; rfl

theorem Link.legal.dropOutListHead : ({ k with outList := k.outList.tail } : Link).legal := by
  have ⟨_, _, _, _, _, hlist, _, hmax, _⟩ := h
  refine h.withOutList (by rw [List.length_tail]; omega) (fun it hit => hmax it (List.mem_of_mem_tail hit)) fun hs => ?_
  obtain ⟨-, -, hempty, -⟩ := h.empty_of_off hs
  rw [hempty]; rfl

theorem Link.legal.dropInHead : k.dropInHead.legal := by
  have ⟨_, _, _, _, _, _, hlist, _⟩ := h
  refine h.withInList (by rw [List.length_tail]; omega) fun hs => ?_
  obtain ⟨-, -, -, hempty⟩ := h.empty_of_off hs
  rw [hempty]; rfl

theorem Link.legal.appendOut (hruns : k.state ≠ .off) (hroom : k.outList.length < Config.listCapacity) {it : Item}
    (hfits : it.length ≤ k.settings.campusMax) : ({ k with outList := k.outList ++ [it] } : Link).legal := by
  have ⟨_, _, _, _, _, _, _, hmax, _⟩ := h
  refine h.withOutList (by simpa using hroom) ?_ fun hs => absurd hs hruns
  simpa [or_imp, forall_and] using ⟨hmax, hfits⟩

theorem Link.legal.appendIn (hruns : k.state ≠ .off) (hroom : k.inList.length < Config.listCapacity) (it : Item) :
    ({ k with inList := k.inList ++ [it] } : Link).legal :=
  h.withInList (by simpa using hroom) fun hs => absurd hs hruns

theorem Link.legal.completeOut (n : LaneNo) (x : Secret) (nonce : BitVec 96) :
    ({ k with outList := k.outList.map (Item.completedOn n x nonce) } : Link).legal := by
  have ⟨_, _, _, _, _, hlist, _, hmax, _⟩ := h
  refine h.withOutList (by simpa using hlist) ?_ fun hs => ?_
  · simpa using hmax
  · obtain ⟨-, -, hempty, -⟩ := h.empty_of_off hs
    rw [hempty]; rfl

theorem Link.legal.completeIn (n : LaneNo) (x : Secret) (nonce : BitVec 96) :
    ({ k with inList := k.inList.map (Item.completedOn n x nonce) } : Link).legal := by
  have ⟨_, _, _, _, _, _, hlist, _⟩ := h
  refine h.withInList (by simpa using hlist) fun hs => ?_
  obtain ⟨-, -, -, hempty⟩ := h.empty_of_off hs
  rw [hempty]; rfl

/-- A send charges at most the 77,984 bits of the longest frame to a credit above 0 (R99, R143). -/
theorem Link.legal.sendOut {it : Item} (hhead : it ∈ k.outList) (hsend : k.canSend = true) : (k.sendOut it).legal := by
  have ⟨⟨_, hlongest, _⟩, _, _, _, _, _, _, hmax, _, _, hlow, hhigh, hphase⟩ := h
  have hcharge : it.length ≤ 9728 := (hmax it hhead).trans hlongest
  obtain ⟨⟨hup, -⟩, hcredit⟩ : (k.campus.up = true ∧ k.campus.tx = .idle) ∧ 0 < k.pacer.credit := by
    simpa [Link.canSend] using hsend
  refine Link.legal.withPacer (k := { k with
    outList := k.outList.tail
    campus := { k.campus with tx := .data (sentFrame it.body) }
    outCount := k.outCount.sent it }) h.dropOutListHead ⟨?_, ?_, ?_⟩
  · simp only [wireBits]; omega
  · simp only [wireBits]; omega
  · cases hp : k.pacer.phase <;> rw [hp] at hphase <;> simp only
    case idle => omega
    case held => omega
    case ramp => exact hphase
    case steady => exact hphase

theorem Link.legal.flushed : k.flushed.legal :=
  Link.legal.departed h.emptied

theorem Link.legal.alarmed : k.alarmed.legal :=
  h.emptied.entersOff rfl .alarm

/-- A set-up link starts (R132). -/
theorem Link.legal.started (hsetUp : k.setUp = true) :
    ({ k with state := .live, pacer := k.pacerStarted } : Link).legal := by
  obtain ⟨hset, hramp, hstages, hout, hin, houtList, hinList, hmax, -, -, -⟩ := h
  exact ⟨hset, hramp, hstages, hout, hin, houtList, hinList, hmax, nofun, fun _ => hsetUp,
    Link.pacerLegal_started (k := { k with state := .live }) nofun hstages⟩

/-- A LIVE link begins to drain (R133). -/
theorem Link.legal.drains (hlive : k.state = .live) (c : StopCause) :
    ({ k with state := .draining, stopCause := c } : Link).legal := by
  obtain ⟨hset, hramp, hstages, hout, hin, houtList, hinList, hmax, -, hsetUp, hlow, hhigh, hphase⟩ := h
  have hruns : k.state ≠ .off := by rw [hlive]; nofun
  refine ⟨hset, hramp, hstages, hout, hin, houtList, hinList, hmax, nofun, fun _ => hsetUp hruns, hlow, hhigh, ?_⟩
  cases hp : k.pacer.phase <;> rw [hp] at hphase
  case idle => exact absurd hphase.1 hruns
  case held => exact ⟨nofun, hphase.2⟩
  case ramp => exact ⟨nofun, hphase.2⟩
  case steady => exact ⟨nofun, hphase.2⟩

/-- An OFF link's faces come and go: its pacer stays IDLE (R144). -/
theorem Link.legal.withCampus_of_off (hoff : k.state = .off) (f : Face) :
    ({ k with campus := f } : Link).legal := by
  have hidle := h.pacer_of_off hoff
  obtain ⟨hset, hramp, hstages, hout, hin, houtList, hinList, hmax, hempty, hsetUp, -⟩ := h
  exact ⟨hset, hramp, hstages, hout, hin, houtList, hinList, hmax, hempty, hsetUp, Link.pacerLegal_idle hoff hidle⟩

/-- A running link's campus face and pacer change together (R144). -/
theorem Link.legal.withCampus {f : Face} {p : Pacer} (hp : ({ k with campus := f, pacer := p } : Link).pacerLegal) :
    ({ k with campus := f, pacer := p } : Link).legal := by
  obtain ⟨hset, hramp, hstages, hout, hin, houtList, hinList, hmax, hempty, hsetUp, -⟩ := h
  exact ⟨hset, hramp, hstages, hout, hin, houtList, hinList, hmax, hempty, hsetUp, hp⟩

theorem Link.legal.wentUp (side : Side) : (k.wentUp side).legal := by
  have ⟨_, _, hstages, _⟩ := h
  cases side with
  | rack => exact h
  | campus =>
    simp only [Link.wentUp]
    split
    next hruns =>
      exact h.withCampus (Link.pacerLegal_started (k := { k with campus := { k.campus with up := true } })
        (Link.carries_iff.1 hruns) hstages)
    next hoff => exact h.withCampus_of_off (by simpa [Link.carries] using hoff) _

theorem Link.legal.wentDown (side : Side) : (k.wentDown side).legal := by
  cases side with
  | rack => exact h
  | campus =>
    simp only [Link.wentDown]
    split
    next hruns => exact h.withCampus (Link.pacerLegal_held (Link.carries_iff.1 hruns) rfl rfl)
    next hoff => exact h.withCampus_of_off (by simpa [Link.carries] using hoff) _

/-- What the campus face transmits is no part of the link's rules. -/
theorem Link.legal.withTransmitter {f : Face} (hf : f.up = k.campus.up) : ({ k with campus := f } : Link).legal := by
  obtain ⟨hset, hramp, hstages, hout, hin, houtList, hinList, hmax, hempty, hsetUp, hpacer⟩ := h
  refine ⟨hset, hramp, hstages, hout, hin, houtList, hinList, hmax, hempty, hsetUp, ?_⟩
  simp only [Link.pacerLegal, hf]
  exact hpacer

theorem Link.legal.transmissionEnded (side : Side) (e : TxEnding) :
    (k.modFace side fun f => f.stopped e).legal := by
  cases side with
  | rack => exact h
  | campus => exact h.withTransmitter (Face.stopped_up _ e)

theorem Link.legal.refreshMicro : k.refreshMicro.legal := by
  unfold Link.refreshMicro
  split
  · exact h
  · split <;> exact h

theorem Link.legal.micro : k.micro.legal :=
  Link.legal.refreshMicro h.pacerMicro

/-- LINK_SETUP of an OFF link, with settings in range that its ramp profile keeps to (R129). -/
theorem Link.legal.setUpWith {v : LinkSettings} (hoff : k.state = .off) (hv : v.inRange)
    (hramp : ∀ st ∈ k.ramp, st.rate ≤ v.rate) : ({ k with settings := v, setUp := true } : Link).legal := by
  have hidle := h.pacer_of_off hoff
  obtain ⟨-, hlen, hstages, hout, hin, houtList, hinList, -, hempty, -, -⟩ := h
  have ⟨_, _, hol, _⟩ := hempty hoff
  refine ⟨hv, hlen, fun st hst => ?_, hout, hin, houtList, hinList, by simp [hol], hempty, fun _ => rfl,
    Link.pacerLegal_idle hoff hidle⟩
  obtain ⟨hpos, -, hduration⟩ := hstages st hst
  exact ⟨hpos, hramp st hst, hduration⟩

/-- RAMP_SET of an OFF link (R145). -/
theorem Link.legal.rampSet {stages : List Stage} (hoff : k.state = .off) (hlen : stages.length ≤ 16)
    (hstages : ∀ st ∈ stages, st.inRange k.settings.rate) : ({ k with ramp := stages } : Link).legal := by
  have hidle := h.pacer_of_off hoff
  obtain ⟨hset, -, -, hout, hin, houtList, hinList, hmax, hempty, hsetUp, -⟩ := h
  exact ⟨hset, hlen, hstages, hout, hin, houtList, hinList, hmax, hempty, hsetUp, Link.pacerLegal_idle hoff hidle⟩

end Operations

/-- The reset column of Table 7-1 is legal. -/
theorem Link.legal_reset : Link.reset.legal := by
  refine ⟨by unfold LinkSettings.inRange; decide, by decide, nofun, by decide, by decide, by decide, by decide, nofun,
    fun _ => ⟨rfl, rfl, rfl, rfl⟩, fun h => absurd rfl h, Link.pacerLegal_idle rfl rfl⟩

end Sys2Proof.Machine
end

section
/-! SUPPORT. Requests and whole records that keep an invariant: what every request that is not refused keeps, and what
is no part of the management line, is kept by everything that arrives on the line. -/

namespace Sys2Proof.Machine

/-! ### Requests whose effects keep an invariant -/

/-- Every state that an answer leaves, where it does not refuse, satisfies `P`. -/
def answerLeaves (P : State → Prop) (a : Answer) : Prop := ∀ content t, a = .ok (content, t) → P t

section Answers

variable {P : State → Prop}

theorem answerLeaves_ok {t : State} (content : Option ReplyContent) (h : P t) : answerLeaves P (.ok (content, t)) := by
  rintro _ _ ⟨⟩
  exact h

theorem answerLeaves_done {t : State} (h : P t) : answerLeaves P (answerDone t) := answerLeaves_ok none h

theorem answerLeaves_data {t : State} (data : List Byte) (h : P t) : answerLeaves P (answerBytes data t) :=
  answerLeaves_ok _ h

theorem answerLeaves_refuse (P : State → Prop) (r : ReqRefusal) : answerLeaves P (refuse r) :=
  fun _ _ h => nomatch h

/-- An answer behind checks counts only where every check passes (R183). -/
theorem answerLeaves_of_passes {checks : List (Bool × ReqRefusal)} {a : Answer}
    (h : firstFailing checks = none → answerLeaves P a) : answerLeaves P (checked checks a) := by
  unfold checked
  split
  · exact answerLeaves_refuse P _
  next hpass => exact h hpass

theorem answerLeaves_checked {checks : List (Bool × ReqRefusal)} {a : Answer} (h : answerLeaves P a) :
    answerLeaves P (checked checks a) :=
  answerLeaves_of_passes fun _ => h

end Answers

/-- Checks pass where each of them does. -/
theorem firstFailing_eq_none_iff {checks : List (Bool × ReqRefusal)} :
    firstFailing checks = none ↔ ∀ c ∈ checks, c.1 = false := by
  induction checks with
  | nil => simp [firstFailing]
  | cons c checks ih =>
    obtain ⟨fails, r⟩ := c
    rw [firstFailing_cons_eq_none_iff, ih, List.forall_mem_cons]

/-- An invariant that the management line is no part of, and that every request which is not refused keeps. -/
structure KeptByRequests (P : State → Prop) : Prop where
  line : ∀ (f : Line → Line) (s : State), P s → P (s.modLine f)
  requests : ∀ r ∈ requestTable, ∀ (ps : List Byte) (s : State), P s → answerLeaves P (r.judge ps s)

section Line

variable {P : State → Prop} (hP : KeptByRequests P) {s : State} (hs : P s)
include hP hs

theorem KeptByRequests.after_answerRequest {r : Request} (hr : r ∈ requestTable) (ps : List Byte) :
    P (answerRequest r ps s) := by
  have hjudged : answerLeaves P (judgement r ps s) := by
    unfold judgement
    split
    · exact answerLeaves_refuse P _
    · split
      · exact answerLeaves_refuse P _
      · exact hP.requests r hr ps s hs
  unfold answerRequest
  split
  · exact hP.line _ s hs
  next content t hanswer => exact hP.line _ t (hjudged content t hanswer)

theorem KeptByRequests.after_recordArrives (len : Nat) {f : State → State} (hf : P (f s)) :
    P (recordArrives len f s) := by
  unfold recordArrives
  split
  · exact hs
  · split
    · exact hP.line _ s hs
    · exact hf

theorem KeptByRequests.after_takeRequest {r : Request} (hr : r ∈ requestTable) (ps : List Byte) :
    P (takeRequest r ps s) :=
  hP.after_recordArrives hs _ (hP.after_answerRequest hs hr ps)

theorem KeptByRequests.after_takeRecord (body : List Byte) : P (takeRecord body s) := by
  unfold takeRecord
  split
  · exact hP.line _ s hs
  · split
    next hrequest => exact hP.after_answerRequest hs (List.mem_of_find?_eq_some hrequest) _
    next =>
      unfold answerUnknown setReply
      exact hP.line _ s hs

theorem KeptByRequests.after_judgeRecord (head : Byte) (body : List Byte) (check : Byte) :
    P (judgeRecord head body check s) := by
  unfold judgeRecord
  split
  · exact hP.line _ s hs
  · split
    · exact hP.after_takeRecord hs body
    · exact hP.line _ s hs

theorem KeptByRequests.after_receiveByte (byte : Byte) : P (receiveByte byte s) := by
  have hline : ∀ f, P (s.modLine f) := fun f => hP.line f s hs
  unfold receiveByte
  split
  · exact hline _
  · unfold assembleByte
    split
    · split
      · exact hline _
      · exact hs
    · exact hline _
    · split
      · exact hline _
      · exact hline _
    · split
      · exact hline _
      · exact hline _
    · exact hP.after_judgeRecord hs _ _ byte

end Line

end Sys2Proof.Machine
end

section
/-! SUPPORT. The links of a state: every event and every request keeps each link legal and the link-change buffer
within 2 entries (R139). -/

namespace Sys2Proof.Machine

/-! ### The links of a state -/

/-- A change that touches neither the links nor the link-change buffer. -/
theorem State.linksLegal.of_same {s t : State} (hs : s.linksLegal) (hlinks : t.links = s.links)
    (hchanges : t.linkChanges = s.linkChanges) : t.linksLegal := by
  obtain ⟨hlegal, hlen⟩ := hs
  exact ⟨fun l => by rw [State.link, hlinks]; exact hlegal l, by rw [hchanges]; exact hlen⟩

theorem State.linksLegal.ite {c : Prop} [Decidable c] {t u : State} (ht : c → t.linksLegal) (hu : ¬ c → u.linksLegal) :
    (if c then t else u).linksLegal := by
  split
  next h => exact ht h
  next h => exact hu h

section States

variable {s : State} (hs : s.linksLegal)
include hs

theorem State.linksLegal.raised (k : NoticeKind) (m : NoticeMember) : (raise k m s).linksLegal := hs

theorem State.linksLegal.modLink {l : LinkNo} {f : Link → Link} (hf : (s.link l).legal → (f (s.link l)).legal) :
    (s.modLink l f).linksLegal := by
  obtain ⟨hlegal, hlen⟩ := hs
  refine ⟨fun m => ?_, hlen⟩
  rw [link_modLink]
  split
  · exact hf (hlegal l)
  · exact hlegal m

/-- Every link rewritten at once. -/
theorem State.linksLegal.mapLinks {f : Link → Link} (hf : ∀ k : Link, k.legal → (f k).legal) :
    ({ s with links := mapTable f s.links } : State).linksLegal := by
  obtain ⟨hlegal, hlen⟩ := hs
  refine ⟨fun l => ?_, hlen⟩
  simp only [State.link, get_mapTable]
  exact hf _ (hlegal l)

end States

theorem State.linksLegal.foldl {α : Type} {f : State → α → State}
    (hf : ∀ (s : State) (a : α), s.linksLegal → (f s a).linksLegal) (xs : List α) {s : State} (hs : s.linksLegal) :
    (xs.foldl f s).linksLegal := by
  induction xs generalizing s with
  | nil => exact hs
  | cons x xs ih => exact ih (hf s x hs)

/-! ### Links that stop and start (R132 to R135) -/

/-- A flush leaves the link quiet (R102). -/
theorem Link.flushed_quiet (k : Link) : k.flushed.quiet = true := by
  unfold Link.flushed Link.departed
  split <;> rfl

/-- A START that nothing stands in the way of is of a set-up link (R161). -/
theorem setUp_of_startFault {s : State} {l : LinkNo} (h : startFault s l = none) : (s.link l).setUp = true := by
  unfold startFault at h
  split at h
  · cases h
  · cases h
  · exact by_contra fun hsetUp => by rw [if_neg hsetUp] at h; cases h

section Events

variable {s : State} (hs : s.linksLegal)
include hs

theorem State.linksLegal.after_enterOff {l : LinkNo} (hquiet : (s.link l).quiet = true) (c : StopCause) :
    (enterOff l c s).linksLegal :=
  hs.modLink (f := fun k => { k with state := .off, stopCause := c, pacer := Pacer.idle }) fun h => h.entersOff hquiet c

theorem State.linksLegal.after_drainCheck (l : LinkNo) : (drainCheck l s).linksLegal := by
  unfold drainCheck
  split
  next h => exact hs.after_enterOff h.2 _
  next => exact hs

theorem State.linksLegal.after_startLink {l : LinkNo} (hsetUp : (s.link l).setUp = true) :
    (startLink l s).linksLegal :=
  hs.modLink fun h => h.started hsetUp

theorem State.linksLegal.after_drainLink (l : LinkNo) (c : StopCause) : (drainLink l c s).linksLegal := by
  unfold drainLink
  split
  next hlive => exact (hs.modLink fun h => h.drains hlive c).after_drainCheck l
  next => exact hs

theorem State.linksLegal.after_stopLinkNow (l : LinkNo) (c : StopCause) : (stopLinkNow l c s).linksLegal := by
  unfold stopLinkNow
  dsimp only
  split
  · exact hs
  · obtain ⟨ls, o, i, n, h⟩ := cancelItems_touches ((s.link l).outList ++ (s.link l).inList) s
    rw [h]
    have hcancelled : State.linksLegal { s with lanes := ls, outs := o, ins := i, notices := n } := hs
    refine (hcancelled.modLink fun h => h.flushed).after_enterOff ?_ c
    rw [link_modLink_self]
    exact Link.flushed_quiet _

/-! ### Triggers (R161) -/

theorem State.linksLegal.after_doAction {a : TriggerAction} (hstart : ∀ l, a = .start l → (s.link l).setUp = true) :
    (doAction s a).linksLegal := by
  cases a with
  | switch streams =>
    obtain ⟨o, n, h⟩ := switchAll_touches streams s
    simp only [doAction, h]
    exact hs
  | start l => exact hs.after_startLink (hstart l rfl)
  | stopDrain l => exact hs.after_drainLink l _
  | stopNow l => exact hs.after_stopLinkNow l _

theorem State.linksLegal.after_fireTrigger (j : TriggerNo) (c : TriggerCond) (a : TriggerAction) :
    (fireTrigger j c a s).linksLegal := by
  unfold fireTrigger
  split
  · exact hs
  next hfault =>
    have hempty : (s.setTrigger j .empty).linksLegal := hs
    refine hempty.after_doAction fun l hl => ?_
    subst hl
    exact setUp_of_startFault hfault

theorem State.linksLegal.after_triggerEvent (e : FireEvent) (j : TriggerNo) : (triggerEvent e s j).linksLegal := by
  unfold triggerEvent
  split
  · exact .ite (fun _ => hs.after_fireTrigger j _ _) (fun _ => hs)
  · exact hs

theorem State.linksLegal.after_triggersEvent (e : FireEvent) : (triggersEvent e s).linksLegal :=
  State.linksLegal.foldl (fun _ j hs => hs.after_triggerEvent e j) _ hs

end Events

/-! ### Time (R41, R122, R142, R151 to R153) -/

section Time

variable {s : State} (hs : s.linksLegal)
include hs

theorem State.linksLegal.after_milliEvent : (milliEvent s).linksLegal := by
  obtain ⟨o, n, h⟩ := milliEvent_touches s
  rw [h]
  exact hs

theorem State.linksLegal.after_secondEvent : (secondEvent s).linksLegal := by
  unfold secondEvent
  obtain ⟨o, n, h⟩ := lifetimesEvent_touches s
  rw [h]
  have hticked : State.linksLegal { s with outs := o, notices := n } := hs
  exact hticked.after_triggersEvent _

theorem State.linksLegal.after_microEvent : (microEvent s).linksLegal := by
  unfold microEvent
  extract_lets counted passed
  have hcounted : counted.linksLegal := hs.mapLinks fun _ h => h.micro
  have hpassed : passed.linksLegal := .ite (fun _ => hcounted.after_milliEvent) (fun _ => hcounted)
  exact .ite (fun _ => hpassed.after_secondEvent) (fun _ => hpassed)

theorem State.linksLegal.after_microEvents (n : Nat) : (microEvents n s).linksLegal := by
  induction n generalizing s with
  | zero => exact hs
  | succ n ih => exact ih hs.after_microEvent

theorem State.linksLegal.after_tick : (tick s).linksLegal := by
  have hmoved : State.linksLegal { s with time := { s.time with window := nextWindow s.time.window } } := hs
  exact hmoved.after_microEvents _

theorem State.linksLegal.after_disciplineEdge : (disciplineEdge s).linksLegal := by
  refine .ite (fun _ => ?_) (fun _ => .ite (fun _ => hs) (fun _ => hs))
  have hsecond : State.linksLegal
      { s with time := { s.time with micros := 0, seconds := nextSecond s.time.seconds } } := hs
  exact hsecond.after_milliEvent.after_secondEvent

theorem State.linksLegal.after_edge : (edge s).linksLegal :=
  State.linksLegal.after_triggersEvent (.ite (fun _ => hs.after_disciplineEdge) (fun _ => hs)) _

end Time

/-! ### Grants (R90 to R95) -/

theorem length_recordChange_le (buf : List LinkChange) (bit status : BitVec 8) (t : TimeBase) :
    (recordChange buf bit status t).length ≤ 2 := by
  unfold recordChange
  split
  · exact Nat.le_succ _
  · exact Nat.le_refl _
  · exact Nat.le_refl _

theorem Link.dropOutHead_state (k : Link) : k.dropOutHead.state = k.state := by
  unfold Link.dropOutHead Link.departed
  split <;> rfl

section Grants

variable {s : State} (hs : s.linksLegal)
include hs

theorem State.linksLegal.after_noteCorrection (read : KeyRead) : (noteCorrection read s).linksLegal := by
  obtain ⟨c, h⟩ := noteCorrection_touches read s
  rw [h]
  exact hs

theorem State.linksLegal.after_assignRekey (i : StreamNo) (a : SlotNo) (p : Nat) : (assignRekey i a p s).linksLegal :=
  .ite (fun _ => hs) (fun _ => hs)

theorem State.linksLegal.after_assignEnd (i : StreamNo) (a : SlotNo) (p : Nat) : (assignEnd i a p s).linksLegal := by
  refine .ite (fun _ => ?_) (fun _ => hs)
  obtain ⟨o, n, h⟩ := leaveActive_touches i a s
  rw [h]
  exact hs

theorem State.linksLegal.after_assignAutoSwitch (i : StreamNo) (a : SlotNo) (p : Nat) :
    (assignAutoSwitch i a p s).linksLegal := by
  refine .ite (fun _ => ?_) (fun _ => hs)
  obtain ⟨o, n, h⟩ := switchStream_touches i a s
  rw [h]
  exact hs

/-- A PROTECT item joins a list with room, of a link that runs (R34 step 2). -/
theorem State.linksLegal.after_assignNumber {l : LinkNo} (n : LaneNo) (i : StreamNo) (a : SlotNo) {f : Frame}
    (tc : Bool) (hruns : (s.link l).state ≠ .off) (hroom : (s.link l).outList.length < Config.listCapacity)
    (hfits : f.length + envelopeOverhead ≤ (s.link l).settings.campusMax) :
    (assignNumber l n i a f tc s).linksLegal :=
  hs.modLink (f := fun k => { k with outList := k.outList ++ [protectItem s l n i a f tc] }) fun h =>
    h.appendOut hruns hroom hfits

theorem State.linksLegal.after_assign {l : LinkNo} (n : LaneNo) (i : StreamNo) (a : SlotNo) {f : Frame} (tc : Bool)
    (hruns : (s.link l).state ≠ .off) (hroom : (s.link l).outList.length < Config.listCapacity)
    (hfits : f.length + envelopeOverhead ≤ (s.link l).settings.campusMax) : (assign l n i a f tc s).linksLegal := by
  have hnumbered := hs.after_assignNumber n i a tc hruns hroom hfits
  have hended := (hnumbered.after_assignRekey i a (s.outSlot i a).nextFn).after_assignEnd i a (s.outSlot i a).nextFn
  exact (hended.after_assignAutoSwitch i a _).after_triggersEvent _

theorem State.linksLegal.after_disposeOut {l : LinkNo} (n : LaneNo) (read : KeyRead) (f : Frame) (d : Decision)
    (hruns : (s.link l).state ≠ .off) (hroom : (s.link l).outList.length < Config.listCapacity) :
    (disposeOut l n read f d s).linksLegal := by
  have hcounted : ∀ g, (countOut l g s).linksLegal := fun g => hs.modLink id
  unfold disposeOut
  split
  · exact hcounted _
  · refine .ite (fun _ => hcounted _) (fun hfits => ?_)
    exact hs.modLink fun h => h.appendOut hruns hroom (Nat.not_lt.1 hfits)
  · refine .ite (fun _ => hcounted _) (fun hfits => ?_)
    split
    next a _ =>
      refine .ite (fun _ => ?_) (fun _ => ?_)
      · obtain ⟨o, nt, c, e, h⟩ := outStoreError_touches d.stream a s
        rw [h]
        exact hs
      · obtain ⟨c, h⟩ := noteCorrection_touches read s
        rw [h]
        have hcorrected : State.linksLegal { s with storeCorrections := c } := hs
        exact hcorrected.after_assign n _ a _ hruns hroom (Nat.not_lt.1 hfits)
    · exact hs

theorem State.linksLegal.after_grantOutbound {l : LinkNo} (n : LaneNo) (read : KeyRead)
    (hroom : (s.link l).outList.length < Config.listCapacity) : (grantOutbound l n read s).linksLegal := by
  unfold grantOutbound
  split
  · exact hs
  next f rest hqueue =>
    have ⟨hlegal, _⟩ := hs
    have hruns : (s.link l).state ≠ .off := (hlegal l).runs (.inl (by rw [hqueue]; nofun))
    have hdropped : (s.modLink l Link.dropOutHead).linksLegal := hs.modLink fun h => h.dropOutHead
    obtain ⟨-, hlist⟩ := (s.link l).dropOutHead_keeps
    obtain ⟨rs, h⟩ := countMatch_touches l f (s.modLink l Link.dropOutHead)
    rw [h]
    have hcounted : State.linksLegal { s.modLink l Link.dropOutHead with rules := rs } := hdropped
    have hlink : State.link { s.modLink l Link.dropOutHead with rules := rs } l = (s.link l).dropOutHead :=
      link_modLink_self l _ s
    refine (hcounted.after_disposeOut n read f _ ?_ ?_).after_drainCheck l
    · rw [hlink, Link.dropOutHead_state]; exact hruns
    · rw [hlink, hlist]; exact hroom

theorem State.linksLegal.after_examineStream {l : LinkNo} (n : LaneNo) (read : KeyRead) (i : StreamNo) (p : Parsed)
    (f : Frame) (hruns : (s.link l).state ≠ .off) (hroom : (s.link l).inList.length < Config.listCapacity) :
    (examineStream l n read i p f s).linksLegal := by
  refine .ite (fun _ => hs) fun _ => .ite (fun _ => ?storeError) fun _ => .ite (fun _ => ?verify) (fun _ => ?replayed)
  case storeError =>
    obtain ⟨o, nt, c, e, h⟩ := inStoreError_touches i p.phase s
    rw [h]
    exact hs
  case verify =>
    obtain ⟨c, h⟩ := noteCorrection_touches read s
    rw [h]
    have hcorrected : State.linksLegal { s with storeCorrections := c } := hs
    exact hcorrected.modLink (f := fun k => { k with inList := k.inList ++ [verifyItem l n i p f] }) fun h =>
      h.appendIn hruns hroom _
  case replayed => exact hs.after_noteCorrection read

theorem State.linksLegal.after_examineIn {l : LinkNo} (n : LaneNo) (read : KeyRead) (f : Frame)
    (hruns : (s.link l).state ≠ .off) (hroom : (s.link l).inList.length < Config.listCapacity) :
    (examineIn l n read f s).linksLegal := by
  have hcounted : ∀ g, (countIn l g s).linksLegal := fun g => hs.modLink id
  unfold examineIn
  split
  · exact .ite (fun _ => hs.modLink fun h => h.appendIn hruns hroom _) (fun _ => hcounted _)
  · split
    · exact hcounted _
    · split
      · exact hcounted _
      · exact hs.after_examineStream n read _ _ f hruns hroom

theorem State.linksLegal.after_grantInbound {l : LinkNo} (n : LaneNo) (read : KeyRead)
    (hroom : (s.link l).inList.length < Config.listCapacity) : (grantInbound l n read s).linksLegal := by
  unfold grantInbound
  split
  · exact hs
  next f rest hqueue =>
    have ⟨hlegal, _⟩ := hs
    have hruns : (s.link l).state ≠ .off := (hlegal l).runs (.inr (.inl (by rw [hqueue]; nofun)))
    have hdropped : (s.modLink l fun k => { k with inQueue := k.inQueue.tail }).linksLegal :=
      hs.modLink fun h => h.dropInQueueHead
    refine (hdropped.after_examineIn n read f ?_ ?_).after_drainCheck l
    · rw [link_modLink_self]; exact hruns
    · rw [link_modLink_self]; exact hroom

end Grants

/-! ### Releases (R99 to R101) -/

section Releases

variable {s : State} (hs : s.linksLegal)
include hs

theorem State.linksLegal.after_itemLeft (it : Item) : (itemLeft it s).linksLegal := by
  obtain ⟨o, i, n, h⟩ := itemLeft_touches it s
  rw [h]
  exact hs

theorem State.linksLegal.after_releaseOutbound (l : LinkNo) : (releaseOutbound l s).linksLegal := by
  unfold releaseOutbound
  split
  · exact hs
  next it rest hlist =>
    have hhead : it ∈ (s.link l).outList := by rw [hlist]; exact List.mem_cons_self
    refine .ite (fun _ => .ite (fun hsend => ?sent) fun _ => .ite (fun _ => hs) fun _ => ?discarded) (fun _ => hs)
    case sent =>
      exact ((hs.modLink fun h => h.sendOut hhead hsend).after_itemLeft it).after_drainCheck l
    case discarded =>
      exact ((hs.modLink (f := Link.discardOut) fun h => h.dropOutListHead).after_itemLeft it).after_drainCheck l

theorem State.linksLegal.after_sendToGrace (i : StreamNo) (k : SlotNo) : (sendToGrace i k s).linksLegal := by
  refine .ite (fun _ => ?_) (fun _ => hs)
  obtain ⟨o, n, h⟩ := leaveInSlot_touches i k s
  rw [h]
  exact hs

theorem State.linksLegal.after_flipSelector (i : StreamNo) (k : SlotNo) : (flipSelector i k s).linksLegal := by
  have hactive : (s.modInSlot i k fun sl => { sl with state := .active }).linksLegal := hs
  exact .ite (fun _ => hactive.after_sendToGrace i _) (fun _ => hactive)

/-- What the rack face sends and counts is no part of the link's rules. -/
theorem State.linksLegal.after_deliver (l : LinkNo) (ref : KeyRef) (f : Frame) : (deliver l ref f s).linksLegal := by
  unfold deliver
  extract_lets sl windowed counted sent
  have hcounted : counted.linksLegal := hs
  have hsent : sent.linksLegal := hcounted.modLink id
  exact .ite (fun _ => hsent.after_flipSelector _ _) (fun _ => hsent)

theorem State.linksLegal.after_judgeHead (l : LinkNo) (it : Item) : (judgeHead l it s).linksLegal := by
  unfold judgeHead
  split
  · exact hs.modLink id
  · unfold judgeVerify
    split
    · exact .ite (fun _ => hs.after_deliver l _ _) (fun _ => hs)
    · exact .ite (fun _ => hs) fun _ => .ite (fun _ => hs) (fun _ => hs)
  · exact hs

theorem State.linksLegal.after_releaseInbound (l : LinkNo) : (releaseInbound l s).linksLegal := by
  unfold releaseInbound
  split
  · exact hs
  · refine .ite (fun _ => .ite (fun _ => ?judged) fun _ => .ite (fun _ => hs) fun _ => ?discarded) (fun _ => hs)
    case judged =>
      exact (((hs.modLink fun h => h.dropInHead).after_judgeHead l _).after_itemLeft _).after_drainCheck l
    case discarded =>
      exact ((hs.modLink (f := Link.discardIn) fun h => h.dropInHead).after_itemLeft _).after_drainCheck l

end Releases

/-! ### Faces, load jobs, ALARM and resets -/

section OtherEvents

variable {s : State} (hs : s.linksLegal)
include hs

theorem State.linksLegal.after_noteChange (l : LinkNo) (side : Side) : (noteChange l side s).linksLegal := by
  have ⟨hlegal, _⟩ := hs
  exact .ite (fun _ => ⟨hlegal, length_recordChange_le _ _ _ _⟩) (fun _ => hs)

theorem State.linksLegal.after_endJob (j : Job) (r : LoadResult) (x : Option Secret) :
    (removeHeadJob (endJob j r x s)).linksLegal := by
  obtain ⟨o, i, n, h⟩ := endJob_touches j r x s
  obtain ⟨u, a, h'⟩ := removeHeadJob_touches (endJob j r x s)
  rw [h', h]
  exact hs

theorem State.linksLegal.after_grantKeyUnit (n : LaneNo) : (grantKeyUnit n s).linksLegal := by
  unfold grantKeyUnit
  split
  · exact hs
  · split
    · exact hs
    · exact hs.after_endJob _ _ _

theorem State.linksLegal.after_completeJob (n : LaneNo) (j : Job) : (completeJob n j s).linksLegal := by
  unfold completeJob
  split
  · have hfree : (s.setLane n .free).linksLegal := hs
    exact hfree.after_endJob j _ _
  · exact hs

theorem State.linksLegal.after_raiseLinksStopped (before : State) : (raiseLinksStopped before s).linksLegal :=
  State.linksLegal.foldl (fun _ _ hs => .ite (fun _ => hs) (fun _ => hs.raised _ _)) _ hs

theorem State.linksLegal.after_alarmEntry (cause : AlarmCause) : (alarmEntry cause s).linksLegal := by
  have halarmed : State.linksLegal { s with links := mapTable Link.alarmed s.links } :=
    hs.mapLinks fun _ h => h.alarmed
  refine State.linksLegal.raised (State.linksLegal.after_raiseLinksStopped ?_ s) _ _
  exact halarmed.of_same rfl rfl

theorem State.linksLegal.after_completeSelfTest (passed : BitVec 8) : (completeSelfTest passed s).linksLegal := by
  unfold completeSelfTest
  extract_lets few pool noticed
  have hnoticed : noticed.linksLegal := .ite (fun _ => hs) (fun _ => hs)
  exact .ite (fun _ => hnoticed) fun _ => .ite (fun _ => hnoticed.after_alarmEntry _) (fun _ => hnoticed)

theorem State.linksLegal.after_tamperByMode : (tamperByMode s).linksLegal := by
  unfold tamperByMode
  split
  · exact hs
  · exact hs.after_alarmEntry _
  · exact hs
  · exact hs

theorem State.linksLegal.after_holdReset (kind : ResetKind) : (holdReset kind s).linksLegal :=
  hs.mapLinks fun _ h => (h.transmissionEnded .rack .lost).transmissionEnded .campus .lost

end OtherEvents

/-- A reset leaves every link at its reset values (R166). -/
theorem linksLegal_released (kind : ResetKind) (address : BitVec 3) (rateHigh : Bool) (s : State) :
    (released kind address rateHigh s).linksLegal := by
  refine ⟨fun l => ?_, Nat.zero_le _⟩
  have hreset : (released kind address rateHigh s).link l = Link.reset := get_replicate _ l
  rw [hreset]
  exact Link.legal_reset

/-! ### The link requests (R129, R132, R133, R145) -/

theorem LinkState.off_of_ne {x : LinkState} (hlive : x ≠ .live) (hdraining : x ≠ .draining) : x = .off := by
  cases x <;> trivial

/-- The settings that LINK_SETUP's checks let pass are in range, and the ramp profile keeps to them (R129). -/
theorem linkSetup_of_passes {ps : List Byte} {s : State} (h : firstFailing (linkSetupChecks ps s) = none) :
    (s.link (linkAt ps 0)).state = .off ∧ (settingsOf ps).inRange ∧
      ∀ st ∈ (s.link (linkAt ps 0)).ramp, st.rate ≤ (settingsOf ps).rate := by
  simp only [linkSetupChecks, firstFailing_cons_eq_none_iff, Bool.or_eq_false_iff, decide_eq_false_iff_not,
    List.any_eq_false, decide_eq_true_eq, not_lt, not_le] at h
  obtain ⟨-, -, ⟨hmax, hmax'⟩, ⟨⟨hhigh, hhigh'⟩, hlow⟩, ⟨⟨⟨hrate, hrate'⟩, hburst⟩, hburst'⟩, hramp, hlive,
    hdraining, -⟩ := h
  exact ⟨LinkState.off_of_ne hlive hdraining,
    ⟨hmax, hmax', Nat.pos_of_ne_zero hhigh, hhigh', hlow, Nat.pos_of_ne_zero hrate, hrate', hburst, hburst'⟩, hramp⟩

/-- The stages that RAMP_SET's checks let pass are in range (R145). -/
theorem rampSet_of_passes {ps : List Byte} {s : State} (h : firstFailing (rampSetChecks ps s) = none) :
    (s.link (linkAt ps 0)).state = .off ∧ (stagesOf ps).length ≤ 16 ∧
      ∀ st ∈ stagesOf ps, st.inRange (s.link (linkAt ps 0)).settings.rate := by
  simp only [rampSetChecks, firstFailing_eq_none_iff, List.forall_mem_append, List.forall_mem_cons,
    List.forall_mem_flatMap, stageChecks, Bool.or_eq_false_iff, decide_eq_false_iff_not, not_lt] at h
  obtain ⟨⟨⟨-, hcount, -⟩, hstages⟩, -, hlive, hdraining, -⟩ := h
  refine ⟨LinkState.off_of_ne hlive hdraining, by simpa [stagesOf] using hcount, fun st hst => ?_⟩
  obtain ⟨⟨hrate, hrate'⟩, ⟨hduration, hduration'⟩, -⟩ := hstages st hst
  exact ⟨Nat.pos_of_ne_zero hrate, hrate', Nat.pos_of_ne_zero hduration, hduration'⟩

/-! ### Requests beside the links -/

theorem removeJob_touches (d : Dir) (i : StreamNo) (k : SlotNo) (s : State) :
    ∃ u a, removeJob d i k s = { s with keyUnit := u, arbiter := a } := by
  unfold removeJob
  dsimp only
  split
  · exact ⟨_, _, rfl⟩
  · exact ⟨_, s.arbiter, rfl⟩

theorem retireKey_touches (d : Dir) (i : StreamNo) (k : SlotNo) (s : State) :
    ∃ o ii u a n, retireKey d i k s = { s with outs := o, ins := ii, keyUnit := u, arbiter := a, notices := n } := by
  have hleft : ∃ o ii u a n,
      leaveInSlot i k s = { s with outs := o, ins := ii, keyUnit := u, arbiter := a, notices := n } := by
    obtain ⟨ii, n, h⟩ := leaveInSlot_touches i k s
    exact ⟨s.outs, ii, s.keyUnit, s.arbiter, n, h⟩
  obtain ⟨u, a, hremoved⟩ := removeJob_touches d i k s
  cases d with
  | out =>
    simp only [retireKey, retireOut]
    split
    · unfold cancelOutLoad
      split
      · exact ⟨_, s.ins, _, s.arbiter, s.notices, rfl⟩
      · rw [hremoved]
        exact ⟨_, s.ins, _, _, s.notices, rfl⟩
    · obtain ⟨o, n, h⟩ := leaveOutSlot_touches i k s
      exact ⟨o, s.ins, s.keyUnit, s.arbiter, n, h⟩
    · obtain ⟨o, n, h⟩ := leaveActive_touches i k s
      exact ⟨o, s.ins, s.keyUnit, s.arbiter, n, h⟩
    · exact ⟨s.outs, s.ins, s.keyUnit, s.arbiter, s.notices, rfl⟩
    · exact ⟨s.outs, s.ins, s.keyUnit, s.arbiter, s.notices, rfl⟩
  | inn =>
    simp only [retireKey, retireIn]
    split
    · unfold cancelInLoad
      split
      · exact ⟨s.outs, s.ins, _, s.arbiter, s.notices, rfl⟩
      · rw [hremoved]
        exact ⟨s.outs, _, _, _, s.notices, rfl⟩
    · exact hleft
    · exact hleft
    · exact hleft
    · exact ⟨s.outs, s.ins, s.keyUnit, s.arbiter, s.notices, rfl⟩
    · exact ⟨s.outs, s.ins, s.keyUnit, s.arbiter, s.notices, rfl⟩

section Requests

variable {s : State} (hs : s.linksLegal)
include hs

theorem State.linksLegal.after_openStream (ps : List Byte) : (openStream ps s).linksLegal := by
  unfold openStream
  split <;> exact hs

theorem State.linksLegal.after_closeStream (d : Dir) (i : StreamNo) : (closeStream d i s).linksLegal := by
  cases d with
  | out => exact .ite (fun _ => hs) (fun _ => hs)
  | inn => exact .ite (fun _ => hs) (fun _ => hs)

theorem State.linksLegal.after_startLoad (j : Job) : (beginLoading j (appendJob j s)).linksLegal := by
  have happended : (appendJob j s).linksLegal := .ite (fun _ => hs) (fun _ => hs)
  unfold beginLoading
  split <;> exact happended

theorem State.linksLegal.after_retireKey (d : Dir) (i : StreamNo) (k : SlotNo) : (retireKey d i k s).linksLegal := by
  obtain ⟨o, ii, u, a, n, h⟩ := retireKey_touches d i k s
  rw [h]
  exact hs

theorem State.linksLegal.after_judgeSwitch (i : StreamNo) : answerLeaves State.linksLegal (judgeSwitch i s) := by
  have hrequested : ∀ a, answerLeaves State.linksLegal (answerDone (requestSwitch i a s)) := fun a => by
    obtain ⟨o, n, h⟩ := requestSwitch_touches i a s
    rw [h]
    exact answerLeaves_done hs
  unfold judgeSwitch
  split
  · exact answerLeaves_refuse _ _
  · exact answerLeaves_refuse _ _
  · exact answerLeaves_refuse _ _
  · split
    · exact hrequested _
    · exact hrequested _
    · exact answerLeaves_refuse _ _

/-- The counters are no part of a link's rules. -/
theorem State.linksLegal.after_zeroScope (scope : Nat) (l : LinkNo) (i : StreamNo) :
    (zeroScope scope l i s).linksLegal := by
  unfold zeroScope
  split
  · exact hs
  · exact hs.modLink id
  · exact hs.modLink id
  · exact hs.modLink id
  · exact hs
  · exact hs

/-! ### The requests that reach the links -/

theorem State.linksLegal.after_linkSetup (ps : List Byte) :
    answerLeaves State.linksLegal (reqLinkSetup.judge ps s) := by
  refine answerLeaves_of_passes fun hpass => answerLeaves_done ?_
  obtain ⟨hoff, hrange, hramp⟩ := linkSetup_of_passes hpass
  exact hs.modLink fun h => h.setUpWith hoff hrange hramp

theorem State.linksLegal.after_rampSet (ps : List Byte) :
    answerLeaves State.linksLegal (reqRampSet.judge ps s) := by
  refine answerLeaves_of_passes fun hpass => answerLeaves_done ?_
  obtain ⟨hoff, hlen, hstages⟩ := rampSet_of_passes hpass
  exact hs.modLink fun h => h.rampSet hoff hlen hstages

theorem State.linksLegal.after_linkStart (ps : List Byte) :
    answerLeaves State.linksLegal (reqLinkStart.judge ps s) := by
  refine answerLeaves_of_passes fun hpass => answerLeaves_done (hs.after_startLink ?_)
  simp only [firstFailing_cons_eq_none_iff] at hpass
  obtain ⟨-, -, -, hsetUp, -⟩ := hpass
  simpa using hsetUp

theorem State.linksLegal.after_stopLink (l : LinkNo) (action : Nat) : (stopLink l action s).linksLegal :=
  .ite (fun _ => hs.after_drainLink l _) (fun _ => hs.after_stopLinkNow l _)

theorem State.linksLegal.after_readLinkChanges : State.linksLegal { s with linkChanges := [] } := by
  obtain ⟨hlegal, -⟩ := hs
  exact ⟨hlegal, Nat.zero_le _⟩

theorem State.linksLegal.after_setTime (seconds : Nat) : (setTime seconds s).linksLegal := by
  have hset : State.linksLegal { s with time := { s.time with seconds := seconds, micros := 0, valid := true } } := hs
  exact hset.after_triggersEvent _

theorem State.linksLegal.after_zeroize : (zeroizeEffect s).linksLegal :=
  .ite (fun _ => hs.after_alarmEntry _) (fun _ => hs)

end Requests

/-- Every request of Table 10-4 that is not refused keeps the links legal. -/
theorem requestTable_keepsLinks :
    ∀ r ∈ requestTable, ∀ (ps : List Byte) (s : State), s.linksLegal →
      answerLeaves State.linksLegal (r.judge ps s) := by
  simp only [requestTable, List.forall_mem_append, List.forall_mem_cons]
  refine ⟨⟨⟨⟨⟨⟨?poll, ?identify, ?readStatus, ?readNotices, ?noticeSetup, ?readCounters, ?deviceSetup, nofun⟩,
    ?linkSetup, ?rampSet, ?linkStart, ?linkStop, ?readLink, ?readLinkChanges, nofun⟩,
    ?rulePut, ?ruleDrop, ?readRule, nofun⟩,
    ?streamOpen, ?streamClose, ?readStream, ?keyLoad, ?keyRetire, ?keySwitch, ?kwkLoad, ?kwkErase, nofun⟩,
    ?timeSet, ?timeTrim, ?timeRead, ?triggerArm, ?triggerCancel, ?triggerRelease, ?readTrigger, nofun⟩,
    ?restart, ?zeroize, ?alarmClear, ?readRetained, nofun⟩
  all_goals intro ps s hs
  case linkSetup => exact hs.after_linkSetup ps
  case rampSet => exact hs.after_rampSet ps
  case linkStart => exact hs.after_linkStart ps
  case linkStop => exact answerLeaves_checked (answerLeaves_done (hs.after_stopLink _ _))
  case readLinkChanges => exact answerLeaves_data _ hs.after_readLinkChanges
  case readCounters =>
    exact answerLeaves_checked (answerLeaves_data _ (.ite (fun _ => hs) (fun _ => hs.after_zeroScope _ _ _)))
  case streamOpen => exact answerLeaves_checked (answerLeaves_done (hs.after_openStream ps))
  case streamClose => exact answerLeaves_checked (answerLeaves_done (hs.after_closeStream _ _))
  case keyLoad => exact answerLeaves_checked (answerLeaves_done (hs.after_startLoad _))
  case keyRetire => exact answerLeaves_checked (answerLeaves_done (hs.after_retireKey _ _ _))
  case keySwitch => exact answerLeaves_checked (hs.after_judgeSwitch _)
  case timeSet => exact answerLeaves_done (hs.after_setTime _)
  case zeroize => exact answerLeaves_done hs.after_zeroize
  case readStream => exact answerLeaves_checked (answerLeaves_ok _ hs)
  case poll | identify | readStatus | timeRead | readRetained => exact answerLeaves_data _ hs
  case readNotices | readLink | readRule | readTrigger => exact answerLeaves_checked (answerLeaves_data _ hs)
  case restart => exact answerLeaves_done hs
  case noticeSetup | deviceSetup | rulePut | ruleDrop | kwkLoad | kwkErase | timeTrim | triggerArm | triggerCancel
    | triggerRelease | alarmClear => exact answerLeaves_checked (answerLeaves_done hs)

theorem linksLegal_keptByRequests : KeptByRequests State.linksLegal where
  line _ _ hs := hs
  requests := requestTable_keepsLinks

/-! ### Every command -/

theorem linksLegal_of_next {t u : State} (h : (.next u : Host.Outcome State Fault Refusal) = .next t)
    (hu : u.linksLegal) : t.linksLegal := by
  cases h
  exact hu

/-- A command that does nothing while a reset is held (R166). -/
theorem linksLegal_of_unlessHeld {f : State → State} {s t : State}
    (h : (.next (unlessHeld f s) : Host.Outcome State Fault Refusal) = .next t) (hs : s.linksLegal)
    (hf : (f s).linksLegal) : t.linksLegal :=
  linksLegal_of_next h (.ite (fun _ => hs) (fun _ => hf))

/-- Every command keeps the links legal. -/
theorem exec_linksLegal (c : Instr) {s t : State} (h : exec c s = .next t) (hs : s.linksLegal) : t.linksLegal := by
  have hkept := linksLegal_keptByRequests
  cases c with
  | poll | identify | readStatus | readNotices | noticeSetup | readCounters | deviceSetup | linkSetup | rampSet
  | linkStart | linkStop | readLink | readLinkChanges | rulePut | ruleDrop | readRule | streamOpen | streamClose
  | readStream | keyLoad | keyRetire | keySwitch | kwkLoad | kwkErase | timeSet | timeTrim | timeRead
  | triggerArm | triggerCancel | triggerRelease | readTrigger | restart | zeroize | alarmClear | readRetained =>
    exact linksLegal_of_next h (hkept.after_takeRequest hs (by simp [requestTable]) _)
  | unknownRequest code ps => exact linksLegal_of_next h (hkept.after_recordArrives hs _ (hkept.after_takeRecord hs _))
  | recordCheckFailed head body check =>
    exact linksLegal_of_next h (hkept.after_recordArrives hs _ (hkept.after_judgeRecord hs _ _ _))
  | recordIgnored head body check =>
    exact linksLegal_of_next h (hkept.after_recordArrives hs _ (hkept.after_judgeRecord hs _ _ _))
  | recordLenInvalid len =>
    refine linksLegal_of_unlessHeld h hs ?_
    split
    · exact .ite (fun _ => hs) (fun _ => hs)
    · exact hs
  | framingError =>
    refine linksLegal_of_unlessHeld h hs (.ite (fun _ => hs) (fun _ => ?_))
    unfold badStopBit
    split <;> exact hs
  | recordGapTimeout =>
    refine linksLegal_of_unlessHeld h hs ?_
    split <;> exact hs
  | overlapByte byte => exact linksLegal_of_unlessHeld h hs (.ite (fun _ => hs) (fun _ => hs))
  | replyEnd =>
    refine linksLegal_of_unlessHeld h hs (.ite (fun _ => ?_) (fun _ => hs))
    have hended : (s.modLine fun ln => { ln with assembly := .hunt, reply := none }).linksLegal := hs
    exact .ite (fun _ => hended.after_holdReset _) (fun _ => hended)
  | powerOn => exact linksLegal_of_next h (hs.after_holdReset .powerOn)
  | pinReset => exact linksLegal_of_next h (hs.after_holdReset _)
  | resetRelease address rateHigh =>
    refine linksLegal_of_next h ?_
    split
    · exact linksLegal_released _ _ _ s
    · exact hs
  | selfTestComplete passed =>
    exact linksLegal_of_unlessHeld h hs (.ite (fun _ => hs.after_completeSelfTest passed) (fun _ => hs))
  | tamperAssert =>
    have hlevel : State.linksLegal { s with tamperAsserted := true, kwk := none } := hs
    exact linksLegal_of_next h
      (.ite (fun _ => hs) fun _ => .ite (fun _ => hlevel) (fun _ => hlevel.after_tamperByMode))
  | tamperDeassert => exact linksLegal_of_next h hs
  | referenceTick => exact linksLegal_of_unlessHeld h hs hs.after_tick
  | rampStageEnd link =>
    refine linksLegal_of_unlessHeld h hs ?_
    split
    · exact .ite (fun _ => hs.modLink fun h => h.pacerMicro) (fun _ => hs)
    · exact hs
  | pauseRefresh link =>
    refine linksLegal_of_unlessHeld h hs ?_
    split
    · exact .ite (fun _ => hs.modLink fun h => h.refreshMicro) (fun _ => hs)
    · exact hs
  | graceExpiry stream slot =>
    refine linksLegal_of_unlessHeld h hs (.ite (fun _ => ?_) (fun _ => hs))
    obtain ⟨o, n, heq⟩ := leaveInSlot_touches stream slot s
    rw [heq]
    exact hs
  | lifetimeExpiry stream =>
    refine linksLegal_of_unlessHeld h hs ?_
    split
    · refine .ite (fun _ => ?_) (fun _ => hs)
      obtain ⟨o, n, heq⟩ := secondAtSlot_touches stream _ s
      rw [heq]
      exact hs
    · exact hs
  | pulseEdge => exact linksLegal_of_unlessHeld h hs hs.after_edge
  | triggerFire slot event =>
    refine linksLegal_of_unlessHeld h hs ?_
    split
    · exact .ite (fun _ => hs.after_fireTrigger _ _ _) (fun _ => hs)
    · exact hs
  | faceUp link side =>
    exact linksLegal_of_unlessHeld h hs
      (.ite (fun _ => hs) fun _ => (hs.modLink fun h => h.wentUp side).after_noteChange link side)
  | faceDown link side =>
    exact linksLegal_of_unlessHeld h hs
      (.ite (fun _ => (hs.modLink fun h => h.wentDown side).after_noteChange link side) (fun _ => hs))
  | frameReceived link side frame =>
    exact linksLegal_of_unlessHeld h hs (.ite (fun _ => hs.modLink fun h => h.received side frame) (fun _ => hs))
  | pauseSend link => exact linksLegal_of_unlessHeld h hs (.ite (fun _ => hs.modLink id) (fun _ => hs))
  | transmissionEnd link side =>
    exact linksLegal_of_unlessHeld h hs (hs.modLink fun h => h.transmissionEnded side .complete)
  | outboundGrant read =>
    refine linksLegal_of_unlessHeld h hs ?_
    split
    next r n hnext =>
      refine .ite (fun hr => ?_) (fun _ => hs)
      obtain ⟨-, hroom⟩ := (trafficRequests_out_iff hr).1 (trafficRequests_of_nextGrant hnext)
      have hnoted : (noteTrafficGrant r s).linksLegal := hs
      exact hnoted.after_grantOutbound n read hroom
    next => exact hs
  | inboundGrant read =>
    refine linksLegal_of_unlessHeld h hs ?_
    split
    next r n hnext =>
      refine .ite (fun _ => hs) (fun hr => ?_)
      obtain ⟨-, hroom⟩ := (trafficRequests_in_iff hr).1 (trafficRequests_of_nextGrant hnext)
      have hnoted : (noteTrafficGrant r s).linksLegal := hs
      exact hnoted.after_grantInbound n read hroom
    next => exact hs
  | keyPreparationGrant =>
    refine linksLegal_of_unlessHeld h hs ?_
    split
    · have hreset : (resetCount s).linksLegal := hs
      exact hreset.after_grantKeyUnit _
    · exact hs
  | laneCompletion lane =>
    refine linksLegal_of_unlessHeld h hs ?_
    split
    next l x nonce _ =>
      exact hs.modLink (f := fun k => { k with outList := k.outList.map (Item.completedOn lane x nonce) }) fun h =>
        h.completeOut lane x nonce
    next l x nonce _ =>
      exact hs.modLink (f := fun k => { k with inList := k.inList.map (Item.completedOn lane x nonce) }) fun h =>
        h.completeIn lane x nonce
    next => exact hs
  | keyJobCompletion =>
    refine linksLegal_of_unlessHeld h hs ?_
    split
    · exact hs.after_completeJob _ _
    · exact hs
  | outboundRelease link => exact linksLegal_of_unlessHeld h hs (hs.after_releaseOutbound link)
  | inboundRelease link => exact linksLegal_of_unlessHeld h hs (hs.after_releaseInbound link)
  | drainComplete link => exact linksLegal_of_unlessHeld h hs (hs.after_drainCheck link)
  | byteReceived byte => exact linksLegal_of_unlessHeld h hs (hkept.after_receiveByte hs byte)

/-- Settles O11: every operation on a link keeps its settings, queues, lists and pacer within their rules, the grants
because a requester's list has room, a send because its charge is at most 77,984 bits on a credit above 0; no other
operation reaches a link. -/
theorem linksStayLegal : Obligations.LinksStayLegal := by
  intro s t hs hstep
  unfold step at hstep
  split at hstep
  · cases hstep
    exact hs
  · exact exec_linksLegal _ hstep (hs.of_same rfl rfl)

end Sys2Proof.Machine
end

section
/-! SUPPORT. The replay test and window (R112, R117, R118): when a frame number passes, what a delivery makes of the
bitmap, and that a number the test rejects is rejected from then on. -/

namespace Sys2Proof.Machine

/-! ### The test (R112) -/

theorem replayPasses_iff (sl : InSlot) (w p : Nat) :
    replayPasses sl w p = true ↔
      sl.lower ≤ p ∧
        (sl.highest < p ∨ (sl.highest - p < w ∧ sl.bitmap.getLsbD (sl.highest - p) = false)) := by
  unfold replayPasses
  by_cases hlower : p < sl.lower
  · simp [hlower, Nat.not_le.2 hlower]
  by_cases habove : sl.highest < p
  · simp [hlower, habove, Nat.not_lt.1 hlower]
  by_cases hold : w ≤ sl.highest - p
  · simp [hlower, habove, hold]
  · have hw : w ≠ 0 := by omega
    simp [hlower, habove, hold, hw, Nat.not_lt.1 hlower, Nat.lt_of_not_le hold]

/-- A number is rejected below Lb, or at or below H where it is too old or its bit is set. -/
theorem replayPasses_eq_false_iff (sl : InSlot) (w p : Nat) :
    replayPasses sl w p = false ↔
      p < sl.lower ∨
        (p ≤ sl.highest ∧ (w ≤ sl.highest - p ∨ sl.bitmap.getLsbD (sl.highest - p) = true)) := by
  rw [← Bool.not_eq_true, replayPasses_iff]
  grind

/-! ### The window after a delivery (R118) -/

theorem getLsbD_windowMask {w : Nat} (hw : w ≤ 64) (b : Nat) : (windowMask w).getLsbD b = decide (b < w) := by
  rw [windowMask, BitVec.getLsbD_ofNat, Nat.testBit_two_pow_sub_one, ← Bool.decide_and]
  exact decide_eq_decide.2 (by omega)

theorem InSlot.windowUpdated_lower (sl : InSlot) (w p : Nat) : (sl.windowUpdated w p).lower = sl.lower := by
  unfold InSlot.windowUpdated
  split <;> rfl

section Window

variable {sl : InSlot} {w p : Nat}

/-- A delivery above H moves the window up to it. -/
theorem InSlot.windowUpdated_of_above (habove : sl.highest < p) :
    sl.windowUpdated w p = { sl with highest := p, bitmap := (sl.windowUpdated w p).bitmap } := by
  rw [InSlot.windowUpdated, if_pos habove]

theorem InSlot.getLsbD_windowUpdated_of_above (hw : w ≤ 64) (habove : sl.highest < p) (b : Nat) :
    (sl.windowUpdated w p).bitmap.getLsbD b =
      decide (b < w ∧
        (b = 0 ∨ (p - sl.highest ≤ b ∧ sl.bitmap.getLsbD (b - (p - sl.highest)) = true))) := by
  rw [InSlot.windowUpdated, if_pos habove]
  by_cases hfar : w ≤ p - sl.highest
  · -- nothing of the old window stays in the new one
    simp only [if_pos hfar, BitVec.getLsbD_and, getLsbD_windowMask hw]
    grind
  · simp only [if_neg hfar, BitVec.getLsbD_and, BitVec.getLsbD_or, BitVec.getLsbD_shiftLeft, getLsbD_windowMask hw]
    grind

/-- A delivery at or below H leaves the window where it is. -/
theorem InSlot.windowUpdated_of_within (hwithin : p ≤ sl.highest) :
    sl.windowUpdated w p = { sl with bitmap := (sl.windowUpdated w p).bitmap } := by
  rw [InSlot.windowUpdated, if_neg (Nat.not_lt.2 hwithin)]

theorem InSlot.getLsbD_windowUpdated_of_within (hwithin : p ≤ sl.highest) (b : Nat) :
    (sl.windowUpdated w p).bitmap.getLsbD b = (sl.bitmap.getLsbD b || decide (b < 64 ∧ b = sl.highest - p)) := by
  rw [InSlot.windowUpdated, if_neg (Nat.not_lt.2 hwithin), BitVec.getLsbD_or, BitVec.getLsbD_ofNat,
    Nat.testBit_two_pow, ← Bool.decide_and]
  simp only [eq_comm (a := b)]

theorem InSlot.windowUpdated_highest : (sl.windowUpdated w p).highest = max sl.highest p := by
  rcases Nat.lt_or_ge sl.highest p with habove | hwithin
  · rw [InSlot.windowUpdated_of_above habove, max_eq_right habove.le]
  · rw [InSlot.windowUpdated_of_within hwithin, max_eq_left hwithin]

/-! ### What is rejected stays rejected (R117) -/

theorem replayPasses_windowUpdated_self (hw : w ≤ 64) (hp : replayPasses sl w p = true) :
    replayPasses (sl.windowUpdated w p) w p = false := by
  rw [replayPasses_eq_false_iff, InSlot.windowUpdated_highest]
  rcases Nat.lt_or_ge sl.highest p with habove | hwithin
  · -- it is the new H: bit 0 is set, or the window is empty
    rw [max_eq_right habove.le, Nat.sub_self, InSlot.getLsbD_windowUpdated_of_above hw habove]
    refine .inr ⟨le_rfl, ?_⟩
    rcases Nat.eq_zero_or_pos w with hempty | hpos
    · exact .inl hempty.le
    · exact .inr (decide_eq_true ⟨hpos, .inl rfl⟩)
  · -- it passed as a number of the window, so its bit is one of the 64
    have hnear : sl.highest - p < w := by
      obtain ⟨-, habove | ⟨hnear, -⟩⟩ := (replayPasses_iff sl w p).1 hp
      · exact absurd habove (Nat.not_lt.2 hwithin)
      · exact hnear
    rw [max_eq_left hwithin, InSlot.getLsbD_windowUpdated_of_within hwithin]
    exact .inr ⟨hwithin, .inr (by simp [hnear.trans_le hw])⟩

theorem replayPasses_windowUpdated_of_rejected (hw : w ≤ 64) {q : Nat} (hq : replayPasses sl w q = false) :
    replayPasses (sl.windowUpdated w p) w q = false := by
  rw [replayPasses_eq_false_iff] at hq ⊢
  rw [InSlot.windowUpdated_lower, InSlot.windowUpdated_highest]
  obtain hlower | ⟨hle, hold | hset⟩ := hq
  · exact .inl hlower
  · exact .inr ⟨hle.trans (le_max_left _ _), .inl (by omega)⟩
  rcases Nat.lt_or_ge sl.highest p with habove | hwithin
  · -- its bit moves by p − H, and where it leaves the window the number is too old
    rw [max_eq_right habove.le, InSlot.getLsbD_windowUpdated_of_above hw habove]
    have hmoved : p - q - (p - sl.highest) = sl.highest - q := by omega
    rcases Nat.lt_or_ge (p - q) w with hnear | hold
    · exact .inr ⟨hle.trans habove.le, .inr (decide_eq_true ⟨hnear, .inr ⟨by omega, hmoved ▸ hset⟩⟩)⟩
    · exact .inr ⟨hle.trans habove.le, .inl hold⟩
  · rw [max_eq_left hwithin, InSlot.getLsbD_windowUpdated_of_within hwithin, hset]
    exact .inr ⟨hle, .inr rfl⟩

end Window

theorem notMem_deliveries_of_rejected {w q : Nat} (hw : w ≤ 64) {sl : InSlot} (hq : replayPasses sl w q = false)
    (numbers : List Nat) : q ∉ deliveries w sl numbers := by
  induction numbers generalizing sl with
  | nil => simp [deliveries]
  | cons p numbers ih =>
    rw [deliveries]
    split
    next hp =>
      have hne : q ≠ p := by
        rintro rfl
        rw [hp] at hq
        cases hq
      exact List.not_mem_cons_of_ne_of_not_mem hne (ih (replayPasses_windowUpdated_of_rejected hw hq))
    next => exact ih hq

theorem nodup_deliveries {w : Nat} (hw : w ≤ 64) (sl : InSlot) (numbers : List Nat) :
    (deliveries w sl numbers).Nodup := by
  induction numbers generalizing sl with
  | nil => exact List.nodup_nil
  | cons p numbers ih =>
    rw [deliveries]
    split
    next hp =>
      exact List.nodup_cons.2 ⟨notMem_deliveries_of_rejected hw (replayPasses_windowUpdated_self hw hp) numbers, ih _⟩
    next => exact ih sl

theorem lower_le_of_mem_deliveries {w q : Nat} {sl : InSlot} {numbers : List Nat} (hq : q ∈ deliveries w sl numbers) :
    sl.lower ≤ q := by
  induction numbers generalizing sl with
  | nil => simp [deliveries] at hq
  | cons p numbers ih =>
    rw [deliveries] at hq
    split at hq
    next hp =>
      rcases List.mem_cons.1 hq with rfl | hlater
      · exact ((replayPasses_iff sl w q).1 hp).1
      · exact sl.windowUpdated_lower w p ▸ ih hlater
    next => exact ih hq

/-- Settles O59: a number is delivered only where the test passes it, and from its delivery on the test rejects it. -/
theorem replayNeverRepeats : Obligations.ReplayNeverRepeats := by
  intro w sl hw
  refine ⟨replayPasses_iff sl w,
    fun p habove => ⟨_, InSlot.windowUpdated_of_above habove, InSlot.getLsbD_windowUpdated_of_above hw habove⟩,
    fun p hwithin => ⟨_, InSlot.windowUpdated_of_within hwithin, InSlot.getLsbD_windowUpdated_of_within hwithin⟩,
    fun _ _ _ numbers => ⟨nodup_deliveries hw sl numbers, fun _ => lower_le_of_mem_deliveries⟩⟩

end Sys2Proof.Machine
end

section
/-! SUPPORT. The inbound grant (R108 to R114): what recognition, parse and lookup answer, the examination of a frame
case by case, and the uncorrectable key store error on an inbound slot (R28). -/

namespace Sys2Proof.Machine

/-! ### Recognition, parse and lookup (R79, R80, R110) -/

section Recognition

variable {envelope : Nat} {f : Frame}

/-- An envelope type other than 0x8100 cannot be read as a tag, so the two places of the type exclude each other. -/
theorem recognise_eq_some_iff (htype : envelope ≠ 0x8100) (b : Bool) :
    recognise envelope f = some b ↔
      (b = false ∧ numAt f 12 2 = envelope) ∨ (b = true ∧ numAt f 12 2 = 0x8100 ∧ numAt f 16 2 = envelope) := by
  unfold recognise frameType innerType
  split
  next hplain => simp [hplain, htype]
  next hplain =>
    split
    next htagged => simp [htagged, htype.symm]
    next htagged => simp [hplain, htagged]

theorem recognise_eq_none (htype : envelope ≠ 0x8100)
    (h : ∀ b, ¬ ((b = false ∧ numAt f 12 2 = envelope) ∨
      (b = true ∧ numAt f 12 2 = 0x8100 ∧ numAt f 16 2 = envelope))) : recognise envelope f = none :=
  Option.eq_none_iff_forall_ne_some.2 fun b hb => h b ((recognise_eq_some_iff htype b).1 hb)

end Recognition

/-- The checks on an envelope header, any one of which fails (R80). -/
def headerBad (f : Frame) (tagClear : Bool) : Prop :=
  f.length < 92 ∨ byteAt f (clearBytes tagClear + 2) ≠ 1 ∨ 4 ≤ byteAt f (clearBytes tagClear + 3) ∨
    byteAt f (clearBytes tagClear + 3) / 2 % 2 ≠ (if tagClear then 1 else 0) ∨ numAt f (clearBytes tagClear + 6) 6 = 0

/-- What the header of a frame gives the lookup (R82); `parseHeader` answers it where no check fails. -/
def headerFields (f : Frame) (tagClear : Bool) : Parsed :=
  { streamId := numAt f (clearBytes tagClear + 4) 2
    phase := if byteAt f (clearBytes tagClear + 3) % 2 = 1 then 1 else 0
    fn := numAt f (clearBytes tagClear + 6) 6
    tagClear := tagClear }

theorem tagFlag_differs_iff (flags : Nat) (tagClear : Bool) :
    decide (flags / 2 % 2 = 1) ≠ tagClear ↔ flags / 2 % 2 ≠ (if tagClear then 1 else 0) := by
  cases tagClear
  · simp
  · simp

section Parse

variable {f : Frame} {tagClear : Bool}

theorem parseHeader_of_bad (h : headerBad f tagClear) : ∃ e, parseHeader f tagClear = .error e := by
  unfold parseHeader
  simp only [tagFlag_differs_iff]
  by_cases hshort : f.length < 92
  · exact ⟨_, if_pos hshort⟩
  by_cases hversion : byteAt f (clearBytes tagClear + 2) ≠ 1
  · exact ⟨_, (if_neg hshort).trans (if_pos hversion)⟩
  by_cases hflags : 4 ≤ byteAt f (clearBytes tagClear + 3)
  · exact ⟨_, (if_neg hshort).trans ((if_neg hversion).trans (if_pos hflags))⟩
  by_cases htag : byteAt f (clearBytes tagClear + 3) / 2 % 2 ≠ (if tagClear then 1 else 0)
  · exact ⟨_, (if_neg hshort).trans ((if_neg hversion).trans ((if_neg hflags).trans (if_pos htag)))⟩
  have hfn : numAt f (clearBytes tagClear + 6) 6 = 0 := by
    simpa only [headerBad, hshort, hversion, hflags, htag, false_or] using h
  exact ⟨_, (if_neg hshort).trans
    ((if_neg hversion).trans ((if_neg hflags).trans ((if_neg htag).trans (if_pos hfn))))⟩

theorem parseHeader_of_good (h : ¬ headerBad f tagClear) : parseHeader f tagClear = .ok (headerFields f tagClear) := by
  simp only [headerBad, not_or] at h
  obtain ⟨hshort, hversion, hflags, htag, hfn⟩ := h
  simp only [parseHeader, tagFlag_differs_iff, hshort, hversion, hflags, htag, hfn, if_false]
  rfl

end Parse

/-- An open in-stream of link `l` with stream id `id` (R110). -/
def State.hearsOn (s : State) (l : LinkNo) (id : Nat) (j : StreamNo) : Prop :=
  (s.inStream j).isOpen = true ∧ (s.inStream j).link = l ∧ (s.inStream j).streamId = id

section Lookup

variable {s : State} {l : LinkNo} {id : Nat}

theorem lookupStream_test_iff (j : StreamNo) :
    ((s.inStream j).isOpen && decide ((s.inStream j).link = l) && (s.inStream j).streamId == id) = true ↔
      s.hearsOn l id j := by
  simp [State.hearsOn, and_assoc]

theorem lookupStream_eq_some {i : StreamNo} (hi : s.hearsOn l id i) (hbelow : ∀ j < i, ¬ s.hearsOn l id j) :
    lookupStream s l id = some i :=
  find?_finRange_eq_some ((lookupStream_test_iff i).2 hi) fun j hj => mt (lookupStream_test_iff j).1 (hbelow j hj)

theorem lookupStream_eq_none (h : ∀ j, ¬ s.hearsOn l id j) : lookupStream s l id = none := by
  rw [lookupStream, List.find?_eq_none]
  exact fun j _ => mt (lookupStream_test_iff j).1 (h j)

end Lookup

theorem InSlotState.usable_iff (x : InSlotState) : x.usable = true ↔ x = .ready ∨ x = .active ∨ x = .grace := by
  cases x <;> decide

/-! ### The examination, case by case (R108) -/

section Examine

variable {l : LinkNo} {n : LaneNo} {read : KeyRead} {f : Frame} {s : State}

theorem examineIn_clear (h : recognise s.envelopeType f = none) :
    examineIn l n read f s =
      if (s.link l).settings.clearIn = .passClear then
        s.modLink l fun k => { k with inList := k.inList ++ [passItem .inn l f] }
      else countIn l (fun c => { c with clearDiscards := count48 c.clearDiscards 1 }) s := by
  rw [examineIn, h]

theorem examineIn_badHeader {b : Bool} (h : recognise s.envelopeType f = some b) (hbad : headerBad f b) :
    examineIn l n read f s = countIn l (fun c => { c with badHeader := count48 c.badHeader 1 }) s := by
  obtain ⟨e, he⟩ := parseHeader_of_bad hbad
  simp only [examineIn, h, he]

theorem examineIn_unknownStream {b : Bool} (h : recognise s.envelopeType f = some b) (hgood : ¬ headerBad f b)
    (hnone : ∀ j, ¬ s.hearsOn l (headerFields f b).streamId j) :
    examineIn l n read f s = countIn l (fun c => { c with unknownStream := count48 c.unknownStream 1 }) s := by
  simp only [examineIn, h, parseHeader_of_good hgood, lookupStream_eq_none hnone]

theorem examineIn_stream {b : Bool} {i : StreamNo} (h : recognise s.envelopeType f = some b) (hgood : ¬ headerBad f b)
    (hi : s.hearsOn l (headerFields f b).streamId i) (hbelow : ∀ j < i, ¬ s.hearsOn l (headerFields f b).streamId j) :
    examineIn l n read f s = examineStream l n read i (headerFields f b) f s := by
  simp only [examineIn, h, parseHeader_of_good hgood, lookupStream_eq_some hi hbelow]

variable {i : StreamNo} {p : Parsed}

theorem examineStream_noKey (h : ¬ (s.inSlot i p.phase).state.usable = true) :
    examineStream l n read i p f s = s.modIn i fun st => { st with noKeyDiscards := count48 st.noKeyDiscards 1 } :=
  if_pos h

theorem examineStream_uncorrectable (h : (s.inSlot i p.phase).state.usable = true) (hread : read = .uncorrectable) :
    examineStream l n read i p f s = inStoreError i p.phase s :=
  (if_neg (not_not_intro h)).trans (if_pos hread)

theorem examineStream_readable (h : (s.inSlot i p.phase).state.usable = true) (hread : read ≠ .uncorrectable) :
    examineStream l n read i p f s =
      if replayPasses (s.inSlot i p.phase) (s.inStream i).window p.fn then
        startVerify l n i p f (noteCorrection read s)
      else (noteCorrection read s).modIn i fun st => { st with replayDiscards := count48 st.replayDiscards 1 } :=
  (if_neg (not_not_intro h)).trans (if_neg hread)

end Examine

/-- An uncorrectable error on a usable inbound slot: the slot leaves service, and the discard, the record and the notice
are those of the state before (R28). -/
theorem inStoreError_eq (i : StreamNo) (k : SlotNo) (s : State) :
    inStoreError i k s =
      raise .keyStoreError .none
        { leaveInSlot i k (s.modInSlot i k fun sl => { sl with lastLoad := .storeError }) with
          storeDiscards := count48 s.storeDiscards 1
          storeError :=
            match s.storeError with
            | some e => some e
            | none => some (.inn, i, k) } := by
  unfold inStoreError noteStoreError
  obtain ⟨o, nt, h⟩ := leaveInSlot_touches i k (s.modInSlot i k fun sl => { sl with lastLoad := .storeError })
  rw [h]
  dsimp only [State.modInSlot_storeDiscards, State.modInSlot_storeError]
  cases s.storeError <;> rfl

/-- The VERIFY item of a frame long enough for tag and FCS, field by field (R82, R114). -/
theorem verifyItem_eq {f : Frame} (hlong : 20 ≤ f.length) (l : LinkNo) (n : LaneNo) (i : StreamNo) (p : Parsed) :
    verifyItem l n i p f =
      { dir := .inn, link := l
        body := .verify { stream := i, slot := p.phase, fn := p.fn, tagClear := p.tagClear }
          (f.take (clearBytes p.tagClear + 12)) ((f.take (f.length - 20)).drop (clearBytes p.tagClear + 12))
          (BitVec.ofNat 128 (numAt f (f.length - 20) 16)) none
        length := f.length, state := .onLane n } := by
  have htag : (frameBody f).drop (f.length - 20) = (f.drop (f.length - 20)).take 16 := by
    rw [frameBody, List.drop_take, show f.length - 4 - (f.length - 20) = 16 by omega]
  simp only [verifyItem, openTag, htag]
  rfl

/-- A VERIFY item starts under a slot that holds its secret (R114). -/
theorem startVerify_of_secret {l : LinkNo} {n : LaneNo} {i : StreamNo} {p : Parsed} {f : Frame} {s : State} {x : Secret}
    (hx : (s.inSlot i p.phase).secret = some x) :
    startVerify l n i p f s =
      ((s.setLane n (.verify l x (nonceOf x.salt p.fn))).modLink l fun k =>
        { k with inList := k.inList ++ [verifyItem l n i p f] }).modInSlot i p.phase fun sl =>
          { sl with inFlight := sl.inFlight + 1 } := by
  rw [startVerify, hx]
  rfl

/-! ### The grant (R95, R108) -/

theorem exec_inboundGrant_of_next {r : Fin 8} {n : LaneNo} {s : State} (read : KeyRead) (hreset : s.resetHeld = none)
    (hnext : nextGrant s = some (.traffic r, n)) (hr : 4 ≤ r.1) :
    exec (.inboundGrant read) s = .next (grantInbound (requesterLink r) n read (noteTrafficGrant r s)) := by
  show execInboundGrant read s = _
  simp only [execInboundGrant, unlessHeld_of_not_held hreset, hnext, Nat.not_lt.2 hr, if_false]

theorem grantInbound_of_head {l : LinkNo} {n : LaneNo} {f : Frame} {rest : List Frame} {s : State} (read : KeyRead)
    (hqueue : (s.link l).inQueue = f :: rest) :
    grantInbound l n read s =
      drainCheck l (examineIn l n read f { s with links := putAt s.links l { s.link l with inQueue := rest } }) := by
  rw [grantInbound, hqueue, State.modLink_eq, hqueue]
  rfl

/-- Settles O54: the grant is the examination of the head frame on `base`, which answers each of the seven steps by an
equation of its own. -/
theorem inboundGrants : Obligations.InboundGrants := by
  intro r n read f rest s hreset hnext hr hqueue htype l base settled grants counted enveloped
  have hgrants : ∀ x, examineIn l n read f base = x → grants x := by
    rintro x rfl
    have hgrant := grantInbound_of_head (l := l) (n := n) (s := noteTrafficGrant r s) read hqueue
    exact (exec_inboundGrant_of_next read hreset hnext hr).trans
      (congrArg Host.Outcome.next (hgrant.trans (drainCheck_eq l _)))
  have hsettings : (base.link l).settings = (s.link l).settings := by
    rw [show base.link l = { s.link l with inQueue := rest } from get_putAt_self _ _ _]
  refine ⟨fun hclear => ?clear, fun b hb => ?enveloped⟩
  case clear =>
    have hrec : recognise base.envelopeType f = none := recognise_eq_none htype hclear
    refine ⟨fun hpass => hgrants _ ((examineIn_clear hrec).trans (if_pos (hsettings ▸ hpass))),
      fun hdiscard => hgrants _ ((examineIn_clear hrec).trans (if_neg ?_))⟩
    rw [hsettings, hdiscard]
    decide
  case enveloped =>
    have hrec : recognise base.envelopeType f = some b := (recognise_eq_some_iff htype b).2 hb
    intro h flags p slot bad named corrected
    refine ⟨fun hbad => ?badHeader, fun hgood hnone => ?unknown, fun i hgood hi hbelow => ?stream⟩
    case badHeader => exact hgrants _ (examineIn_badHeader hrec hbad)
    case unknown => exact hgrants _ (examineIn_unknownStream hrec hgood hnone)
    case stream =>
      intro sl usable
      have hstream : ∀ x, examineStream l n read i (headerFields f b) f base = x → grants x := fun x hx =>
        hgrants x ((examineIn_stream hrec hgood hi hbelow).trans hx)
      have husable : usable ↔ sl.state.usable = true := (InSlotState.usable_iff sl.state).symm
      have hcorrected : noteCorrection read base = corrected := noteCorrection_eq read base
      refine ⟨fun hnot => ?noKey, fun huse hread => ?storeError, fun huse hread hreplay => ?replay,
        fun x huse hread hreplay hx => ?verify⟩
      case noKey => exact hstream _ (examineStream_noKey (mt husable.2 hnot))
      case storeError =>
        exact hstream _ ((examineStream_uncorrectable (husable.1 huse) hread).trans (inStoreError_eq i slot base))
      case replay =>
        rw [← hcorrected]
        exact hstream _ ((examineStream_readable (husable.1 huse) hread).trans (if_neg (Bool.eq_false_iff.1 hreplay)))
      case verify =>
        have hlong : 20 ≤ f.length := by
          have : ¬ f.length < 92 := fun hshort => hgood (.inl hshort)
          omega
        have hstart := startVerify_of_secret (l := l) (n := n) (f := f) (s := corrected) (p := headerFields f b) hx
        rw [verifyItem_eq hlong] at hstart
        refine hstream _ ?_
        rw [examineStream_readable (husable.1 huse) hread, hcorrected]
        exact (if_pos hreplay).trans hstart

end Sys2Proof.Machine
end

section
/-! SUPPORT. Millisecond and second events (R41, R122, R152): events that reach the streams one after the other, each
stream by a step of its own; what the grace timers and the SECONDS lifetimes make of a stream; and the ACTIVE slot
leaving service (R44). -/

namespace Sys2Proof.Machine

/-! ### Events that reach the objects one after the other -/

section Fold

variable {α β : Type} {f : State → α → State} {v : State → α → β}

/-- The reading `v` of an object after each object has been reached once, by a step that rewrites that object's reading
alone. -/
theorem foldl_reading [DecidableEq α] {g : β → β}
    (hf : ∀ (s : State) (a b : α), v (f s a) b = if b = a then g (v s a) else v s b) (s : State) {as : List α}
    (has : as.Nodup) (b : α) : v (as.foldl f s) b = if b ∈ as then g (v s b) else v s b := by
  induction as generalizing s with
  | nil => simp
  | cons a as ih =>
    obtain ⟨ha, has⟩ := List.nodup_cons.1 has
    rw [List.foldl_cons, ih _ has, hf]
    by_cases hb : b = a
    · subst hb
      simp [ha]
    · simp [hb]

/-- Each object raises what its step raises from its reading at the start. -/
theorem foldl_raisesExactly {r : α → β → NoticeKind → NoticeMember → Prop}
    (hv : ∀ (s : State) (a b : α), b ≠ a → v (f s a) b = v s b)
    (hr : ∀ (s : State) (a : α), s.raisesExactly (f s a) (r a (v s a))) (s : State) {as : List α} (has : as.Nodup) :
    s.raisesExactly (as.foldl f s) fun n m => ∃ a ∈ as, r a (v s a) n m := by
  induction as generalizing s with
  | nil => exact State.raisesExactly_of_notices rfl (by simp)
  | cons a as ih =>
    obtain ⟨ha, has⟩ := List.nodup_cons.1 has
    refine State.raisesExactly_congr (State.raisesExactly_trans (hr s a) (ih (f s a) has)) fun n m => ?_
    have hlater : (∃ b ∈ as, r b (v (f s a) b) n m) ↔ ∃ b ∈ as, r b (v s b) n m :=
      exists_congr fun b => and_congr_right fun hb => by rw [hv s a b (ne_of_mem_of_not_mem hb ha)]
    rw [hlater, List.exists_mem_cons_iff]

end Fold

/-! ### Grace timers (R122) -/

/-- A millisecond event at one inbound slot. -/
def InSlot.graceTicked (sl : InSlot) : InSlot :=
  if sl.state = .grace then if sl.grace ≤ 1 then sl.left else { sl with grace := sl.grace - 1 } else sl

/-- The millisecond event is the slot's last of grace. -/
def InSlot.graceEnds (sl : InSlot) : Prop := sl.state = .grace ∧ sl.grace ≤ 1

/-- A millisecond event at both slots of an inbound stream. -/
def InStream.graceTicked (st : InStream) : InStream := { st with slots := mapTable InSlot.graceTicked st.slots }

/-- Leaving service writes the streams that one slot update writes; the notice is beside them. -/
theorem leaveInSlot_inStream (i j : StreamNo) (k : SlotNo) (s : State) :
    (leaveInSlot i k s).inStream j = (s.modInSlot i k InSlot.left).inStream j := by
  unfold leaveInSlot
  dsimp only
  split
  · exact raise_inStream _ _ _ _
  · rfl

/-- Writing back what an inbound slot holds changes nothing. -/
theorem State.modInSlot_eq_self {i : StreamNo} {k : SlotNo} {f : InSlot → InSlot} {s : State}
    (h : f (s.inSlot i k) = s.inSlot i k) : s.modInSlot i k f = s := by
  have hslots : putAt (s.ins.get i).slots k (f ((s.ins.get i).slots.get k)) = (s.ins.get i).slots :=
    (congrArg _ h).trans (putAt_get _ k)
  rw [State.modInSlot, State.modIn, hslots, putAt_get]

theorem graceTick_inStream (i j : StreamNo) (k : SlotNo) (s : State) :
    (graceTick i k s).inStream j = (s.modInSlot i k InSlot.graceTicked).inStream j := by
  unfold graceTick
  dsimp only
  split
  next hgrace =>
    split
    next hends =>
      rw [leaveInSlot_inStream, State.modInSlot_congr (g := InSlot.graceTicked)]
      rw [InSlot.graceTicked, if_pos hgrace, if_pos hends]
    next hgoes =>
      rw [State.modInSlot_congr (g := InSlot.graceTicked)]
      rw [InSlot.graceTicked, if_pos hgrace, if_neg hgoes]
  next hother => rw [State.modInSlot_eq_self (f := InSlot.graceTicked) (if_neg hother)]

theorem graceTick_raisesExactly (i : StreamNo) (k : SlotNo) (s : State) :
    s.raisesExactly (graceTick i k s) fun n m =>
      n = .slotFreed ∧ m = .inStream i ∧ (s.inSlot i k).graceEnds ∧ (s.inSlot i k).inFlight = 0 := by
  unfold graceTick InSlot.graceEnds
  dsimp only
  split
  next hgrace =>
    split
    next hends =>
      exact State.raisesExactly_congr (leaveInSlot_raisesExactly i k s) (by simp [hgrace, hends])
    next hgoes => exact State.raisesExactly_of_notices rfl (by simp [hgoes])
  next hother => exact State.raisesExactly_of_notices rfl (by simp [hother])

/-- A millisecond event at both slots of in-stream `i`, slot 0 first. -/
def graceTicks (s : State) (i : StreamNo) : State := graceTick i 1 (graceTick i 0 s)

theorem milliEvent_eq_foldl (s : State) : milliEvent s = (List.finRange 64).foldl graceTicks s := rfl

theorem graceTicks_inStream (s : State) (i j : StreamNo) :
    (graceTicks s i).inStream j = if j = i then (s.inStream i).graceTicked else s.inStream j := by
  rw [graceTicks, graceTick_inStream, State.modInSlot, inStream_modIn, graceTick_inStream, State.modInSlot,
    inStream_modIn_self]
  split
  · refine congrArg (fun slots => { s.inStream i with slots := slots }) (table_ext fun k => ?_)
    fin_cases k <;> simp [get_putAt]
  next hj => rw [graceTick_inStream, State.modInSlot, inStream_modIn, if_neg hj]

theorem graceTicks_raisesExactly (s : State) (i : StreamNo) :
    s.raisesExactly (graceTicks s i) fun n m =>
      n = .slotFreed ∧ ∃ k, m = .inStream i ∧ ((s.inStream i).slots.get k).graceEnds ∧
        ((s.inStream i).slots.get k).inFlight = 0 := by
  have hslot : (graceTick i 0 s).inSlot i 1 = s.inSlot i 1 := by
    rw [State.inSlot, graceTick_inStream]
    exact (inSlot_modInSlot i i 0 1 _ s).trans (if_neg (by simp))
  have hboth := State.raisesExactly_trans (graceTick_raisesExactly i 0 s) (graceTick_raisesExactly i 1 _)
  rw [hslot] at hboth
  refine State.raisesExactly_congr hboth fun n m => ?_
  rw [Fin.exists_fin_two]
  simp only [State.inSlot]
  tauto

theorem milliEvent_inStream (s : State) (i : StreamNo) : (milliEvent s).inStream i = (s.inStream i).graceTicked := by
  rw [milliEvent_eq_foldl, foldl_reading (v := State.inStream) graceTicks_inStream s (List.nodup_finRange 64),
    if_pos (List.mem_finRange i)]

theorem milliEvent_raisesExactly (s : State) :
    s.raisesExactly (milliEvent s) fun n m =>
      n = .slotFreed ∧ ∃ j a, m = .inStream j ∧ (s.inSlot j a).state = .grace ∧ (s.inSlot j a).grace ≤ 1 ∧
        (s.inSlot j a).inFlight = 0 := by
  refine State.raisesExactly_congr
    (foldl_raisesExactly (v := State.inStream)
      (r := fun i st n m => n = .slotFreed ∧ ∃ k, m = .inStream i ∧ (st.slots.get k).graceEnds ∧
        (st.slots.get k).inFlight = 0)
      (fun s i j hj => (graceTicks_inStream s i j).trans (if_neg hj))
      graceTicks_raisesExactly s (List.nodup_finRange 64)) fun n m => ?_
  simp only [List.mem_finRange, true_and, State.inSlot, InSlot.graceEnds, and_assoc, exists_and_left]

/-! ### The ACTIVE slot leaves service (R44) -/

theorem leaveActive_outStream (i j : StreamNo) (a : SlotNo) (s : State) :
    (leaveActive i a s).outStream j = if j = i then (s.outStream i).leftActive a else s.outStream j := by
  unfold leaveActive OutStream.leftActive
  by_cases hready : (s.outSlot i (otherSlot a)).state = .ready
  · rw [if_pos hready, if_pos (show ((s.outStream i).slots.get (otherSlot a)).state = .ready from hready),
      switchStream_outStream]
  · rw [if_neg hready, if_neg (show ¬ ((s.outStream i).slots.get (otherSlot a)).state = .ready from hready),
      raise_outStream, outStream_modOut, leaveOutSlot_outStream, leaveOutSlot_outStream, State.modOutSlot,
      outStream_modOut_self, outStream_modOut]
    split <;> rfl

theorem leaveActive_raisesExactly (i : StreamNo) (a : SlotNo) (s : State) :
    s.raisesExactly (leaveActive i a s) fun n m =>
      m = .outStream i ∧
        ((n = .switched ∧ (s.outSlot i (otherSlot a)).state = .ready) ∨
          (n = .stalled ∧ (s.outSlot i (otherSlot a)).state ≠ .ready) ∨
            (n = .slotFreed ∧ (s.outSlot i a).inFlight = 0)) := by
  unfold leaveActive
  split
  next hready =>
    exact State.raisesExactly_congr (switchStream_raisesExactly i a s) fun n m => by simp [hready]
  next hready =>
    -- the stream's update after the leaving keeps the notice block
    have hboth := State.raisesExactly_trans (leaveOutSlot_raisesExactly i a s)
      (raise_raisesExactly .stalled (.outStream i) (leaveOutSlot i a s))
    refine State.raisesExactly_congr hboth fun n m => ?_
    simp only [hready]
    tauto

/-! ### SECONDS lifetimes (R41) -/

/-- The second event takes the accrued seconds to the warning, with the flag clear (R41 test 1). -/
def OutSlot.dueAtSecond (sl : OutSlot) : Bool := ({ sl with accrued := sl.accrued + 1 } : OutSlot).rekeyDueNow

theorem OutSlot.dueAtSecond_iff (sl : OutSlot) :
    sl.dueAtSecond = true ↔ sl.rekeyRaised = false ∧ sl.warning ≠ 0 ∧ sl.accrued + 1 = sl.warning := by
  simp [OutSlot.dueAtSecond, OutSlot.rekeyDueNow, and_assoc]

/-- An ACTIVE slot of kind SECONDS after a second event that does not end its service. -/
def OutSlot.second (sl : OutSlot) : OutSlot :=
  { sl with
    accrued := sl.accrued + 1
    rekeyRaised := sl.rekeyRaised || decide (sl.warning ≠ 0 ∧ sl.accrued + 1 = sl.warning) }

theorem OutSlot.second_of_due {sl : OutSlot} (h : sl.dueAtSecond = true) :
    sl.second = { sl with accrued := sl.accrued + 1, rekeyRaised := true } := by
  obtain ⟨-, hreached⟩ := sl.dueAtSecond_iff.1 h
  rw [OutSlot.second, decide_eq_true hreached, Bool.or_true]

theorem OutSlot.second_of_not_due {sl : OutSlot} (h : ¬ sl.dueAtSecond = true) :
    sl.second = { sl with accrued := sl.accrued + 1 } := by
  rw [OutSlot.dueAtSecond_iff] at h
  cases hraised : sl.rekeyRaised
  · have hreached : ¬ (sl.warning ≠ 0 ∧ sl.accrued + 1 = sl.warning) := fun hreached => h ⟨hraised, hreached⟩
    rw [OutSlot.second, decide_eq_false hreached, Bool.or_false, hraised]
  · rw [OutSlot.second, hraised, Bool.true_or, ← hraised]

/-- Two updates of one outbound slot are one update. -/
theorem State.modOutSlot_modOutSlot (i : StreamNo) (k : SlotNo) (f g : OutSlot → OutSlot) (s : State) :
    (s.modOutSlot i k f).modOutSlot i k g = s.modOutSlot i k fun sl => g (f sl) := by
  simp only [State.modOutSlot, State.modOut_modOut, get_putAt_self, putAt_putAt]

/-- An update of an outbound slot is what it makes of the slot as it is. -/
theorem State.modOutSlot_congr {i : StreamNo} {k : SlotNo} {f g : OutSlot → OutSlot} {s : State}
    (h : f (s.outSlot i k) = g (s.outSlot i k)) : s.modOutSlot i k f = s.modOutSlot i k g :=
  State.modOut_congr (congrArg
    (fun sl => { s.outStream i with slots := putAt (s.outStream i).slots k sl }) h)

/-- The second accrued at the ACTIVE slot, with REKEY_DUE where the warning is reached. -/
def accrueSecond (i : StreamNo) (a : SlotNo) (s : State) : State :=
  raiseIf (s.outSlot i a).dueAtSecond .rekeyDue (.outStream i) (s.modOutSlot i a OutSlot.second)

theorem accrueSecond_of_due {i : StreamNo} {a : SlotNo} {s : State} (h : (s.outSlot i a).dueAtSecond = true) :
    accrueSecond i a s =
      raise .rekeyDue (.outStream i)
        (s.modOutSlot i a fun sl => { sl with accrued := sl.accrued + 1, rekeyRaised := true }) := by
  rw [accrueSecond, h, raiseIf_true]
  exact congrArg _ (State.modOutSlot_congr (OutSlot.second_of_due h))

theorem accrueSecond_of_not_due {i : StreamNo} {a : SlotNo} {s : State} (h : ¬ (s.outSlot i a).dueAtSecond = true) :
    accrueSecond i a s = s.modOutSlot i a fun sl => { sl with accrued := sl.accrued + 1 } := by
  rw [accrueSecond, Bool.eq_false_iff.2 h, raiseIf_false]
  exact State.modOutSlot_congr (OutSlot.second_of_not_due h)

/-- A stream whose slot `a` has accrued a second. -/
def OutStream.accruedAt (a : SlotNo) (st : OutStream) : OutStream :=
  { st with slots := putAt st.slots a (st.slots.get a).second }

theorem accrueSecond_outStream (i j : StreamNo) (a : SlotNo) (s : State) :
    (accrueSecond i a s).outStream j = if j = i then (s.outStream i).accruedAt a else s.outStream j := by
  rw [State.outStream, accrueSecond, raiseIf_outs]
  exact outStream_modOut i j (OutStream.accruedAt a) s

theorem accrueSecond_slot (i : StreamNo) (a : SlotNo) (s : State) :
    (accrueSecond i a s).outSlot i a = (s.outSlot i a).second := by
  rw [State.outSlot, accrueSecond_outStream, if_pos rfl]
  exact get_putAt_self _ a _

theorem accrueSecond_otherSlot (i : StreamNo) (a : SlotNo) (s : State) :
    (accrueSecond i a s).outSlot i (otherSlot a) = s.outSlot i (otherSlot a) := by
  rw [State.outSlot, accrueSecond_outStream, if_pos rfl]
  exact get_putAt_ne _ _ (otherSlot_ne a)

theorem accrueSecond_raisesExactly (i : StreamNo) (a : SlotNo) (s : State) :
    s.raisesExactly (accrueSecond i a s) fun n m =>
      n = .rekeyDue ∧ m = .outStream i ∧ (s.outSlot i a).dueAtSecond = true := by
  unfold accrueSecond
  cases (s.outSlot i a).dueAtSecond
  · exact State.raisesExactly_of_notices rfl (by simp)
  · exact State.raisesExactly_congr (raise_raisesExactly _ _ (s.modOutSlot i a OutSlot.second)) (by simp)

/-- A second event at the ACTIVE slot: the second is accrued, and at its limit the slot leaves service (R41, R44). -/
theorem secondAtSlot_eq (i : StreamNo) (a : SlotNo) (s : State) :
    secondAtSlot i a s =
      if (s.outSlot i a).accrued + 1 = (s.outSlot i a).limit then leaveActive i a (accrueSecond i a s)
      else accrueSecond i a s := by
  have haccrued : (if (s.outSlot i a).dueAtSecond then
        raiseRekeyDue i a (s.modOutSlot i a fun sl => { sl with accrued := sl.accrued + 1 })
      else s.modOutSlot i a fun sl => { sl with accrued := sl.accrued + 1 }) = accrueSecond i a s := by
    split
    next hdue => rw [accrueSecond_of_due hdue, raiseRekeyDue, State.modOutSlot_modOutSlot]
    next hnot => rw [accrueSecond_of_not_due hnot]
  unfold secondAtSlot
  dsimp only
  rw [outSlot_modOutSlot_self, ← OutSlot.dueAtSecond, haccrued, accrueSecond_slot]
  rfl

/-! ### A second event at one stream (R41, R152) -/

/-- The stream is ACTIVE on slot `a`, which counts seconds. -/
def OutStream.countsSeconds (st : OutStream) (a : SlotNo) : Prop :=
  st.state = .active a ∧ (st.slots.get a).lifetimeKind = .seconds

/-- What a second event at the slot `a` that counts seconds makes of its stream. -/
def OutStream.secondAt (a : SlotNo) (st : OutStream) : OutStream :=
  if (st.slots.get a).accrued + 1 = (st.slots.get a).limit then (st.accruedAt a).leftActive a else st.accruedAt a

/-- What a second event makes of an outbound stream. -/
def OutStream.second (st : OutStream) : OutStream :=
  match st.state with
  | .active a => if (st.slots.get a).lifetimeKind = .seconds then st.secondAt a else st
  | _ => st

/-- The notices of a second event at a stream (R12, R41, R44). -/
def OutStream.secondRaises (i : StreamNo) (st : OutStream) (n : NoticeKind) (m : NoticeMember) : Prop :=
  ∃ a, m = .outStream i ∧ st.countsSeconds a ∧
    ((n = .rekeyDue ∧ (st.slots.get a).dueAtSecond = true) ∨
      ((st.slots.get a).accrued + 1 = (st.slots.get a).limit ∧
        ((n = .switched ∧ (st.slots.get (otherSlot a)).state = .ready) ∨
          (n = .stalled ∧ (st.slots.get (otherSlot a)).state ≠ .ready) ∨
            (n = .slotFreed ∧ (st.slots.get a).inFlight = 0))))

theorem OutStream.second_of_counts {st : OutStream} {a : SlotNo} (h : st.countsSeconds a) :
    st.second = st.secondAt a := by
  obtain ⟨hactive, hkind⟩ := h
  simp only [OutStream.second, hactive, hkind, if_true]

theorem OutStream.second_of_not_counts {st : OutStream} (h : ∀ a, ¬ st.countsSeconds a) : st.second = st := by
  unfold OutStream.second
  split
  next a hactive => exact if_neg fun hkind => h a ⟨hactive, hkind⟩
  next => rfl

theorem lifetimeTick_of_counts {i : StreamNo} {a : SlotNo} {s : State} (h : (s.outStream i).countsSeconds a) :
    lifetimeTick i s = secondAtSlot i a s := by
  obtain ⟨hactive, hkind⟩ := h
  rw [lifetimeTick, hactive]
  exact if_pos hkind

theorem lifetimeTick_of_not_counts {i : StreamNo} {s : State} (h : ∀ a, ¬ (s.outStream i).countsSeconds a) :
    lifetimeTick i s = s := by
  unfold lifetimeTick
  split
  next a hactive => exact if_neg fun hkind => h a ⟨hactive, hkind⟩
  next => rfl

theorem secondAtSlot_outStream (i j : StreamNo) (a : SlotNo) (s : State) :
    (secondAtSlot i a s).outStream j = if j = i then (s.outStream i).secondAt a else s.outStream j := by
  rw [secondAtSlot_eq, OutStream.secondAt, State.outSlot]
  split
  next =>
    rw [leaveActive_outStream, accrueSecond_outStream, accrueSecond_outStream, if_pos rfl]
    split <;> rfl
  next => exact accrueSecond_outStream i j a s

theorem secondAtSlot_raisesExactly (i : StreamNo) (a : SlotNo) (s : State) :
    s.raisesExactly (secondAtSlot i a s) fun n m =>
      m = .outStream i ∧
        ((n = .rekeyDue ∧ (s.outSlot i a).dueAtSecond = true) ∨
          ((s.outSlot i a).accrued + 1 = (s.outSlot i a).limit ∧
            ((n = .switched ∧ (s.outSlot i (otherSlot a)).state = .ready) ∨
              (n = .stalled ∧ (s.outSlot i (otherSlot a)).state ≠ .ready) ∨
                (n = .slotFreed ∧ (s.outSlot i a).inFlight = 0)))) := by
  have haccrue := accrueSecond_raisesExactly i a s
  rw [secondAtSlot_eq]
  split
  next hends =>
    have hboth := State.raisesExactly_trans haccrue (leaveActive_raisesExactly i a (accrueSecond i a s))
    rw [accrueSecond_slot, accrueSecond_otherSlot] at hboth
    refine State.raisesExactly_congr hboth fun n m => ?_
    simp only [hends, OutSlot.second]
    tauto
  next hgoes =>
    refine State.raisesExactly_congr haccrue fun n m => ?_
    simp only [hgoes]
    tauto

theorem lifetimeTick_outStream (s : State) (i j : StreamNo) :
    (lifetimeTick i s).outStream j = if j = i then (s.outStream i).second else s.outStream j := by
  by_cases hcounts : ∃ a, (s.outStream i).countsSeconds a
  · obtain ⟨a, ha⟩ := hcounts
    rw [lifetimeTick_of_counts ha, secondAtSlot_outStream, OutStream.second_of_counts ha]
  · rw [not_exists] at hcounts
    rw [lifetimeTick_of_not_counts hcounts, OutStream.second_of_not_counts hcounts]
    split
    next hj => rw [hj]
    next => rfl

theorem lifetimeTick_raisesExactly (s : State) (i : StreamNo) :
    s.raisesExactly (lifetimeTick i s) ((s.outStream i).secondRaises i) := by
  by_cases hcounts : ∃ a, (s.outStream i).countsSeconds a
  · obtain ⟨a, ha⟩ := hcounts
    have honly : ∀ b, (s.outStream i).countsSeconds b ↔ b = a := fun b =>
      ⟨fun hb => OutState.active.inj (hb.1.symm.trans ha.1), fun hb => hb ▸ ha⟩
    rw [lifetimeTick_of_counts ha]
    refine State.raisesExactly_congr (secondAtSlot_raisesExactly i a s) fun n m => ?_
    simp only [OutStream.secondRaises, honly, State.outSlot, exists_and_left, exists_eq_left]
  · rw [not_exists] at hcounts
    rw [lifetimeTick_of_not_counts hcounts]
    exact State.raisesExactly_of_notices rfl fun n m ⟨a, _, ha, _⟩ => hcounts a ha

theorem lifetimesEvent_outStream (s : State) (i : StreamNo) :
    (lifetimesEvent s).outStream i = (s.outStream i).second := by
  rw [lifetimesEvent, foldl_reading (v := State.outStream) lifetimeTick_outStream s (List.nodup_finRange 64),
    if_pos (List.mem_finRange i)]

theorem lifetimesEvent_raisesExactly (s : State) :
    s.raisesExactly (lifetimesEvent s) fun n m => ∃ i, (s.outStream i).secondRaises i n m := by
  refine State.raisesExactly_congr
    (foldl_raisesExactly (v := State.outStream) (r := fun i st => st.secondRaises i)
      (fun s i j hj => (lifetimeTick_outStream s i j).trans (if_neg hj))
      lifetimeTick_raisesExactly s (List.nodup_finRange 64)) fun n m => ?_
  simp only [List.mem_finRange, true_and]

/-! ### Expiries as events of their own -/

theorem exec_graceExpiry_of_ends {i : StreamNo} {k : SlotNo} {s : State} (hreset : s.resetHeld = none)
    (h : (s.inSlot i k).graceEnds) : exec (.graceExpiry i k) s = .next (leaveInSlot i k s) := by
  show execGraceExpiry i k s = _
  rw [execGraceExpiry, unlessHeld_of_not_held hreset]
  exact congrArg Host.Outcome.next (if_pos h)

theorem exec_lifetimeExpiry_of_ends {i : StreamNo} {a : SlotNo} {s : State} (hreset : s.resetHeld = none)
    (hcounts : (s.outStream i).countsSeconds a) (hends : (s.outSlot i a).accrued + 1 = (s.outSlot i a).limit) :
    exec (.lifetimeExpiry i) s = .next (leaveActive i a (accrueSecond i a s)) := by
  obtain ⟨hactive, hkind⟩ := hcounts
  show execLifetimeExpiry i s = _
  rw [execLifetimeExpiry, unlessHeld_of_not_held hreset, hactive]
  exact congrArg Host.Outcome.next ((if_pos ⟨hkind, hends⟩).trans ((secondAtSlot_eq i a s).trans (if_pos hends)))

/-- Settles O48: a millisecond event is `InSlot.graceTicked` at every inbound slot, a second event `OutStream.second` at
every outbound stream, and the notices are those of the steps. -/
theorem expiriesEndService : Obligations.ExpiriesEndService := by
  intro i k s hreset
  refine ⟨⟨?milliFrame, ?milliStream, milliEvent_raisesExactly s⟩, ?milliSlot,
    fun hgrace hlast => exec_graceExpiry_of_ends hreset ⟨hgrace, hlast.le⟩, ?lifetimeExpiry, rfl,
    ?secondFrame, fun hcounts hgoes => ?secondGoes, fun hcounts hends => ?secondEnds, fun hnone => ?secondOthers,
    ?secondNotices⟩
  case milliFrame =>
    obtain ⟨ins, notices, h⟩ := milliEvent_touches s
    rw [h]
  case milliStream =>
    rw [milliEvent_inStream]
    rfl
  case milliSlot =>
    rw [State.inSlot, milliEvent_inStream]
    exact get_mapTable InSlot.graceTicked _ k
  case lifetimeExpiry =>
    intro sl hactive hkind hends
    rw [exec_lifetimeExpiry_of_ends hreset ⟨hactive, hkind⟩ hends]
    refine ⟨fun hquiet => ?quiet, fun hclear hreached => ?due⟩
    case quiet =>
      have hnot : ¬ sl.dueAtSecond = true := by
        rw [OutSlot.dueAtSecond_iff, hends]
        rintro ⟨hclear, -, hreached⟩
        exact hquiet.elim (fun hraised => by simp [hclear] at hraised) fun hne => hne hreached.symm
      rw [accrueSecond_of_not_due hnot]
      exact congrArg (fun x => Host.Outcome.next (leaveActive i k x)) (State.modOutSlot_congr (by rw [hends]))
    case due =>
      have hdue : sl.dueAtSecond = true := sl.dueAtSecond_iff.2 ⟨hclear, by omega, hends.trans hreached.symm⟩
      rw [accrueSecond_of_due hdue]
      exact congrArg (fun x => Host.Outcome.next (leaveActive i k (raise .rekeyDue (.outStream i) x)))
        (State.modOutSlot_congr (by rw [hends]))
  case secondFrame =>
    obtain ⟨outs, notices, h⟩ := lifetimesEvent_touches s
    rw [h]
  case secondGoes =>
    rw [lifetimesEvent_outStream, OutStream.second_of_counts hcounts, State.modOutSlot, outStream_modOut_self]
    exact if_neg hgoes
  case secondEnds =>
    rw [lifetimesEvent_outStream, OutStream.second_of_counts hcounts, leaveActive_outStream, if_pos rfl,
      State.modOutSlot, outStream_modOut_self]
    exact if_pos hends
  case secondOthers => rw [lifetimesEvent_outStream, OutStream.second_of_not_counts hnone]
  case secondNotices =>
    refine State.raisesExactly_congr (lifetimesEvent_raisesExactly s) fun n m => ?_
    simp only [OutStream.secondRaises, OutSlot.dueAtSecond_iff]
    rfl

end Sys2Proof.Machine
end

section
/-! SUPPORT. The link requests that write settings and read a link (R129, R130, R140, R145 to R147): what the parameters
of LINK_SETUP and RAMP_SET spell, and the checks they pass. -/

namespace Sys2Proof.Machine

/-! ### Checks that a request passes, and fields behind others -/

/-- A request that passes its own checks comes to its answer (R183). -/
theorem checked_of_passes {checks : List (Bool × ReqRefusal)} (a : Answer) (h : firstFailing checks = none) :
    checked checks a = a := by
  rw [checked, h]

/-- A number is looked up behind the field before it. -/
theorem numAt_past_field (ys : List Byte) {m i : Nat} (v n : Nat) (h : m ≤ i) :
    numAt (bytesOfNat m v ++ ys) i n = numAt ys (i - m) n := by
  obtain ⟨j, rfl⟩ := Nat.exists_eq_add_of_le h
  simpa using numAt_skip (bytesOfNat m v) ys j n

/-! ### LINK_SETUP (R129, R130) -/

@[simp] theorem policyOf_encoded (p : ClearPolicy) : policyOf p.encoded = p := by cases p <;> rfl

theorem ClearPolicy.encoded_le (p : ClearPolicy) : p.encoded ≤ 1 := by cases p <;> decide

/-- The parameters of LINK_SETUP for a link and its settings; `linkSetupBytes_spell` reads them back. -/
def linkSetupBytes (l : LinkNo) (v : LinkSettings) : List Byte :=
  bytesOfNat 1 l.1 ++ bytesOfNat 1 v.defaultOut.encoded ++ bytesOfNat 1 v.clearIn.encoded ++ bytesOfNat 2 v.campusMax ++
    bytesOfNat 2 v.highMark ++ bytesOfNat 2 v.lowMark ++ bytesOfNat 3 v.rate ++ bytesOfNat 3 v.burst

/-- Each field of settings in their ranges stands behind those before it. -/
theorem linkSetupBytes_spell (l : LinkNo) {v : LinkSettings} (hv : v.inRange) :
    let ps := linkSetupBytes l v
    byteAt ps 0 = l.1 ∧ byteAt ps 1 = v.defaultOut.encoded ∧ byteAt ps 2 = v.clearIn.encoded ∧ settingsOf ps = v := by
  obtain ⟨-, hcampus, -, hhigh, hlow, -, hrate, -, hburst⟩ := hv
  have hout := v.defaultOut.encoded_le
  have hclear := v.clearIn.encoded_le
  have hlink := l.2
  simp (disch := omega) only [settingsOf, linkSetupBytes, byteAt_eq_numAt, List.append_assoc, numAt_past_field,
    numAt_front, numAt_whole, Nat.reduceSub, policyOf_encoded, and_self]

/-- The checks of R129 pass for settings in their ranges, of an OFF link none of whose stages is above the rate. -/
theorem linkSetupChecks_pass {l : LinkNo} {v : LinkSettings} {s : State} (hoff : (s.link l).state = .off)
    (hv : v.inRange) (hramp : ∀ st ∈ (s.link l).ramp, st.rate ≤ v.rate) :
    firstFailing (linkSetupChecks (linkSetupBytes l v) s) = none := by
  obtain ⟨hlink, hout, hclear, hsettings⟩ := linkSetupBytes_spell l hv
  have houtLe := v.defaultOut.encoded_le
  have hclearLe := v.clearIn.encoded_le
  obtain ⟨hcampus, hcampus', hhigh, hhigh', hlow, hrate, hrate', hburst, hburst'⟩ := hv
  simp only [firstFailing_eq_none_iff, linkSetupChecks, linkAt_of_byteAt hlink, hlink, hout, hclear, hsettings, hoff,
    List.forall_mem_cons, Bool.or_eq_false_iff, decide_eq_false_iff_not, List.any_eq_false, decide_eq_true_eq, not_le,
    not_lt, List.not_mem_nil, false_implies, implies_true, reduceCtorEq, not_false_eq_true, and_true]
  exact ⟨l.2, ⟨houtLe, hclearLe⟩, ⟨hcampus, hcampus'⟩, ⟨⟨by omega, hhigh'⟩, hlow⟩,
    ⟨⟨⟨by omega, hrate'⟩, hburst⟩, hburst'⟩, hramp⟩

theorem exec_linkSetup_of_inRange {l : LinkNo} {v : LinkSettings} {s : State} (hs : s.serves)
    (hoff : (s.link l).state = .off) (hv : v.inRange) (hramp : ∀ st ∈ (s.link l).ramp, st.rate ≤ v.rate) :
    exec (.linkSetup (linkSetupBytes l v)) s =
      .next (answersDone 0x20 (s.modLink l fun k => { k with settings := v, setUp := true })) := by
  obtain ⟨hlink, -, -, hsettings⟩ := linkSetupBytes_spell l hv
  have hjudge : reqLinkSetup.judge (linkSetupBytes l v) s =
      answerDone (s.modLink l fun k => { k with settings := v, setUp := true }) := by
    dsimp only [reqLinkSetup]
    rw [checked_of_passes _ (linkSetupChecks_pass hoff hv hramp), linkAt_of_byteAt hlink, hsettings]
  exact congrArg Host.Outcome.next (takeRequest_done hs (by simp [reqLinkSetup, linkSetupBytes]) hjudge)

/-! ### RAMP_SET (R145, R146) -/

/-- A stage as RAMP_SET carries it and READ_LINK shows it. -/
def Stage.bytes (st : Stage) : List Byte := bytesOfNat 3 st.rate ++ bytesOfNat 3 st.duration

@[simp] theorem Stage.length_bytes (st : Stage) : st.bytes.length = 6 := by simp [Stage.bytes]

/-- The parameters of RAMP_SET for a link and its stages; `stagesOf_rampSetBytes` reads the stages back. -/
def rampSetBytes (l : LinkNo) (stages : List Stage) : List Byte :=
  bytesOfNat 1 l.1 ++ bytesOfNat 1 stages.length ++ stages.flatMap Stage.bytes

theorem rampSetBytes_link (l : LinkNo) (stages : List Stage) : byteAt (rampSetBytes l stages) 0 = l.1 := by
  rw [rampSetBytes, List.append_assoc]
  exact byteAt_front _ _ (by omega)

theorem rampSetBytes_count (l : LinkNo) {stages : List Stage} (h : stages.length ≤ 16) :
    byteAt (rampSetBytes l stages) 1 = stages.length := by
  rw [rampSetBytes, List.append_assoc]
  exact byteAt_after _ _ 1 _ (by simp) (by omega)

/-- Stage `i` stands behind the link, the count and the stages before it. -/
theorem rampSetBytes_stage (l : LinkNo) (before after : List Stage) {st : Stage} (hrate : st.rate < 256 ^ 3)
    (hduration : st.duration < 256 ^ 3) :
    let ps := rampSetBytes l (before ++ st :: after)
    numAt ps (2 + 6 * before.length) 3 = st.rate ∧ numAt ps (5 + 6 * before.length) 3 = st.duration := by
  simp only [rampSetBytes, List.flatMap_append, List.flatMap_cons, Stage.bytes]
  constructor
  · simpa using numAt_after
      (bytesOfNat 1 l.1 ++ bytesOfNat 1 (before ++ st :: after).length ++ before.flatMap Stage.bytes)
      (bytesOfNat 3 st.duration ++ after.flatMap Stage.bytes) (2 + 6 * before.length) 3 st.rate (by simp; omega) hrate
  · simpa using numAt_after
      (bytesOfNat 1 l.1 ++ bytesOfNat 1 (before ++ st :: after).length ++ before.flatMap Stage.bytes ++
        bytesOfNat 3 st.rate)
      (after.flatMap Stage.bytes) (5 + 6 * before.length) 3 st.duration (by simp; omega) hduration

/-- The stages whose numbers fit their fields read back in their order. -/
theorem stagesOf_rampSetBytes (l : LinkNo) {stages : List Stage} (hlen : stages.length ≤ 16)
    (hfit : ∀ st ∈ stages, st.rate < 256 ^ 3 ∧ st.duration < 256 ^ 3) : stagesOf (rampSetBytes l stages) = stages := by
  rw [stagesOf, rampSetBytes_count l hlen]
  refine List.ext_getElem (by simp) fun i _ hi => ?_
  obtain ⟨hrate, hduration⟩ := hfit _ (List.getElem_mem hi)
  have hsplit : stages = stages.take i ++ stages[i] :: stages.drop (i + 1) := by simp
  obtain ⟨rate, duration⟩ := rampSetBytes_stage l (stages.take i) (stages.drop (i + 1)) hrate hduration
  rw [← hsplit, List.length_take_of_le hi.le] at rate duration
  rw [List.getElem_map, List.getElem_range, rate, duration]

/-- The checks of R145 pass for at most 16 stages in their ranges, of an OFF link that is set up. -/
theorem rampSetChecks_pass {l : LinkNo} {stages : List Stage} {s : State} (hoff : (s.link l).state = .off)
    (hsetUp : (s.link l).setUp = true) (hlen : stages.length ≤ 16)
    (hstages : stagesOf (rampSetBytes l stages) = stages)
    (hrange : ∀ st ∈ stages, st.inRange (s.link l).settings.rate) (hsum : (stages.map Stage.duration).sum ≤ 10000000) :
    firstFailing (rampSetChecks (rampSetBytes l stages) s) = none := by
  have hlink := rampSetBytes_link l stages
  have hstage : ∀ st ∈ stages, ∀ c ∈ stageChecks (s.link l).settings.rate st, c.1 = false := by
    intro st hst
    obtain ⟨hrate, hrate', hduration, hduration'⟩ := hrange st hst
    simp only [stageChecks, List.forall_mem_cons, Bool.or_eq_false_iff, decide_eq_false_iff_not, List.not_mem_nil,
      false_implies, implies_true, and_true]
    omega
  simp only [firstFailing_eq_none_iff, rampSetChecks, linkAt_of_byteAt hlink, hlink, rampSetBytes_count l hlen, hstages,
    hoff, hsetUp, List.forall_mem_append, List.forall_mem_cons, List.forall_mem_flatMap, List.not_mem_nil,
    false_implies, implies_true, decide_eq_false_iff_not, not_le, not_lt, reduceCtorEq, not_false_eq_true,
    Bool.not_true, and_true]
  exact ⟨⟨⟨l.2, hlen⟩, hstage⟩, hsum⟩

theorem exec_rampSet_of_inRange {l : LinkNo} {stages : List Stage} {s : State} (hs : s.serves)
    (hoff : (s.link l).state = .off) (hsetUp : (s.link l).setUp = true) (hlen : stages.length ≤ 16)
    (hrange : ∀ st ∈ stages, st.inRange (s.link l).settings.rate) (hsum : (stages.map Stage.duration).sum ≤ 10000000)
    (hcommitted : (s.link l).settings.rate ≤ 100000) :
    exec (.rampSet (rampSetBytes l stages)) s =
      .next (answersDone 0x21 (s.modLink l fun k => { k with ramp := stages })) := by
  have hstages : stagesOf (rampSetBytes l stages) = stages := stagesOf_rampSetBytes l hlen fun st hst => by
    obtain ⟨-, hrate, -, hduration⟩ := hrange st hst
    omega
  have hfits : reqRampSet.fits (rampSetBytes l stages) = true := by
    simp only [reqRampSet, rampFits, rampSetBytes_count l hlen]
    simp [rampSetBytes]
    omega
  have hjudge : reqRampSet.judge (rampSetBytes l stages) s =
      answerDone (s.modLink l fun k => { k with ramp := stages }) := by
    dsimp only [reqRampSet]
    rw [checked_of_passes _ (rampSetChecks_pass hoff hsetUp hlen hstages hrange hsum),
      linkAt_of_byteAt (rampSetBytes_link l stages), hstages]
  exact congrArg Host.Outcome.next (takeRequest_done hs hfits hjudge)

/-- Settles O23: the parameters read back, so the checks of R129 and R145 pass and the values sent are those written. -/
theorem linkSettingsAreWritten : Obligations.LinkSettingsAreWritten := by
  intro l s hs hoff
  refine ⟨fun out clear campus high low rate burst hcampus hcampus' hhigh hhigh' hlow hrate hrate' hburst hburst'
    hramp => ?setup, fun stages hlen hrange hsum hcommitted hsetUp => ?ramp⟩
  case setup =>
    exact exec_linkSetup_of_inRange (v := ⟨out, clear, campus, high, low, rate, burst⟩) hs hoff
      ⟨hcampus, hcampus', hhigh, hhigh', hlow, hrate, hrate', hburst, hburst'⟩ hramp
  case ramp => exact exec_rampSet_of_inRange hs hoff hsetUp hlen hrange hsum hcommitted

/-! ### READ_LINK and READ_LINK_CHANGES (R140, R147) -/

/-- READ_LINK answers the part it names (R147). -/
theorem exec_readLink_of_part {l : LinkNo} {part : Byte} {s : State} (hs : s.reads) (hpart : part.toNat ≤ 1) :
    exec (.readLink (bytesOfNat 1 l.1 ++ [part])) s =
      .next (answersData 0x24 (if part.toNat = 0 then linkData l (s.link l) else rampData l (s.link l)) s) := by
  have hlink : byteAt (bytesOfNat 1 l.1 ++ [part]) 0 = l.1 := byteAt_front _ _ (by omega)
  have hbyte : byteAt (bytesOfNat 1 l.1 ++ [part]) 1 = part.toNat := rfl
  have hjudge : reqReadLink.judge (bytesOfNat 1 l.1 ++ [part]) s =
      answerBytes (if part.toNat = 0 then linkData l (s.link l) else rampData l (s.link l)) s := by
    dsimp only [reqReadLink]
    rw [checked_cons_of_passes _ _ _ (by rw [hlink]; simp),
      checked_cons_of_passes _ _ _ (by rw [hbyte]; simpa using hpart), checked_nil, linkAt_of_byteAt hlink, hbyte]
  exact congrArg Host.Outcome.next (takeRequest_data hs (by decide) (by simp [reqReadLink]) hjudge)

/-- Settles O25: each reading request is answered with the data of its table, here written out field by field. -/
theorem linkReadsAnswer : Obligations.LinkReadsAnswer := by
  intro l s hs
  refine ⟨?link, ?ramp, ?changes⟩
  case link =>
    rw [exec_readLink_of_part hs (by decide)]
    simp only [linkData, LinkSettings.encoded, List.append_assoc]
    rfl
  case ramp => exact exec_readLink_of_part hs (by decide)
  case changes =>
    exact congrArg Host.Outcome.next
      (takeRequest_data (t := { s with linkChanges := [] }) hs (by decide) (by rfl) rfl)

end Sys2Proof.Machine
end

section
/-! SUPPORT. Links start, drain and stop (R86, R87, R102, R132 to R134): what the items that a stop NOW cancels take
from their lanes and slots, and the notices that come of it. -/

namespace Sys2Proof.Machine

/-! ### Notices that follow from the members raised -/

/-- Two sets with the same members are the same. -/
theorem set_ext_getLsbD {w : Nat} {x y : BitVec w} (h : ∀ i : Fin w, x.getLsbD i.1 = true ↔ y.getLsbD i.1 = true) :
    x = y :=
  BitVec.eq_of_getLsbD_eq fun i hi => Bool.eq_iff_iff.2 (h ⟨i, hi⟩)

/-- The raisings of a kind determine what becomes of it. -/
theorem Notice.raisedFor_unique {n a b : Notice} {r : NoticeMember → Prop} (ha : n.raisedFor a r)
    (hb : n.raisedFor b r) : a = b := by
  obtain ⟨enabled, attention, pending, outs, ins, triggers, links⟩ := ha
  obtain ⟨enabled', attention', pending', outs', ins', triggers', links'⟩ := hb
  obtain ⟨⟩ := a
  obtain ⟨⟩ := b
  simp only [Notice.mk.injEq]
  exact ⟨Bool.eq_iff_iff.2 (pending.trans pending'.symm), enabled.trans enabled'.symm, attention.trans attention'.symm,
    set_ext_getLsbD fun i => (outs i).trans (outs' i).symm, set_ext_getLsbD fun i => (ins i).trans (ins' i).symm,
    set_ext_getLsbD fun j => (triggers j).trans (triggers' j).symm,
    set_ext_getLsbD fun l => (links l).trans (links' l).symm⟩

/-- A kind raised for streams alone keeps its other sets. -/
theorem Notice.raisedFor.of_streams {a b : Notice} {r : NoticeMember → Prop} (h : a.raisedFor b r)
    (ht : ∀ j, ¬ r (.trigger j)) (hl : ∀ l, ¬ r (.link l)) :
    b = { a with pending := b.pending, outs := b.outs, ins := b.ins } := by
  obtain ⟨enabled, attention, -, -, -, triggers, links⟩ := h
  obtain ⟨⟩ := b
  simp only [Notice.mk.injEq, true_and]
  exact ⟨enabled, attention, set_ext_getLsbD fun j => (triggers j).trans (by simp [ht]),
    set_ext_getLsbD fun l => (links l).trans (by simp [hl])⟩

/-- A kind raised for one member. -/
theorem State.raisesExactly.get_of_one {s t : State} {r : NoticeKind → NoticeMember → Prop} (h : s.raisesExactly t r)
    {k : NoticeKind} {m : NoticeMember} (hr : ∀ x, r k x ↔ x = m) :
    t.notices.get k.number = (s.notices.get k.number).raised m := by
  have hone : r k = (· = m) := funext fun x => propext (hr x)
  exact Notice.raisedFor_unique (hone ▸ h k) (Notice.raised_raisedFor _ m)

/-- A kind raised for nothing. -/
theorem State.raisesExactly.get_of_none {s t : State} {r : NoticeKind → NoticeMember → Prop} (h : s.raisesExactly t r)
    {k : NoticeKind} (hr : ∀ x, ¬ r k x) : t.notices.get k.number = s.notices.get k.number :=
  Notice.raisedFor_unique (h k) (Notice.raisedFor_refl _ hr)

/-- Every number is a kind's (Table 10-5). -/
theorem NoticeKind.exists_number (m : Fin 15) : ∃ k : NoticeKind, k.number = m := by
  have hall : ∀ m : Fin 15, m ∈ [NoticeKind.keyReady, .loadFailed, .rekeyDue, .switched, .stalled, .slotFreed,
      .peerSwitched, .integrityAlert, .triggerFired, .triggerFault, .linkChange, .linkStopped, .keyStoreError,
      .lanesDegraded, .alarm].map NoticeKind.number := by decide
  obtain ⟨k, -, h⟩ := List.mem_map.1 (hall m)
  exact ⟨k, h⟩

/-! ### Items that leave a slot (R11, R14) -/

/-- How many of the items reference a slot. -/
def referencing (items : List Item) (d : Dir) (i : StreamNo) (k : SlotNo) : Nat :=
  (items.filter fun it => it.reference == some (d, i, k)).length

theorem referencing_cons (it : Item) (items : List Item) (d : Dir) (i : StreamNo) (k : SlotNo) :
    referencing (it :: items) d i k = referencing [it] d i k + referencing items d i k := by
  rw [referencing, ← List.singleton_append, List.filter_append, List.length_append]
  rfl

theorem referencing_singleton (it : Item) (d : Dir) (i : StreamNo) (k : SlotNo) :
    referencing [it] d i k = if it.reference = some (d, i, k) then 1 else 0 := by
  by_cases h : it.reference = some (d, i, k) <;> simp [referencing, h]

/-- Where `a` items have not emptied a slot with `c` in flight, `b` more do so by what is left of `c`. -/
theorem freed_after_others {draining : Prop} {c a b : Nat} (h : ¬ (draining ∧ 0 < a ∧ c ≤ a)) :
    (draining ∧ 0 < a + b ∧ c ≤ a + b) ↔ (draining ∧ 0 < b ∧ c - a ≤ b) := by
  refine and_congr_right fun hdraining => ?_
  have : ¬ (0 < a ∧ c ≤ a) := fun hlast => h ⟨hdraining, hlast⟩
  omega

/-! ### Outbound slots that items leave -/

/-- Of `n` items that leave the slot, one is the last of its DRAINING (R14). -/
abbrev OutSlot.freedBy (n : Nat) (sl : OutSlot) : Prop := sl.state = .draining ∧ 0 < n ∧ sl.inFlight ≤ n

/-- An outbound slot that `n` items have left. -/
def OutSlot.itemsLeft (n : Nat) (sl : OutSlot) : OutSlot :=
  if sl.freedBy n then sl.emptied else { sl with inFlight := sl.inFlight - n }

theorem OutSlot.itemsLeft_of_freed {n : Nat} {sl : OutSlot} (h : sl.freedBy n) :
    sl.itemsLeft n = OutSlot.empty sl.lastLoad := if_pos h

theorem OutSlot.itemsLeft_of_not_freed {n : Nat} {sl : OutSlot} (h : ¬ sl.freedBy n) :
    sl.itemsLeft n = { sl with inFlight := sl.inFlight - n } := if_neg h

@[simp] theorem OutSlot.itemsLeft_zero (sl : OutSlot) : sl.itemsLeft 0 = sl :=
  OutSlot.itemsLeft_of_not_freed fun ⟨_, h, _⟩ => h.false

/-- A slot that some of the items have emptied is not DRAINING for the others. -/
theorem OutSlot.freedBy_add (sl : OutSlot) (a b : Nat) :
    sl.freedBy (a + b) ↔ sl.freedBy a ∨ (sl.itemsLeft a).freedBy b := by
  by_cases h : sl.freedBy a
  · exact iff_of_true ⟨h.1, by omega, by omega⟩ (.inl h)
  · rw [OutSlot.itemsLeft_of_not_freed h, or_iff_right h]
    exact freed_after_others h

theorem OutSlot.itemsLeft_add (sl : OutSlot) (a b : Nat) : sl.itemsLeft (a + b) = (sl.itemsLeft a).itemsLeft b := by
  by_cases h : sl.freedBy a
  · rw [OutSlot.itemsLeft_of_freed ((sl.freedBy_add a b).2 (.inl h)), OutSlot.itemsLeft_of_freed h,
      OutSlot.itemsLeft_of_not_freed (by rintro ⟨h, -⟩; cases h)]
    simp [OutSlot.empty]
  · rw [OutSlot.itemsLeft_of_not_freed h]
    exact if_congr (freed_after_others h) rfl (by rw [Nat.sub_sub])

/-- What one item takes from its slot (R11, R14); the notice is beside the streams. -/
theorem outItemLeft_outStream (i j : StreamNo) (k : SlotNo) (s : State) :
    (outItemLeft i k s).outStream j = (s.modOutSlot i k (OutSlot.itemsLeft 1)).outStream j := by
  unfold outItemLeft
  dsimp only
  split
  next h =>
    rw [raise_outStream, State.modOutSlot_congr (g := OutSlot.itemsLeft 1)]
    exact (OutSlot.itemsLeft_of_freed ⟨h.1, one_pos, h.2⟩).symm
  next h =>
    rw [State.modOutSlot_congr (g := OutSlot.itemsLeft 1)]
    exact (OutSlot.itemsLeft_of_not_freed fun ⟨hd, _, hl⟩ => h ⟨hd, hl⟩).symm

theorem outItemLeft_outSlot (i j : StreamNo) (k m : SlotNo) (s : State) :
    (outItemLeft i k s).outSlot j m = if j = i ∧ m = k then (s.outSlot i k).itemsLeft 1 else s.outSlot j m := by
  rw [State.outSlot, outItemLeft_outStream]
  exact outSlot_modOutSlot i j k m _ s

theorem outItemLeft_raisesExactly (i : StreamNo) (k : SlotNo) (s : State) :
    s.raisesExactly (outItemLeft i k s) fun n m => n = .slotFreed ∧ m = .outStream i ∧ (s.outSlot i k).freedBy 1 := by
  unfold outItemLeft
  dsimp only
  split
  next h =>
    have hfreed : (s.outSlot i k).freedBy 1 := ⟨h.1, one_pos, h.2⟩
    exact State.raisesExactly_congr (raise_raisesExactly _ _ (s.modOutSlot i k OutSlot.emptied))
      fun _ _ => ⟨fun ⟨hn, hm⟩ => ⟨hn, hm, hfreed⟩, fun ⟨hn, hm, _⟩ => ⟨hn, hm⟩⟩
  next h => exact State.raisesExactly_of_notices rfl fun _ _ ⟨_, _, hd, _, hl⟩ => h ⟨hd, hl⟩

/-! ### Inbound slots that items leave -/

/-- Of `n` items that leave the slot, one is the last of its DRAINING (R14). -/
abbrev InSlot.freedBy (n : Nat) (sl : InSlot) : Prop := sl.state = .draining ∧ 0 < n ∧ sl.inFlight ≤ n

/-- An inbound slot that `n` items have left. -/
def InSlot.itemsLeft (n : Nat) (sl : InSlot) : InSlot :=
  if sl.freedBy n then sl.emptied else { sl with inFlight := sl.inFlight - n }

theorem InSlot.itemsLeft_of_freed {n : Nat} {sl : InSlot} (h : sl.freedBy n) :
    sl.itemsLeft n = InSlot.empty sl.lastLoad := if_pos h

theorem InSlot.itemsLeft_of_not_freed {n : Nat} {sl : InSlot} (h : ¬ sl.freedBy n) :
    sl.itemsLeft n = { sl with inFlight := sl.inFlight - n } := if_neg h

@[simp] theorem InSlot.itemsLeft_zero (sl : InSlot) : sl.itemsLeft 0 = sl :=
  InSlot.itemsLeft_of_not_freed fun ⟨_, h, _⟩ => h.false

/-- A slot that some of the items have emptied is not DRAINING for the others. -/
theorem InSlot.freedBy_add (sl : InSlot) (a b : Nat) :
    sl.freedBy (a + b) ↔ sl.freedBy a ∨ (sl.itemsLeft a).freedBy b := by
  by_cases h : sl.freedBy a
  · exact iff_of_true ⟨h.1, by omega, by omega⟩ (.inl h)
  · rw [InSlot.itemsLeft_of_not_freed h, or_iff_right h]
    exact freed_after_others h

theorem InSlot.itemsLeft_add (sl : InSlot) (a b : Nat) : sl.itemsLeft (a + b) = (sl.itemsLeft a).itemsLeft b := by
  by_cases h : sl.freedBy a
  · rw [InSlot.itemsLeft_of_freed ((sl.freedBy_add a b).2 (.inl h)), InSlot.itemsLeft_of_freed h,
      InSlot.itemsLeft_of_not_freed (by rintro ⟨h, -⟩; cases h)]
    simp [InSlot.empty]
  · rw [InSlot.itemsLeft_of_not_freed h]
    exact if_congr (freed_after_others h) rfl (by rw [Nat.sub_sub])

/-- What one item takes from its slot (R11, R14); the notice is beside the streams. -/
theorem inItemLeft_inStream (i j : StreamNo) (k : SlotNo) (s : State) :
    (inItemLeft i k s).inStream j = (s.modInSlot i k (InSlot.itemsLeft 1)).inStream j := by
  unfold inItemLeft
  dsimp only
  split
  next h =>
    rw [raise_inStream, State.modInSlot_congr (g := InSlot.itemsLeft 1)]
    exact (InSlot.itemsLeft_of_freed ⟨h.1, one_pos, h.2⟩).symm
  next h =>
    rw [State.modInSlot_congr (g := InSlot.itemsLeft 1)]
    exact (InSlot.itemsLeft_of_not_freed fun ⟨hd, _, hl⟩ => h ⟨hd, hl⟩).symm

theorem inItemLeft_inSlot (i j : StreamNo) (k m : SlotNo) (s : State) :
    (inItemLeft i k s).inSlot j m = if j = i ∧ m = k then (s.inSlot i k).itemsLeft 1 else s.inSlot j m := by
  rw [State.inSlot, inItemLeft_inStream]
  exact inSlot_modInSlot i j k m _ s

theorem inItemLeft_raisesExactly (i : StreamNo) (k : SlotNo) (s : State) :
    s.raisesExactly (inItemLeft i k s) fun n m => n = .slotFreed ∧ m = .inStream i ∧ (s.inSlot i k).freedBy 1 := by
  unfold inItemLeft
  dsimp only
  split
  next h =>
    have hfreed : (s.inSlot i k).freedBy 1 := ⟨h.1, one_pos, h.2⟩
    exact State.raisesExactly_congr (raise_raisesExactly _ _ (s.modInSlot i k InSlot.emptied))
      fun _ _ => ⟨fun ⟨hn, hm⟩ => ⟨hn, hm, hfreed⟩, fun ⟨hn, hm, _⟩ => ⟨hn, hm⟩⟩
  next h => exact State.raisesExactly_of_notices rfl fun _ _ ⟨_, _, hd, _, hl⟩ => h ⟨hd, hl⟩

/-! ### Items that leave their slots (R11, R14) -/

/-- An item that leaves its list leaves the slot it references, if it references one (R11). -/
theorem itemLeft_cases (it : Item) (s : State) :
    (it.reference = none ∧ itemLeft it s = s) ∨
      (∃ i k, it.reference = some (.out, i, k) ∧ itemLeft it s = outItemLeft i k s) ∨
        ∃ i k, it.reference = some (.inn, i, k) ∧ itemLeft it s = inItemLeft i k s := by
  unfold Item.reference itemLeft
  cases it.body with
  | pass f => exact .inl ⟨rfl, rfl⟩
  | protect ref aad payload tag => exact .inr (.inl ⟨_, _, rfl, rfl⟩)
  | verify ref aad cipher tag result => exact .inr (.inr ⟨_, _, rfl, rfl⟩)

theorem itemLeft_outSlot (it : Item) (s : State) (i : StreamNo) (k : SlotNo) :
    (itemLeft it s).outSlot i k = (s.outSlot i k).itemsLeft (referencing [it] .out i k) := by
  rw [referencing_singleton]
  obtain ⟨href, h⟩ | ⟨j, m, href, h⟩ | ⟨j, m, href, h⟩ := itemLeft_cases it s
  · rw [h, href, if_neg nofun, OutSlot.itemsLeft_zero]
  · rw [h, href, outItemLeft_outSlot]
    by_cases hslot : i = j ∧ k = m
    · obtain ⟨rfl, rfl⟩ := hslot; simp
    · rw [if_neg hslot, if_neg (by simpa [eq_comm] using hslot), OutSlot.itemsLeft_zero]
  · obtain ⟨ins, notices, htouches⟩ := inItemLeft_touches j m s
    rw [h, htouches, href, if_neg nofun, OutSlot.itemsLeft_zero]; rfl

theorem itemLeft_inSlot (it : Item) (s : State) (i : StreamNo) (k : SlotNo) :
    (itemLeft it s).inSlot i k = (s.inSlot i k).itemsLeft (referencing [it] .inn i k) := by
  rw [referencing_singleton]
  obtain ⟨href, h⟩ | ⟨j, m, href, h⟩ | ⟨j, m, href, h⟩ := itemLeft_cases it s
  · rw [h, href, if_neg nofun, InSlot.itemsLeft_zero]
  · obtain ⟨outs, notices, htouches⟩ := outItemLeft_touches j m s
    rw [h, htouches, href, if_neg nofun, InSlot.itemsLeft_zero]; rfl
  · rw [h, href, inItemLeft_inSlot]
    by_cases hslot : i = j ∧ k = m
    · obtain ⟨rfl, rfl⟩ := hslot; simp
    · rw [if_neg hslot, if_neg (by simpa [eq_comm] using hslot), InSlot.itemsLeft_zero]

/-- SLOT_FREED for each slot that the items empty on leaving (R12, R14). -/
def State.freeing (s : State) (items : List Item) (n : NoticeKind) (m : NoticeMember) : Prop :=
  n = .slotFreed ∧
    ((∃ i k, m = .outStream i ∧ (s.outSlot i k).freedBy (referencing items .out i k)) ∨
      ∃ i k, m = .inStream i ∧ (s.inSlot i k).freedBy (referencing items .inn i k))

theorem State.freeing_outStream (s : State) (items : List Item) (i : StreamNo) :
    s.freeing items .slotFreed (.outStream i) ↔ ∃ k, (s.outSlot i k).freedBy (referencing items .out i k) := by
  simp [State.freeing]

theorem State.freeing_inStream (s : State) (items : List Item) (i : StreamNo) :
    s.freeing items .slotFreed (.inStream i) ↔ ∃ k, (s.inSlot i k).freedBy (referencing items .inn i k) := by
  simp [State.freeing]

/-- Only slots are freed, so every other kind and member is left out. -/
theorem State.exists_freeing_iff (s : State) (items : List Item) :
    (∃ m, s.freeing items .slotFreed m) ↔
      ∃ i k, (s.outSlot i k).freedBy (referencing items .out i k) ∨
        (s.inSlot i k).freedBy (referencing items .inn i k) := by
  constructor
  · rintro ⟨m, -, ⟨i, k, -, h⟩ | ⟨i, k, -, h⟩⟩
    · exact ⟨i, k, .inl h⟩
    · exact ⟨i, k, .inr h⟩
  · rintro ⟨i, k, h | h⟩
    · exact ⟨.outStream i, rfl, .inl ⟨i, k, rfl, h⟩⟩
    · exact ⟨.inStream i, rfl, .inr ⟨i, k, rfl, h⟩⟩

theorem freed_by_one_iff {draining : Prop} {c : Nat} (it : Item) (d : Dir) (i : StreamNo) (k : SlotNo) :
    (draining ∧ 0 < referencing [it] d i k ∧ c ≤ referencing [it] d i k) ↔
      it.reference = some (d, i, k) ∧ draining ∧ 0 < 1 ∧ c ≤ 1 := by
  rw [referencing_singleton]
  split
  next h => exact (and_iff_right h).symm
  next h => exact iff_of_false (fun ⟨_, hpos, _⟩ => hpos.false) fun ⟨href, _⟩ => h href

theorem itemLeft_raisesExactly (it : Item) (s : State) : s.raisesExactly (itemLeft it s) (s.freeing [it]) := by
  unfold State.freeing
  simp only [OutSlot.freedBy, InSlot.freedBy, freed_by_one_iff]
  obtain ⟨href, h⟩ | ⟨i, k, href, h⟩ | ⟨i, k, href, h⟩ := itemLeft_cases it s
  · rw [h, href]
    exact State.raisesExactly_of_notices rfl (by simp)
  · rw [h, href]
    exact State.raisesExactly_congr (outItemLeft_raisesExactly i k s) (by simp)
  · rw [h, href]
    exact State.raisesExactly_congr (inItemLeft_raisesExactly i k s) (by simp)

/-- An item that leaves takes from the slots of its stream alone. -/
theorem itemLeft_streams (it : Item) (s : State) (i : StreamNo) :
    (∃ slots, (itemLeft it s).outStream i = { s.outStream i with slots := slots }) ∧
      ∃ slots, (itemLeft it s).inStream i = { s.inStream i with slots := slots } := by
  obtain ⟨-, h⟩ | ⟨j, k, -, h⟩ | ⟨j, k, -, h⟩ := itemLeft_cases it s
  · exact ⟨⟨_, by rw [h]⟩, _, by rw [h]⟩
  · obtain ⟨outs, notices, htouches⟩ := outItemLeft_touches j k s
    refine ⟨?_, _, by rw [h, htouches]; rfl⟩
    rw [h, outItemLeft_outStream, State.modOutSlot, outStream_modOut]
    split
    next hi => subst hi; exact ⟨_, rfl⟩
    next => exact ⟨_, rfl⟩
  · obtain ⟨ins, notices, htouches⟩ := inItemLeft_touches j k s
    refine ⟨⟨_, by rw [h, htouches]; rfl⟩, ?_⟩
    rw [h, inItemLeft_inStream, State.modInSlot, inStream_modIn]
    split
    next hi => subst hi; exact ⟨_, rfl⟩
    next => exact ⟨_, rfl⟩

/-! ### Items cancelled (R102) -/

/-- The lane of an item's own is freed; nothing else. -/
theorem freeItemLane_touches (it : Item) (s : State) : ∃ ls, freeItemLane it s = { s with lanes := ls } := by
  unfold freeItemLane
  split
  · exact ⟨_, rfl⟩
  · exact ⟨s.lanes, rfl⟩

theorem freeItemLane_lane (it : Item) (s : State) (n : LaneNo) :
    (freeItemLane it s).lanes.get n = if it.state = .onLane n then .free else s.lanes.get n := by
  unfold freeItemLane
  cases it.state with
  | done => rfl
  | onLane m => simp [get_putAt, eq_comm]

theorem cancelItem_lane (it : Item) (s : State) (n : LaneNo) :
    (cancelItem it s).lanes.get n = if it.state = .onLane n then .free else s.lanes.get n := by
  obtain ⟨outs, ins, notices, h⟩ := itemLeft_touches it (freeItemLane it s)
  rw [cancelItem, h]
  exact freeItemLane_lane it s n

/-- The lane an item frees is no part of what it takes from streams, slots and notices. -/
theorem cancelItem_eq_itemLeft (it : Item) (s : State) :
    ∃ ls, cancelItem it s = itemLeft it { s with lanes := ls } := by
  obtain ⟨ls, h⟩ := freeItemLane_touches it s
  exact ⟨ls, by rw [cancelItem, h]⟩

theorem cancelItem_outSlot (it : Item) (s : State) (i : StreamNo) (k : SlotNo) :
    (cancelItem it s).outSlot i k = (s.outSlot i k).itemsLeft (referencing [it] .out i k) := by
  obtain ⟨ls, h⟩ := cancelItem_eq_itemLeft it s
  rw [h]
  exact itemLeft_outSlot it _ i k

theorem cancelItem_inSlot (it : Item) (s : State) (i : StreamNo) (k : SlotNo) :
    (cancelItem it s).inSlot i k = (s.inSlot i k).itemsLeft (referencing [it] .inn i k) := by
  obtain ⟨ls, h⟩ := cancelItem_eq_itemLeft it s
  rw [h]
  exact itemLeft_inSlot it _ i k

theorem cancelItem_streams (it : Item) (s : State) (i : StreamNo) :
    (∃ slots, (cancelItem it s).outStream i = { s.outStream i with slots := slots }) ∧
      ∃ slots, (cancelItem it s).inStream i = { s.inStream i with slots := slots } := by
  obtain ⟨ls, h⟩ := cancelItem_eq_itemLeft it s
  rw [h]
  exact itemLeft_streams it _ i

theorem cancelItem_raisesExactly (it : Item) (s : State) : s.raisesExactly (cancelItem it s) (s.freeing [it]) := by
  obtain ⟨ls, h⟩ := cancelItem_eq_itemLeft it s
  rw [h]
  exact itemLeft_raisesExactly it { s with lanes := ls }

/-! ### All items of a link cancelled -/

/-- Items cancelled one after the other. -/
def cancelItems (items : List Item) (s : State) : State := items.foldl (fun s it => cancelItem it s) s

theorem cancelItems_cons (it : Item) (items : List Item) (s : State) :
    cancelItems (it :: items) s = cancelItems items (cancelItem it s) := rfl

theorem cancelItems_lane (items : List Item) (s : State) (n : LaneNo) :
    (cancelItems items s).lanes.get n = if ∃ it ∈ items, it.state = .onLane n then .free else s.lanes.get n := by
  induction items generalizing s with
  | nil => simp [cancelItems]
  | cons it items ih =>
    rw [cancelItems_cons, ih, cancelItem_lane]
    by_cases hit : it.state = .onLane n <;> simp [hit]

theorem cancelItems_outSlot (items : List Item) (s : State) (i : StreamNo) (k : SlotNo) :
    (cancelItems items s).outSlot i k = (s.outSlot i k).itemsLeft (referencing items .out i k) := by
  induction items generalizing s with
  | nil => exact (OutSlot.itemsLeft_zero _).symm
  | cons it items ih => rw [cancelItems_cons, ih, cancelItem_outSlot, referencing_cons it items, OutSlot.itemsLeft_add]

theorem cancelItems_inSlot (items : List Item) (s : State) (i : StreamNo) (k : SlotNo) :
    (cancelItems items s).inSlot i k = (s.inSlot i k).itemsLeft (referencing items .inn i k) := by
  induction items generalizing s with
  | nil => exact (InSlot.itemsLeft_zero _).symm
  | cons it items ih => rw [cancelItems_cons, ih, cancelItem_inSlot, referencing_cons it items, InSlot.itemsLeft_add]

theorem cancelItems_streams (items : List Item) (s : State) (i : StreamNo) :
    (∃ slots, (cancelItems items s).outStream i = { s.outStream i with slots := slots }) ∧
      ∃ slots, (cancelItems items s).inStream i = { s.inStream i with slots := slots } := by
  induction items generalizing s with
  | nil => exact ⟨⟨_, rfl⟩, _, rfl⟩
  | cons it items ih =>
    obtain ⟨⟨outs, hout⟩, ins, hin⟩ := cancelItem_streams it s i
    rw [cancelItems_cons]
    have hrest := ih (cancelItem it s)
    rwa [hout, hin] at hrest

/-- What later items free is what they free of the slots as the first one leaves them. -/
theorem State.freeing_cons (s : State) (it : Item) (items : List Item) (n : NoticeKind) (m : NoticeMember) :
    s.freeing (it :: items) n m ↔ s.freeing [it] n m ∨ (cancelItem it s).freeing items n m := by
  unfold State.freeing
  simp only [cancelItem_outSlot, cancelItem_inSlot, referencing_cons it items, OutSlot.freedBy_add, InSlot.freedBy_add,
    and_or_left, exists_or]
  exact or_or_or_comm

theorem cancelItems_raisesExactly (items : List Item) (s : State) :
    s.raisesExactly (cancelItems items s) (s.freeing items) := by
  induction items generalizing s with
  | nil =>
    refine State.raisesExactly_of_notices rfl ?_
    rintro k m ⟨-, ⟨_, _, -, -, hpos, -⟩ | ⟨_, _, -, -, hpos, -⟩⟩ <;> exact hpos.false
  | cons it items ih =>
    rw [cancelItems_cons]
    exact State.raisesExactly_congr (State.raisesExactly_trans (cancelItem_raisesExactly it s) (ih (cancelItem it s)))
      fun n m => (s.freeing_cons it items n m).symm

/-! ### A stop NOW (R102, R133) -/

/-- A link that a stop NOW has taken to OFF. -/
def Link.stoppedNow (cause : StopCause) (k : Link) : Link :=
  { k with
    state := .off, stopCause := cause, pacer := Pacer.idle, outQueue := [], inQueue := [], outList := [], inList := []
    pauseAsserted := false, pauseOwed := (k.pauseOwed || k.pauseAsserted)
    outCount := { k.outCount with stop := count48 k.outCount.stop (k.outQueue.length + k.outList.length) }
    inCount := { k.inCount with stop := count48 k.inCount.stop (k.inQueue.length + k.inList.length) } }

/-- An ASSERTED pause state of an emptied queue is RELEASED, whatever the low mark. -/
theorem Link.flushed_stopped (cause : StopCause) (k : Link) :
    { k.flushed with state := .off, stopCause := cause, pacer := Pacer.idle } = k.stoppedNow cause := by
  unfold Link.flushed Link.departed Link.stoppedNow
  cases k.pauseAsserted <;> simp [occupancy]

theorem State.modLink_modLink (l : LinkNo) (f g : Link → Link) (s : State) :
    (s.modLink l f).modLink l g = s.modLink l fun k => g (f k) := by
  simp only [State.modLink, get_putAt_self, putAt_putAt]

theorem stopLinkNow_of_off {l : LinkNo} {cause : StopCause} {s : State} (h : (s.link l).state = .off) :
    stopLinkNow l cause s = s := if_pos h

/-- A stop NOW cancels the items of both lists and takes the link to OFF. -/
theorem stopLinkNow_of_runs {l : LinkNo} {cause : StopCause} {s : State} (h : (s.link l).state ≠ .off) :
    stopLinkNow l cause s =
      raise .linkStopped (.link l)
        ((cancelItems ((s.link l).outList ++ (s.link l).inList) s).modLink l (Link.stoppedNow cause)) := by
  refine (if_neg h).trans ?_
  rw [enterOff, State.modLink_modLink]
  exact congrArg (raise _ _) (State.modLink_congr (Link.flushed_stopped cause _))

section StopNow

variable {l : LinkNo} {cause : StopCause} {s : State} (hruns : (s.link l).state ≠ .off)
include hruns

theorem stopLinkNow_link (m : LinkNo) :
    (stopLinkNow l cause s).link m = if m = l then (s.link l).stoppedNow cause else s.link m := by
  obtain ⟨lanes, outs, ins, notices, h⟩ := cancelItems_touches ((s.link l).outList ++ (s.link l).inList) s
  rw [stopLinkNow_of_runs hruns, raise_link, link_modLink, cancelItems, h]
  rfl

theorem stopLinkNow_lane (n : LaneNo) :
    (stopLinkNow l cause s).lanes.get n =
      if ∃ it ∈ (s.link l).outList ++ (s.link l).inList, it.state = .onLane n then .free else s.lanes.get n := by
  rw [stopLinkNow_of_runs hruns]
  exact cancelItems_lane _ s n

theorem stopLinkNow_streams (i : StreamNo) :
    (∃ slots, (stopLinkNow l cause s).outStream i = { s.outStream i with slots := slots }) ∧
      ∃ slots, (stopLinkNow l cause s).inStream i = { s.inStream i with slots := slots } := by
  rw [stopLinkNow_of_runs hruns]
  exact cancelItems_streams _ s i

theorem stopLinkNow_outSlot (i : StreamNo) (k : SlotNo) :
    (stopLinkNow l cause s).outSlot i k =
      (s.outSlot i k).itemsLeft (referencing ((s.link l).outList ++ (s.link l).inList) .out i k) := by
  rw [stopLinkNow_of_runs hruns]
  exact cancelItems_outSlot _ s i k

theorem stopLinkNow_inSlot (i : StreamNo) (k : SlotNo) :
    (stopLinkNow l cause s).inSlot i k =
      (s.inSlot i k).itemsLeft (referencing ((s.link l).outList ++ (s.link l).inList) .inn i k) := by
  rw [stopLinkNow_of_runs hruns]
  exact cancelItems_inSlot _ s i k

/-- LINK_STOPPED for the link, and SLOT_FREED for each slot that its items empty. -/
theorem stopLinkNow_raisesExactly :
    s.raisesExactly (stopLinkNow l cause s) fun n m =>
      s.freeing ((s.link l).outList ++ (s.link l).inList) n m ∨ (n = .linkStopped ∧ m = .link l) := by
  rw [stopLinkNow_of_runs hruns]
  exact State.raisesExactly_trans (cancelItems_raisesExactly _ s) (raise_raisesExactly _ _ _)

/-- SLOT_FREED after the stop. -/
theorem stopLinkNow_slotFreed :
    (s.notices.get NoticeKind.slotFreed.number).raisedFor
      ((stopLinkNow l cause s).notices.get NoticeKind.slotFreed.number)
      (s.freeing ((s.link l).outList ++ (s.link l).inList) .slotFreed) := by
  simpa using stopLinkNow_raisesExactly hruns .slotFreed

end StopNow

/-! ### LINK_START, LINK_STOP and drains (R132 to R134) -/

theorem exec_linkStart_of_off {l : LinkNo} {s : State} (hs : s.serves) (hoff : (s.link l).state = .off)
    (hsetUp : (s.link l).setUp = true) :
    exec (.linkStart (bytesOfNat 1 l.1)) s = .next (answersDone 0x22 (startLink l s)) := by
  have hlink : byteAt (bytesOfNat 1 l.1) 0 = l.1 := byteAt_whole _ (by omega)
  have hjudge : reqLinkStart.judge (bytesOfNat 1 l.1) s = answerDone (startLink l s) := by
    dsimp only [reqLinkStart]
    rw [linkAt_of_byteAt hlink, checked_cons_of_passes _ _ _ (by rw [hlink]; simp),
      checked_cons_of_passes _ _ _ (by rw [hoff]; rfl), checked_cons_of_passes _ _ _ (by rw [hoff]; rfl),
      checked_cons_of_passes _ _ _ (by rw [hsetUp]; rfl), checked_nil]
  exact congrArg Host.Outcome.next (takeRequest_done hs (by simp [reqLinkStart]) hjudge)

/-- LINK_STOP stops the link by its action, DRAIN 0 or NOW 1 (R133). -/
theorem exec_linkStop_of_action {l : LinkNo} {action : Byte} {s : State} (hs : s.serves) (haction : action.toNat ≤ 1) :
    exec (.linkStop (bytesOfNat 1 l.1 ++ [action])) s = .next (answersDone 0x23 (stopLink l action.toNat s)) := by
  have hlink : byteAt (bytesOfNat 1 l.1 ++ [action]) 0 = l.1 := byteAt_front _ _ (by omega)
  have hbyte : byteAt (bytesOfNat 1 l.1 ++ [action]) 1 = action.toNat := rfl
  have hjudge : reqLinkStop.judge (bytesOfNat 1 l.1 ++ [action]) s = answerDone (stopLink l action.toNat s) := by
    dsimp only [reqLinkStop]
    rw [checked_cons_of_passes _ _ _ (by rw [hlink]; simp),
      checked_cons_of_passes _ _ _ (by rw [hbyte]; simpa using haction), checked_nil, linkAt_of_byteAt hlink, hbyte]
  exact congrArg Host.Outcome.next (takeRequest_done hs (by simp [reqLinkStop]) hjudge)

/-- The pacer of a link that starts, with its first stage looked up (R144). -/
theorem Link.pacerStarted_eq (k : Link) :
    k.pacerStarted =
      if k.campus.up then
        match k.ramp with
        | [] => { phase := .steady, credit := 0, rate := k.settings.rate }
        | st :: _ => { phase := .ramp 1 st.duration, credit := 0, rate := st.rate }
      else { phase := .held, credit := 0, rate := 0 } := by
  refine if_congr Iff.rfl ?_ rfl
  cases k.ramp <;> rfl

/-- A drain of a LIVE link that is not empty (R133). -/
theorem drainLink_of_busy {l : LinkNo} {cause : StopCause} {s : State} (hlive : (s.link l).state = .live)
    (hbusy : (s.link l).quiet = false) :
    drainLink l cause s = s.modLink l fun k => { k with state := .draining, stopCause := cause } := by
  rw [drainLink, if_pos hlive, drainCheck_eq, link_modLink_self]
  exact if_neg fun ⟨_, hquiet⟩ => Bool.false_ne_true (hbusy.symm.trans hquiet)

/-- A drain of a LIVE link that is empty ends in the same event (R134). -/
theorem drainLink_of_quiet {l : LinkNo} {cause : StopCause} {s : State} (hlive : (s.link l).state = .live)
    (hquiet : (s.link l).quiet = true) :
    drainLink l cause s =
      raise .linkStopped (.link l)
        (s.modLink l fun k => { k with state := .off, stopCause := cause, pacer := Pacer.idle }) := by
  rw [drainLink, if_pos hlive, drainCheck_eq, link_modLink_self, State.modLink_modLink]
  exact if_pos ⟨rfl, hquiet⟩

/-- Settles O24: a stop NOW is `Link.stoppedNow` at its link, and at lanes, slots and notices what `cancelItems` makes
of them item by item; starts and drains are updates of the link alone. -/
theorem linksStartAndStop : Obligations.LinksStartAndStop := by
  intro l s
  refine ⟨fun hs hoff hsetUp => ?start,
    fun hs => ⟨exec_linkStop_of_action hs (by decide), exec_linkStop_of_action hs (by decide)⟩,
    fun cause =>
      ⟨drainLink_of_busy, drainLink_of_quiet, fun hlive => if_neg hlive, stopLinkNow_of_off, fun hruns => ?stop⟩,
    fun hreset hdraining hquiet => ?drained⟩
  case start =>
    rw [exec_linkStart_of_off hs hoff hsetUp]
    exact congrArg (fun x => Host.Outcome.next (answersDone 0x22 x)) (State.modLink_congr
      (congrArg (fun p => { s.link l with state := .live, pacer := p }) (Link.pacerStarted_eq _)))
  case drained =>
    refine congrArg Host.Outcome.next ((unlessHeld_of_not_held hreset).trans ?_)
    rw [drainCheck_eq, if_pos ⟨hdraining, hquiet⟩]
  case stop =>
    intro t items left freedOut freedIn stopped freed freed'
    have hraises : s.raisesExactly t _ := stopLinkNow_raisesExactly hruns
    have hfreed : freed.raisedFor freed' (s.freeing items .slotFreed) := stopLinkNow_slotFreed hruns
    have houts : ∀ i k, t.outSlot i k = (s.outSlot i k).itemsLeft (left .out i k) := stopLinkNow_outSlot hruns
    have hins : ∀ i k, t.inSlot i k = (s.inSlot i k).itemsLeft (left .inn i k) := stopLinkNow_inSlot hruns
    refine ⟨(stopLinkNow_link hruns l).trans (if_pos rfl), fun m hm => (stopLinkNow_link hruns m).trans (if_neg hm),
      fun n => ⟨fun hn => (stopLinkNow_lane hruns n).trans (if_pos hn), fun hn => ?laneKept⟩, fun i => ?streams,
      fun i k => ⟨fun h => ?outFreed, fun h => ?outLeft, fun h => ?inFreed, fun h => ?inLeft⟩, ?stopped,
      fun henabled => ?member, ?freedFrame, ?freedPending, fun i => ⟨?freedOuts, ?freedIns⟩,
      fun m hm hm' => ?otherNotices, ?frame⟩
    case laneKept => exact (stopLinkNow_lane hruns n).trans (if_neg fun ⟨it, hit, h⟩ => hn it hit h)
    case streams =>
      obtain ⟨⟨outs, hout⟩, ins, hin⟩ := stopLinkNow_streams (cause := cause) hruns i
      exact ⟨by rw [hout], by rw [hin]⟩
    case outFreed => rw [houts, OutSlot.itemsLeft_of_freed h]
    case outLeft => rw [houts, OutSlot.itemsLeft_of_not_freed h]
    case inFreed => rw [hins, InSlot.itemsLeft_of_freed h]
    case inLeft => rw [hins, InSlot.itemsLeft_of_not_freed h]
    case stopped => exact hraises.get_of_one (by simp [State.freeing])
    case member =>
      obtain ⟨-, -, hpending, -, -, -, hset⟩ := Notice.raised_raisedFor stopped (.link l)
      exact ⟨hpending.2 (.inr ⟨henabled, _, rfl⟩), (hset l).2 (.inr ⟨henabled, rfl⟩)⟩
    case freedFrame => exact hfreed.of_streams (by simp [State.freeing]) (by simp [State.freeing])
    case freedPending =>
      obtain ⟨-, -, hpending, -⟩ := hfreed
      rw [hpending, State.exists_freeing_iff]
      rfl
    case freedOuts =>
      obtain ⟨-, -, -, hset, -⟩ := hfreed
      rw [hset, State.freeing_outStream]
      rfl
    case freedIns =>
      obtain ⟨-, -, -, -, hset, -⟩ := hfreed
      rw [hset, State.freeing_inStream]
      rfl
    case otherNotices =>
      obtain ⟨k, rfl⟩ := NoticeKind.exists_number m
      refine hraises.get_of_none fun x => ?_
      rintro (⟨rfl, -⟩ | ⟨rfl, -⟩)
      · exact hm' rfl
      · exact hm rfl
    case frame =>
      obtain ⟨links, lanes, outs, ins, notices, htouches⟩ := stopLinkNow_touches l cause s
      rw [show t = _ from htouches]

end Sys2Proof.Machine
end

section
/-! SUPPORT. Microsecond events at a link (R88, R142), and the faces: status changes and their buffer, pause frames,
ends of transmissions and arriving frames (R131, R137, R139, R144). -/

namespace Sys2Proof.Machine

/-! ### Microsecond events (R88, R142) -/

section Pacer

variable {k : Link} {n left : Nat}

theorem Link.pacerMicro_of_waits (h : k.pacer.phase = .idle ∨ k.pacer.phase = .held) : k.pacerMicro = k.pacer := by
  rcases h with h | h <;> rw [Link.pacerMicro, h]

theorem Link.pacerMicro_of_steady (h : k.pacer.phase = .steady) :
    k.pacerMicro = k.pacer.refilled k.settings.burst := by
  rw [Link.pacerMicro, h]

theorem Link.pacerMicro_of_goes (h : k.pacer.phase = .ramp n left) (hleft : 2 ≤ left) :
    k.pacerMicro = { k.pacer.refilled k.settings.burst with phase := .ramp n (left - 1) } := by
  rw [Link.pacerMicro, h]
  exact if_neg (by omega)

theorem Link.pacerMicro_of_ends (h : k.pacer.phase = .ramp n left) (hleft : left ≤ 1) :
    k.pacerMicro =
      pacerAtStage k.ramp k.settings.rate (n + 1) (k.pacer.refilled k.settings.burst).credit := by
  rw [Link.pacerMicro, h]
  exact if_pos hleft

end Pacer

/-- The refresh count does not reach the pacer. -/
theorem Link.micro_pacer (k : Link) : k.micro.pacer = k.pacerMicro := by
  unfold Link.micro Link.refreshMicro
  split
  · rfl
  · split <;> rfl

theorem Link.refreshMicro_of_stopped {k : Link} (h : k.refresh = none) : k.refreshMicro = k := by
  rw [Link.refreshMicro, h]

theorem Link.refreshMicro_of_runs {k : Link} {n : Nat} (h : k.refresh = some n) (hn : n < 99) :
    k.refreshMicro = { k with refresh := some (n + 1) } := by
  rw [Link.refreshMicro, h]
  exact if_neg (by omega)

/-- The 100th event owes a pause where the queue is ASSERTED and the rack face up (R88; log entry 16). -/
theorem Link.refreshMicro_of_due {k : Link} (h : k.refresh = some 99) :
    k.refreshMicro = { k with refresh := some 0, pauseOwed := k.pauseOwed || (k.pauseAsserted && k.rack.up) } := by
  rw [Link.refreshMicro, h]
  exact if_pos le_rfl

theorem exec_rampStageEnd_of_ends {l : LinkNo} {n left : Nat} {s : State} (hreset : s.resetHeld = none)
    (hphase : (s.link l).pacer.phase = .ramp n left) (hleft : left ≤ 1) :
    exec (.rampStageEnd l) s = .next (s.modLink l fun k => { k with pacer := k.pacerMicro }) := by
  refine congrArg Host.Outcome.next ((unlessHeld_of_not_held hreset).trans ?_)
  rw [hphase]
  exact if_pos hleft

theorem exec_pauseRefresh_of_due {l : LinkNo} {s : State} (hreset : s.resetHeld = none)
    (hrefresh : (s.link l).refresh = some 99) (hasserted : (s.link l).pauseAsserted = true)
    (hup : (s.link l).rack.up = true) :
    exec (.pauseRefresh l) s = .next (s.modLink l Link.refreshMicro) := by
  refine congrArg Host.Outcome.next ((unlessHeld_of_not_held hreset).trans ?_)
  rw [hrefresh]
  exact if_pos ⟨le_rfl, hasserted, hup⟩

/-- Settles O47: each case of `Link.pacerMicro` and `Link.refreshMicro`, which the two rows of their own apply to one
link. -/
theorem pacersRefillAndPausesRefresh : Obligations.PacersRefillAndPausesRefresh := by
  intro l s n left k credit onward
  have honward : k.pacer.phase = .ramp n left → left = 1 → k.pacerMicro = onward := fun hphase hleft =>
    Link.pacerMicro_of_ends hphase hleft.le
  refine ⟨fun h => ?waits, fun h => ?steady, fun h hleft => ?goes, fun h hleft => ?ends,
    fun hreset h hleft => ?stageEnd, fun hreset hrefresh hasserted hup => ?refresh, fun h => ?stopped,
    fun h hn => ?counts, fun h => ?due⟩
  case waits => rw [Link.micro_pacer, Link.pacerMicro_of_waits h]
  case steady => rw [Link.micro_pacer, Link.pacerMicro_of_steady h]; rfl
  case goes => rw [Link.micro_pacer, Link.pacerMicro_of_goes h hleft]; rfl
  case ends => rw [Link.micro_pacer, honward h hleft]
  case stageEnd =>
    rw [exec_rampStageEnd_of_ends hreset h hleft.le]
    exact congrArg Host.Outcome.next (State.modLink_congr (congrArg (fun p => { k with pacer := p }) (honward h hleft)))
  case refresh =>
    rw [exec_pauseRefresh_of_due hreset hrefresh hasserted hup]
    refine congrArg Host.Outcome.next (State.modLink_congr ((Link.refreshMicro_of_due hrefresh).trans ?_))
    rw [hasserted, hup, Bool.and_self, Bool.or_true]
  case stopped => rw [Link.micro_pacer]; exact Link.refreshMicro_of_stopped h
  case counts => rw [Link.micro_pacer]; exact Link.refreshMicro_of_runs h hn
  case due => rw [Link.micro_pacer]; exact Link.refreshMicro_of_due h

/-! ### The link-change buffer (R139) -/

theorem faceBit_lt (l : LinkNo) (side : Side) : faceBit l side < 8 := by
  unfold faceBit
  split <;> omega

/-- A face is in the mask where its bit is set. -/
theorem mask_and_faceBit_eq_zero_iff (mask : BitVec 8) (l : LinkNo) (side : Side) :
    mask &&& BitVec.ofNat 8 (2 ^ faceBit l side) = 0 ↔ ¬ mask.getLsbD (faceBit l side) = true := by
  have hbit : BitVec.ofNat 8 (2 ^ faceBit l side) = BitVec.twoPow 8 (faceBit l side) :=
    BitVec.eq_of_toNat_eq (by simp [BitVec.toNat_twoPow])
  have hset : BitVec.twoPow 8 (faceBit l side) ≠ 0 := fun h => by
    have hself := congrArg (BitVec.getLsbD · (faceBit l side)) h
    simp [faceBit_lt] at hself
  rw [hbit, BitVec.and_twoPow]
  split
  next h => simpa [h] using hset
  next h => simpa using h

theorem noteChange_eq (l : LinkNo) (side : Side) (s : State) :
    noteChange l side s =
      if s.linkChangeMask &&& BitVec.ofNat 8 (2 ^ faceBit l side) = 0 then s
      else
        raise .linkChange .none
          { s with
            linkChanges :=
              recordChange s.linkChanges (BitVec.ofNat 8 (2 ^ faceBit l side)) (faceStatus s) s.time } := by
  rw [noteChange, if_congr (mask_and_faceBit_eq_zero_iff _ l side) rfl rfl]
  exact (ite_not _ _ _).symm

/-! ### Status changes (R137, R144) -/

theorem exec_faceUp_of_down {l : LinkNo} {side : Side} {s : State} (hreset : s.resetHeld = none)
    (hdown : ((s.link l).face side).up = false) :
    exec (.faceUp l side) s = .next (noteChange l side (s.modLink l fun k => k.wentUp side)) := by
  refine congrArg Host.Outcome.next ((unlessHeld_of_not_held hreset).trans ?_)
  exact if_neg (by rw [hdown]; nofun)

theorem exec_faceDown_of_up {l : LinkNo} {side : Side} {s : State} (hreset : s.resetHeld = none)
    (hup : ((s.link l).face side).up = true) :
    exec (.faceDown l side) s = .next (noteChange l side (s.modLink l fun k => k.wentDown side)) :=
  congrArg Host.Outcome.next ((unlessHeld_of_not_held hreset).trans (if_pos hup))

/-- A transmission that stops before its end leaves the transmitter idle (R137). -/
theorem Face.stopped_eq (f : Face) (e : TxEnding) :
    f.stopped e = { f with tx := .idle, lastEnding := if f.tx = .idle then f.lastEnding else e } := by
  obtain ⟨up, tx, lastEnding⟩ := f
  cases tx <;> rfl

theorem Face.stopped_of_busy {f : Face} (e : TxEnding) (h : f.tx ≠ .idle) :
    f.stopped e = { f with tx := .idle, lastEnding := e } := by
  rw [Face.stopped_eq, if_neg h]

/-- The campus face up starts the pacer of a link that carries traffic (R144). -/
theorem Link.wentUp_campus (k : Link) :
    k.wentUp .campus =
      { k with
        campus := { k.campus with up := true }
        pacer :=
          if k.state = .off then k.pacer
          else { k with campus := { k.campus with up := true } : Link }.pacerStarted } := by
  unfold Link.wentUp Link.carries
  by_cases h : k.state = .off <;> simp [h]

/-- The campus face down sends the pacer of a link that carries traffic to HELD (R144). -/
theorem Link.wentDown_campus (k : Link) :
    k.wentDown .campus =
      { k with
        campus := { (k.campus.stopped .lost) with up := false }
        pacer := if k.state = .off then k.pacer else { phase := .held, credit := 0, rate := 0 } } := by
  unfold Link.wentDown Link.carries
  by_cases h : k.state = .off <;> simp [h]

/-! ### Arriving frames (R85, R87, R131) -/

theorem receivedGood_iff (f : Frame) :
    receivedGood f = true ↔
      64 ≤ f.length ∧ f.length ≤ 9728 ∧
        f.drop (f.length - 4) = bytesOfBits 4 (Config.fcs (f.take (f.length - 4))) := by
  simp only [receivedGood, Bool.and_eq_true, decide_eq_true_iff, and_assoc]
  rfl

section Received

variable {k : Link} {f : Frame}

theorem Link.received_of_bad (side : Side) (h : ¬ receivedGood f = true) :
    k.received side f = { k with faceCount := k.faceCount.error side } := if_pos h

theorem Link.received_of_off (side : Side) (h : receivedGood f = true) (hoff : k.state = .off) :
    k.received side f = { k with faceCount := k.faceCount.off side } := by
  unfold Link.received
  rw [if_neg (not_not.2 h), hoff]

theorem Link.received_of_draining (side : Side) (h : receivedGood f = true) (hdraining : k.state = .draining) :
    k.received side f = { k with faceCount := k.faceCount.stopping side } := by
  unfold Link.received
  rw [if_neg (not_not.2 h), hdraining]

theorem Link.received_rack_of_live (h : receivedGood f = true) (hlive : k.state = .live) :
    k.received .rack f = k.offerOut f := by
  unfold Link.received
  rw [if_neg (not_not.2 h), hlive]

theorem Link.received_campus_of_live (h : receivedGood f = true) (hlive : k.state = .live) :
    k.received .campus f = k.offerIn f := by
  unfold Link.received
  rw [if_neg (not_not.2 h), hlive]

/-- An acceptance that does not reach the high mark, or finds the queue ASSERTED, leaves the pause state (R87). -/
theorem Link.arrived_of_quiet
    (h : k.pauseAsserted = true ∨ occupancy k.outQueue < k.settings.highMark * 1024) : k.arrived = k :=
  if_neg fun ⟨hreleased, hmark⟩ => h.elim hreleased fun hbelow => absurd hmark (Nat.not_le.2 hbelow)

/-- An acceptance that reaches the high mark of a RELEASED queue asserts it (R87). -/
theorem Link.arrived_of_mark (hreleased : k.pauseAsserted = false)
    (hmark : k.settings.highMark * 1024 ≤ occupancy k.outQueue) :
    k.arrived =
      { k with
        pauseAsserted := true, pauseOwed := true
        outCount := { k.outCount with pauseAssertions := count48 k.outCount.pauseAssertions 1 } } :=
  if_pos ⟨by rw [hreleased]; nofun, hmark⟩

/-- A frame that does not fit is tail-dropped (R85). -/
theorem Link.offerOut_of_full (h : Config.queueCapacity < occupancy k.outQueue + f.length) :
    k.offerOut f = { k with outCount := { k.outCount with queueFull := count48 k.outCount.queueFull 1 } } :=
  if_neg (Nat.not_le.2 h)

theorem Link.offerOut_of_room (h : occupancy k.outQueue + f.length ≤ Config.queueCapacity) :
    k.offerOut f =
      Link.arrived
        { k with
          outQueue := k.outQueue ++ [f], outCount := { k.outCount with accepted := count48 k.outCount.accepted 1 } } :=
  if_pos h

theorem Link.offerIn_of_full (h : Config.queueCapacity < occupancy k.inQueue + f.length) :
    k.offerIn f = { k with inCount := { k.inCount with queueFull := count48 k.inCount.queueFull 1 } } :=
  if_neg (Nat.not_le.2 h)

theorem Link.offerIn_of_room (h : occupancy k.inQueue + f.length ≤ Config.queueCapacity) :
    k.offerIn f =
      { k with
        inQueue := k.inQueue ++ [f], inCount := { k.inCount with accepted := count48 k.inCount.accepted 1 } } :=
  if_pos h

end Received

theorem exec_frameReceived_of_up {l : LinkNo} {side : Side} {f : Frame} {s : State} (hreset : s.resetHeld = none)
    (hup : ((s.link l).face side).up = true) :
    exec (.frameReceived l side f) s = .next (s.modLink l fun k => k.received side f) :=
  congrArg Host.Outcome.next ((unlessHeld_of_not_held hreset).trans (if_pos hup))

/-! ### Pause frames and the ends of transmissions (R88, R137) -/

theorem exec_pauseSend_of_owed {l : LinkNo} {s : State} (hreset : s.resetHeld = none)
    (howed : (s.link l).pauseOwed = true) (hup : (s.link l).rack.up = true) (hidle : (s.link l).rack.tx = .idle) :
    exec (.pauseSend l) s = .next (s.modLink l Link.pauseSent) := by
  refine congrArg Host.Outcome.next ((unlessHeld_of_not_held hreset).trans (if_pos ?_))
  simp [Link.canPause, howed, hup, hidle]

theorem exec_transmissionEnd (l : LinkNo) (side : Side) {s : State} (hreset : s.resetHeld = none) :
    exec (.transmissionEnd l side) s = .next (s.modLink l fun k => k.modFace side fun f => f.stopped .complete) :=
  congrArg Host.Outcome.next (unlessHeld_of_not_held hreset)

/-- The two time bytes of a pause frame (R88). -/
theorem bytesOfNat_pauseTime (k : Link) :
    bytesOfNat 2 k.pauseTime = if k.pauseAsserted then [0xFF, 0xFF] else [0, 0] := by
  unfold Link.pauseTime
  split <;> decide

/-- Settles O50: a status change is `noteChange` after the update of its face, a frame is judged by `Link.received` case
by case, and a pause frame or the end of a transmission rewrites its face. -/
theorem facesAndFrames : Obligations.FacesAndFrames := by
  intro l frame s hreset k changed down good
  have hgood : receivedGood frame = true ↔ good := receivedGood_iff frame
  have hchanged : ∀ side f, noteChange l side (s.modLink l f) = changed side (f k) := fun side f => by
    rw [State.modLink_congr (f := f) (g := fun _ => f k) rfl, noteChange_eq]
    exact if_congr Iff.rfl rfl rfl
  have hbecomes : ∀ side x, (k.face side).up = true → k.received side frame = x →
      exec (.frameReceived l side frame) s = .next (s.modLink l fun _ => x) := fun side x hup h =>
    (exec_frameReceived_of_up hreset hup).trans (congrArg Host.Outcome.next (State.modLink_congr h))
  have hdown : ∀ f : Face, { f.stopped .lost with up := false } = down f := fun f => by rw [Face.stopped_eq]
  refine ⟨fun hface => ?rackUp, fun hface => ?rackDown, fun hface => ?campusUp, fun hface => ?campusDown,
    fun howed hup hidle => ?pause, fun hbusy => ?rackEnd, fun hbusy => ?campusEnd, fun hup => ?rackFrame,
    fun hup => ?campusFrame⟩
  case rackUp =>
    rw [exec_faceUp_of_down (side := .rack) hreset hface, hchanged]
    rfl
  case rackDown =>
    rw [exec_faceDown_of_up (side := .rack) hreset hface, hchanged, Link.wentDown, hdown]
  case campusUp =>
    rw [exec_faceUp_of_down (side := .campus) hreset hface, hchanged, Link.wentUp_campus, Link.pacerStarted_eq]
    rfl
  case campusDown =>
    rw [exec_faceDown_of_up (side := .campus) hreset hface, hchanged, Link.wentDown_campus, hdown]
  case pause =>
    rw [exec_pauseSend_of_owed hreset howed hup hidle]
    refine congrArg Host.Outcome.next (State.modLink_congr ?_)
    rw [Link.pauseSent, pauseFrame, bytesOfNat_pauseTime]
    rfl
  case rackEnd =>
    rw [exec_transmissionEnd l .rack hreset]
    exact congrArg Host.Outcome.next (State.modLink_congr
      (congrArg (fun f => { k with rack := f }) (Face.stopped_of_busy .complete hbusy)))
  case campusEnd =>
    rw [exec_transmissionEnd l .campus hreset]
    exact congrArg Host.Outcome.next (State.modLink_congr
      (congrArg (fun f => { k with campus := f }) (Face.stopped_of_busy .complete hbusy)))
  case rackFrame =>
    intro becomes c o
    have hframe : ∀ x, k.received .rack frame = x → becomes x := fun x => hbecomes .rack x hup
    refine ⟨fun hbad => hframe _ (Link.received_of_bad _ (mt hgood.1 hbad)),
      fun h hoff => hframe _ (Link.received_of_off _ (hgood.2 h) hoff),
      fun h hdraining => hframe _ (Link.received_of_draining _ (hgood.2 h) hdraining), fun h hlive hfull => ?full,
      fun h hlive hroom => ⟨fun hquiet => ?accepted, fun hreleased hmark => ?asserted⟩⟩
    case full => exact hframe _ ((Link.received_rack_of_live (hgood.2 h) hlive).trans (Link.offerOut_of_full hfull))
    case accepted =>
      refine hframe _ ((Link.received_rack_of_live (hgood.2 h) hlive).trans ((Link.offerOut_of_room hroom).trans ?_))
      exact Link.arrived_of_quiet (by rwa [occupancy_append])
    case asserted =>
      refine hframe _ ((Link.received_rack_of_live (hgood.2 h) hlive).trans ((Link.offerOut_of_room hroom).trans ?_))
      exact Link.arrived_of_mark hreleased (by rwa [occupancy_append])
  case campusFrame =>
    intro becomes c i
    have hframe : ∀ x, k.received .campus frame = x → becomes x := fun x => hbecomes .campus x hup
    refine ⟨fun hbad => hframe _ (Link.received_of_bad _ (mt hgood.1 hbad)),
      fun h hoff => hframe _ (Link.received_of_off _ (hgood.2 h) hoff),
      fun h hdraining => hframe _ (Link.received_of_draining _ (hgood.2 h) hdraining), fun h hlive hfull => ?full,
      fun h hlive hroom => ?accepted⟩
    case full => exact hframe _ ((Link.received_campus_of_live (hgood.2 h) hlive).trans (Link.offerIn_of_full hfull))
    case accepted =>
      exact hframe _ ((Link.received_campus_of_live (hgood.2 h) hlive).trans (Link.offerIn_of_room hroom))

end Sys2Proof.Machine
end

section
/-! SUPPORT. The laws of the time base, the settings, the notice sets and the triggers (R73, R92, R150, R159, R189): every
operation keeps each of them, because it raises notices, empties or faults ARMED slots, and moves the count within its
ranges. -/

namespace Sys2Proof.Machine

/-! ### Changes that keep the laws -/

/-- From `s` to `t` each of the four laws is kept. An update that none of the laws reads keeps them by definition. -/
def State.keepsLaws (s t : State) : Prop :=
  (s.time.inRange → t.time.inRange) ∧ (s.settingsInRange → t.settingsInRange) ∧ (s.noticesLegal → t.noticesLegal) ∧
    (s.triggersLegal → t.triggersLegal)

/-- What the laws read beside the notice block. -/
def State.lawParts (s : State) : TimeBase × Nat × Arbiter × Vector TriggerSlot 8 :=
  (s.time, s.envelopeType, s.arbiter, s.triggers)

/-- A kind whose notices are raised is pending, so its law does not count members it gains. -/
theorem Notice.raisedFor.legal {n n' : Notice} {r : NoticeMember → Prop} (h : n.raisedFor n' r) (hn : n.legal) :
    n'.legal := by
  obtain ⟨-, -, hpending, houts, hins, htriggers, hlinks⟩ := h
  intro hclear
  obtain ⟨hbefore, hnone⟩ := not_or.1 (mt hpending.2 (Bool.eq_false_iff.1 hclear))
  obtain ⟨ho, hi, ht, hl⟩ := hn (Bool.eq_false_iff.2 hbefore)
  have hraised : ∀ m, ¬ (n.enabled = true ∧ r m) := fun m hm => hnone ⟨hm.1, m, hm.2⟩
  refine ⟨set_ext_getLsbD fun i => ?_, set_ext_getLsbD fun i => ?_, set_ext_getLsbD fun j => ?_,
    set_ext_getLsbD fun l => ?_⟩
  · rw [houts i, ho, or_iff_left (hraised _)]
  · rw [hins i, hi, or_iff_left (hraised _)]
  · rw [htriggers j, ht, or_iff_left (hraised _)]
  · rw [hlinks l, hl, or_iff_left (hraised _)]

theorem State.raisesExactly.noticesLegal {s t : State} {r : NoticeKind → NoticeMember → Prop}
    (h : s.raisesExactly t r) (hs : s.noticesLegal) : t.noticesLegal := by
  intro m
  obtain ⟨k, rfl⟩ := NoticeKind.exists_number m
  exact (h k).legal (hs k.number)

namespace State.keepsLaws

variable {s t u : State}

theorem self (s : State) : s.keepsLaws s := ⟨id, id, id, id⟩

theorem trans (h : s.keepsLaws t) (h' : t.keepsLaws u) : s.keepsLaws u := by
  obtain ⟨htime, hsettings, hnotices, htriggers⟩ := h
  obtain ⟨htime', hsettings', hnotices', htriggers'⟩ := h'
  exact ⟨htime' ∘ htime, hsettings' ∘ hsettings, hnotices' ∘ hnotices, htriggers' ∘ htriggers⟩

/-- An operation that raises notices, and of whose other parts no law reads any. -/
theorem of_raises {r : NoticeKind → NoticeMember → Prop} (hraises : s.raisesExactly t r)
    (hparts : t.lawParts = s.lawParts) : s.keepsLaws t := by
  simp only [State.lawParts, Prod.mk.injEq] at hparts
  obtain ⟨htime, henvelope, harbiter, htriggers⟩ := hparts
  refine ⟨fun h => by rwa [htime], fun h => ?_, hraises.noticesLegal, fun h => ?_⟩
  · simpa only [State.settingsInRange, henvelope, harbiter] using h
  · simpa only [State.triggersLegal, State.triggersDisjoint, htriggers] using h

theorem raised (h : s.keepsLaws t) (k : NoticeKind) (m : NoticeMember) : s.keepsLaws (raise k m t) :=
  h.trans (of_raises (raise_raisesExactly k m t) rfl)

theorem ite {c : Prop} [Decidable c] (ht : c → s.keepsLaws t) (hu : ¬ c → s.keepsLaws u) :
    s.keepsLaws (if c then t else u) := by
  split
  next h => exact ht h
  next h => exact hu h

theorem foldl {α : Type} {f : State → α → State} (hf : ∀ (s : State) (a : α), s.keepsLaws (f s a)) (xs : List α)
    (s : State) : s.keepsLaws (xs.foldl f s) := by
  induction xs generalizing s with
  | nil => exact self s
  | cons x xs ih => exact (hf s x).trans (ih (f s x))

end State.keepsLaws

open State.keepsLaws (self of_raises)

/-! ### Streams and slots -/

theorem leaveOutSlot_keepsLaws (i : StreamNo) (k : SlotNo) (s : State) : s.keepsLaws (leaveOutSlot i k s) :=
  .ite (fun _ => .raised (self s) _ _) (fun _ => self s)

theorem leaveInSlot_keepsLaws (i : StreamNo) (k : SlotNo) (s : State) : s.keepsLaws (leaveInSlot i k s) :=
  .ite (fun _ => .raised (self s) _ _) (fun _ => self s)

theorem switchStream_keepsLaws (i : StreamNo) (a : SlotNo) (s : State) : s.keepsLaws (switchStream i a s) := by
  refine .raised (.trans ?_ (leaveOutSlot_keepsLaws i a _)) _ _
  exact self s

theorem leaveActive_keepsLaws (i : StreamNo) (a : SlotNo) (s : State) : s.keepsLaws (leaveActive i a s) :=
  .ite (fun _ => switchStream_keepsLaws i a s) (fun _ => .raised (leaveOutSlot_keepsLaws i a s) _ _)

theorem requestSwitch_keepsLaws (i : StreamNo) (a : SlotNo) (s : State) : s.keepsLaws (requestSwitch i a s) := by
  unfold requestSwitch
  split
  · exact switchStream_keepsLaws i a s
  · exact self s
  · exact self s

theorem outSlotReady_keepsLaws (i : StreamNo) (k : SlotNo) (s : State) : s.keepsLaws (outSlotReady i k s) := by
  unfold outSlotReady
  split
  · exact self s
  · exact self s
  · exact .ite (fun _ => switchStream_keepsLaws i _ s) (fun _ => self s)
  · exact self s

theorem itemLeft_keepsLaws (it : Item) (s : State) : s.keepsLaws (itemLeft it s) := by
  obtain ⟨o, i, n, h⟩ := itemLeft_touches it s
  exact of_raises (itemLeft_raisesExactly it s) (by rw [h]; rfl)

theorem outStoreError_keepsLaws (i : StreamNo) (a : SlotNo) (s : State) : s.keepsLaws (outStoreError i a s) := by
  have hleft := leaveActive_keepsLaws i a (s.modOutSlot i a fun sl => { sl with lastLoad := .storeError })
  exact hleft.raised .keyStoreError .none

theorem inStoreError_keepsLaws (i : StreamNo) (k : SlotNo) (s : State) : s.keepsLaws (inStoreError i k s) := by
  have hleft := leaveInSlot_keepsLaws i k (s.modInSlot i k fun sl => { sl with lastLoad := .storeError })
  exact hleft.raised .keyStoreError .none

theorem noteCorrection_keepsLaws (read : KeyRead) (s : State) : s.keepsLaws (noteCorrection read s) :=
  .ite (fun _ => self s) (fun _ => self s)

/-! ### Links -/

theorem drainCheck_keepsLaws (l : LinkNo) (s : State) : s.keepsLaws (drainCheck l s) :=
  .ite (fun _ => .raised (self s) _ _) (fun _ => self s)

theorem drainLink_keepsLaws (l : LinkNo) (c : StopCause) (s : State) : s.keepsLaws (drainLink l c s) := by
  refine .ite (fun _ => .trans ?_ (drainCheck_keepsLaws l _)) (fun _ => self s)
  exact self s

theorem cancelItems_keepsLaws (items : List Item) (s : State) : s.keepsLaws (cancelItems items s) := by
  obtain ⟨ls, o, i, n, h⟩ := cancelItems_touches items s
  exact of_raises (cancelItems_raisesExactly items s) (by rw [cancelItems, h]; rfl)

theorem stopLinkNow_keepsLaws (l : LinkNo) (c : StopCause) (s : State) : s.keepsLaws (stopLinkNow l c s) := by
  have hflushed : ∀ x : State, x.keepsLaws (enterOff l c (x.modLink l Link.flushed)) := fun x =>
    .raised (self x) .linkStopped (.link l)
  exact .ite (fun _ => self s) (fun _ => (cancelItems_keepsLaws _ s).trans (hflushed _))

theorem noteChange_keepsLaws (l : LinkNo) (side : Side) (s : State) : s.keepsLaws (noteChange l side s) :=
  .ite (fun _ => .raised (self s) _ _) (fun _ => self s)

/-! ### Triggers (R159 to R161) -/

/-- Two slots name no stream and no link in common. -/
def TriggerSlot.apart (x y : TriggerSlot) : Prop :=
  (∀ i ∈ x.named.1, i ∉ y.named.1) ∧ ∀ l, x.named.2 = some l → y.named.2 ≠ some l

theorem TriggerSlot.apart.symm {x y : TriggerSlot} (h : x.apart y) : y.apart x := by
  obtain ⟨hstreams, hlinks⟩ := h
  exact ⟨fun i hy hx => hstreams i hx hy, fun l hy hx => hlinks l hx hy⟩

/-- A slot may be written where it lists at most 8 streams, none twice, and is apart from the other slots. -/
theorem State.triggersLegal.setTrigger {s : State} (hs : s.triggersLegal) {j : TriggerNo} {x : TriggerSlot}
    (hnodup : x.named.1.Nodup) (hlisted : x.listed ≤ 8) (hapart : ∀ j', j' ≠ j → x.apart (s.triggers.get j')) :
    (s.setTrigger j x).triggersLegal := by
  obtain ⟨⟨hnodups, hdisjoint⟩, hlist⟩ := hs
  refine ⟨⟨fun m => ?nodup, fun m m' hne => ?apart⟩, fun m => ?listed⟩ <;>
    rw [State.setTrigger_triggers, get_putAt]
  case nodup => split <;> [exact hnodup; exact hnodups m]
  case listed => split <;> [exact hlisted; exact hlist m]
  case apart =>
    rw [get_putAt]
    split
    next hm =>
      subst hm
      rw [if_neg hne.symm]
      exact hapart m' hne.symm
    next hm =>
      split
      · exact (hapart m hm).symm
      · exact hdisjoint m m' hne

/-- A slot may give up what it names, or keep it. -/
theorem State.triggersLegal.yields {s : State} (hs : s.triggersLegal) {j : TriggerNo} {x : TriggerSlot}
    (hnamed : x.named = ([], none) ∨ x.named = (s.triggers.get j).named)
    (hlisted : x.listed ≤ (s.triggers.get j).listed) : (s.setTrigger j x).triggersLegal := by
  obtain ⟨⟨hnodups, hdisjoint⟩, hlist⟩ := id hs
  refine hs.setTrigger ?_ (hlisted.trans (hlist j)) fun j' hj' => ?_
  · rcases hnamed with h | h <;> rw [h]
    · exact List.nodup_nil
    · exact hnodups j
  · unfold TriggerSlot.apart
    rcases hnamed with h | h <;> rw [h]
    · exact ⟨nofun, nofun⟩
    · exact hdisjoint j j' hj'.symm

theorem setTrigger_keepsLaws {s : State} {j : TriggerNo} {x : TriggerSlot}
    (hnamed : x.named = ([], none) ∨ x.named = (s.triggers.get j).named)
    (hlisted : x.listed ≤ (s.triggers.get j).listed) : s.keepsLaws (s.setTrigger j x) :=
  ⟨id, id, id, fun h => h.yields hnamed hlisted⟩

theorem doAction_keepsLaws (s : State) (a : TriggerAction) : s.keepsLaws (doAction s a) := by
  cases a with
  | switch streams =>
    refine .foldl (fun s i => ?_) streams s
    unfold switchListed
    split
    · exact requestSwitch_keepsLaws i _ s
    · exact self s
  | start l => exact self s
  | stopDrain l => exact drainLink_keepsLaws l _ s
  | stopNow l => exact stopLinkNow_keepsLaws l _ s

/-- An ARMED slot that fires is EMPTY or FAULTED, and names nothing any more. -/
theorem fireTrigger_keepsLaws {j : TriggerNo} {c : TriggerCond} {a : TriggerAction} {s : State} (c' : TriggerCond)
    (harmed : s.triggers.get j = .armed c a) : s.keepsLaws (fireTrigger j c' a s) := by
  unfold fireTrigger
  split
  · refine .raised (setTrigger_keepsLaws (.inl rfl) ?_) _ _
    rw [harmed]
    exact Nat.le_refl _
  · refine .raised (.trans (setTrigger_keepsLaws (.inl rfl) ?_) (doAction_keepsLaws _ a)) _ _
    exact Nat.zero_le _

theorem triggerEvent_keepsLaws (e : FireEvent) (s : State) (j : TriggerNo) : s.keepsLaws (triggerEvent e s j) := by
  unfold triggerEvent
  split
  next c a harmed =>
    refine .ite (fun _ => fireTrigger_keepsLaws _ harmed) (fun _ => setTrigger_keepsLaws (.inr ?_) ?_)
    · rw [harmed]; rfl
    · rw [harmed]; exact Nat.le_refl _
  next => exact self s

theorem triggersEvent_keepsLaws (e : FireEvent) (s : State) : s.keepsLaws (triggersEvent e s) :=
  .foldl (triggerEvent_keepsLaws e) _ s

/-! ### Time (R150 to R153) -/

theorem nextSecond_lt {n : Nat} (h : n < 2 ^ 32) : nextSecond n < 2 ^ 32 := by
  unfold nextSecond
  split <;> omega

theorem TimeBase.inRange.micro {t : TimeBase} (h : t.inRange) : t.micro.inRange := by
  obtain ⟨hseconds, hmicros, hrest⟩ := h
  unfold TimeBase.micro
  split
  next hlt => exact ⟨hseconds, hlt, hrest⟩
  next => exact ⟨nextSecond_lt hseconds, Nat.zero_le _, hrest⟩

theorem count48_lt (c n : Nat) : count48 c n < 2 ^ 48 := by
  unfold count48
  omega

/-- A change of the time base alone. -/
theorem keepsLaws_of_time {s : State} {t : TimeBase} (h : s.time.inRange → t.inRange) :
    s.keepsLaws { s with time := t } := ⟨h, id, id, id⟩

theorem milliEvent_keepsLaws (s : State) : s.keepsLaws (milliEvent s) := by
  obtain ⟨o, n, h⟩ := milliEvent_touches s
  exact of_raises (milliEvent_raisesExactly s) (by rw [h]; rfl)

theorem lifetimesEvent_keepsLaws (s : State) : s.keepsLaws (lifetimesEvent s) := by
  obtain ⟨o, n, h⟩ := lifetimesEvent_touches s
  exact of_raises (lifetimesEvent_raisesExactly s) (by rw [h]; rfl)

theorem secondEvent_keepsLaws (s : State) : s.keepsLaws (secondEvent s) :=
  (lifetimesEvent_keepsLaws s).trans (triggersEvent_keepsLaws _ _)

theorem microEvent_keepsLaws (s : State) : s.keepsLaws (microEvent s) := by
  unfold microEvent
  extract_lets counted passed
  have hcounted : s.keepsLaws counted := keepsLaws_of_time TimeBase.inRange.micro
  have hpassed : s.keepsLaws passed := .ite (fun _ => hcounted.trans (milliEvent_keepsLaws _)) (fun _ => hcounted)
  exact .ite (fun _ => hpassed.trans (secondEvent_keepsLaws _)) (fun _ => hpassed)

theorem microEvents_keepsLaws (n : Nat) (s : State) : s.keepsLaws (microEvents n s) := by
  induction n generalizing s with
  | zero => exact self s
  | succ n ih => exact (microEvent_keepsLaws s).trans (ih _)

theorem nextWindow_le (w : Nat) : nextWindow w ≤ 1048575 := by
  unfold nextWindow
  split <;> omega

theorem tick_keepsLaws (s : State) : s.keepsLaws (tick s) := by
  refine .trans (keepsLaws_of_time ?_) (microEvents_keepsLaws _ _)
  rintro ⟨hseconds, hmicros, -, hrest⟩
  exact ⟨hseconds, hmicros, nextWindow_le _, hrest⟩

theorem disciplineEdge_keepsLaws (s : State) : s.keepsLaws (disciplineEdge s) := by
  refine .ite (fun _ => ?early) fun _ => .ite (fun _ => keepsLaws_of_time ?late) (fun _ => keepsLaws_of_time ?outside)
  case early =>
    refine .trans (.trans (keepsLaws_of_time ?_) (milliEvent_keepsLaws _)) (secondEvent_keepsLaws _)
    rintro ⟨hseconds, -, hrest⟩
    exact ⟨nextSecond_lt hseconds, Nat.zero_le _, hrest⟩
  case late =>
    rintro ⟨hseconds, -, hrest⟩
    exact ⟨hseconds, Nat.zero_le _, hrest⟩
  case outside =>
    rintro ⟨hseconds, hmicros, hwindow, htrim, htrim', -⟩
    exact ⟨hseconds, hmicros, hwindow, htrim, htrim', count48_lt _ _⟩

theorem edge_keepsLaws (s : State) : s.keepsLaws (edge s) :=
  .trans (.ite (fun _ => disciplineEdge_keepsLaws s) (fun _ => self s)) (triggersEvent_keepsLaws _ _)

/-! ### The arbiter and the key preparation unit (R15, R19 to R23, R92) -/

/-- A change of the arbiter's pointer and count alone (R92). -/
theorem keepsLaws_of_count {s : State} (pointer : Fin 8) {g : Nat} (hg : g ≤ 7) :
    s.keepsLaws { s with arbiter := { s.arbiter with pointer := pointer, count := g } } := by
  refine ⟨id, ?_, id, id⟩
  rintro ⟨hlow, htag, hhigh, hrotation, hrotation', -⟩
  exact ⟨hlow, htag, hhigh, hrotation, hrotation', hg⟩

theorem resetCount_keepsLaws (s : State) : s.keepsLaws (resetCount s) := keepsLaws_of_count _ (Nat.zero_le 7)

theorem noteTrafficGrant_keepsLaws (r : Fin 8) (s : State) : s.keepsLaws (noteTrafficGrant r s) :=
  keepsLaws_of_count _ (Nat.min_le_right _ _)

theorem removeHeadJob_keepsLaws (s : State) : s.keepsLaws (removeHeadJob s) :=
  .ite (fun _ => self s) (fun _ => resetCount_keepsLaws s)

theorem endJob_keepsLaws (j : Job) (r : LoadResult) (x : Option Secret) (s : State) :
    s.keepsLaws (endJob j r x s) := by
  have hdropped : ∀ r, s.keepsLaws (dropPending j (emptyLoading j r s)) := fun r => by
    obtain ⟨o, i, h⟩ := emptyLoading_touches j r s
    obtain ⟨o', h'⟩ := dropPending_touches j (emptyLoading j r s)
    rw [h', h]
    exact self s
  unfold endJob
  split
  · unfold installLoad
    split
    · refine .trans (.raised ?_ _ _) (outSlotReady_keepsLaws _ _ _)
      exact self s
    · exact .raised (self s) _ _
  · exact hdropped _
  · exact (hdropped _).raised _ _

theorem grantKeyUnit_keepsLaws (n : LaneNo) (s : State) : s.keepsLaws (grantKeyUnit n s) := by
  unfold grantKeyUnit
  split
  · exact self s
  · split
    · exact self s
    · exact (endJob_keepsLaws _ _ _ s).trans (removeHeadJob_keepsLaws _)

theorem completeJob_keepsLaws (n : LaneNo) (j : Job) (s : State) : s.keepsLaws (completeJob n j s) := by
  unfold completeJob
  split
  · exact (endJob_keepsLaws j _ _ (s.setLane n .free)).trans (removeHeadJob_keepsLaws _)
  · exact self s

/-! ### Grants (R34, R61, R108) -/

theorem assign_keepsLaws (l : LinkNo) (n : LaneNo) (i : StreamNo) (a : SlotNo) (f : Frame) (tc : Bool) (s : State) :
    s.keepsLaws (assign l n i a f tc s) := by
  have hnumber : ∀ x : State, x.keepsLaws (assignNumber l n i a f tc x) := self
  have hrekey : ∀ (p : Nat) (x : State), x.keepsLaws (assignRekey i a p x) := fun p x =>
    .ite (fun _ => .raised (self x) _ _) (fun _ => self x)
  have hend : ∀ (p : Nat) (x : State), x.keepsLaws (assignEnd i a p x) := fun p x =>
    .ite (fun _ => leaveActive_keepsLaws i a x) (fun _ => self x)
  have hswitch : ∀ (p : Nat) (x : State), x.keepsLaws (assignAutoSwitch i a p x) := fun p x =>
    .ite (fun _ => switchStream_keepsLaws i a x) (fun _ => self x)
  exact (hnumber s).trans <| (hrekey _ _).trans <| (hend _ _).trans <| (hswitch _ _).trans <|
    triggersEvent_keepsLaws _ _

theorem disposeOut_keepsLaws (l : LinkNo) (n : LaneNo) (read : KeyRead) (f : Frame) (d : Decision) (s : State) :
    s.keepsLaws (disposeOut l n read f d s) := by
  unfold disposeOut
  split
  · exact self s
  · exact .ite (fun _ => self s) (fun _ => self s)
  · refine .ite (fun _ => self s) (fun _ => ?_)
    split
    · exact .ite (fun _ => outStoreError_keepsLaws _ _ s)
        (fun _ => (noteCorrection_keepsLaws read s).trans (assign_keepsLaws _ _ _ _ _ _ _))
    · exact self s

theorem grantOutbound_keepsLaws (l : LinkNo) (n : LaneNo) (read : KeyRead) (s : State) :
    s.keepsLaws (grantOutbound l n read s) := by
  unfold grantOutbound
  split
  · exact self s
  next f _ _ =>
    obtain ⟨rs, h⟩ := countMatch_touches l f (s.modLink l Link.dropOutHead)
    rw [h]
    refine .trans ?_ (.trans (disposeOut_keepsLaws l n read f (classify s l f) _) (drainCheck_keepsLaws l _))
    exact self s

theorem examineIn_keepsLaws (l : LinkNo) (n : LaneNo) (read : KeyRead) (f : Frame) (s : State) :
    s.keepsLaws (examineIn l n read f s) := by
  unfold examineIn
  split
  · exact .ite (fun _ => self s) (fun _ => self s)
  · split
    · exact self s
    · split
      · exact self s
      · unfold examineStream
        obtain ⟨c, h⟩ := noteCorrection_touches read s
        rw [h]
        exact .ite (fun _ => self s) fun _ => .ite (fun _ => inStoreError_keepsLaws _ _ s) fun _ =>
          .ite (fun _ => self s) (fun _ => self s)

theorem grantInbound_keepsLaws (l : LinkNo) (n : LaneNo) (read : KeyRead) (s : State) :
    s.keepsLaws (grantInbound l n read s) := by
  unfold grantInbound
  split
  · exact self s
  next f _ _ =>
    refine .trans ?_ (.trans (examineIn_keepsLaws l n read f _) (drainCheck_keepsLaws l _))
    exact self s

/-! ### Releases (R99 to R101) -/

/-- A head that leaves its list, once the link and the streams have what it leaves behind. -/
theorem headLeft_keepsLaws {s t : State} (h : s.keepsLaws t) (l : LinkNo) (it : Item) :
    s.keepsLaws (drainCheck l (itemLeft it t)) :=
  h.trans ((itemLeft_keepsLaws it t).trans (drainCheck_keepsLaws l _))

theorem releaseOutbound_keepsLaws (l : LinkNo) (s : State) : s.keepsLaws (releaseOutbound l s) := by
  have hleft : ∀ (it : Item) (f : Link → Link), s.keepsLaws (drainCheck l (itemLeft it (s.modLink l f))) :=
    fun it f => headLeft_keepsLaws (t := s.modLink l f) (self s) l it
  unfold releaseOutbound
  split
  · exact self s
  · exact .ite (fun _ => .ite (fun _ => hleft _ _) (fun _ => .ite (fun _ => self s) (fun _ => hleft _ _)))
      (fun _ => self s)

theorem flipSelector_keepsLaws (i : StreamNo) (k : SlotNo) (s : State) : s.keepsLaws (flipSelector i k s) := by
  have hgrace : ∀ (k : SlotNo) (x : State), x.keepsLaws (sendToGrace i k x) := fun k x =>
    .ite (fun _ => leaveInSlot_keepsLaws i k x) (fun _ => self x)
  refine .ite (fun _ => .raised (.trans ?_ (hgrace (otherSlot k) _)) _ _) (fun _ => self s)
  exact self s

theorem deliver_keepsLaws (l : LinkNo) (ref : KeyRef) (frame : Frame) (s : State) :
    s.keepsLaws (deliver l ref frame s) := by
  refine .ite (fun _ => .trans ?_ (flipSelector_keepsLaws _ _ _)) (fun _ => self s)
  exact self s

theorem judgeHead_keepsLaws (l : LinkNo) (it : Item) (s : State) : s.keepsLaws (judgeHead l it s) := by
  unfold judgeHead
  split
  · exact self s
  · unfold judgeVerify
    split
    · exact .ite (fun _ => deliver_keepsLaws l _ _ s) (fun _ => self s)
    · exact .ite (fun _ => self s) fun _ => .ite (fun _ => .raised (self s) _ _) (fun _ => self s)
  · exact self s

theorem releaseInbound_keepsLaws (l : LinkNo) (s : State) : s.keepsLaws (releaseInbound l s) := by
  have hdropped : ∀ f : Link → Link, s.keepsLaws (s.modLink l f) := fun _ => self s
  unfold releaseInbound
  split
  · exact self s
  · exact .ite
      (fun _ => .ite (fun _ => headLeft_keepsLaws ((hdropped _).trans (judgeHead_keepsLaws l _ _)) l _)
        fun _ => .ite (fun _ => self s) (fun _ => headLeft_keepsLaws (hdropped _) l _))
      (fun _ => self s)

/-! ### ALARM, the self-test and resets -/

theorem triggersLegal_of_empty {s : State} (h : ∀ j, s.triggers.get j = .empty) : s.triggersLegal := by
  refine ⟨⟨fun j => ?_, fun j _ _ => ?_⟩, fun j => ?_⟩ <;> rw [h j]
  · exact List.nodup_nil
  · exact ⟨nofun, nofun⟩
  · exact Nat.zero_le _

theorem alarmEntry_keepsLaws (cause : AlarmCause) (s : State) : s.keepsLaws (alarmEntry cause s) := by
  have hstopped : ∀ x : State, x.keepsLaws (raiseLinksStopped s x) := fun x =>
    .foldl (fun y _ => .ite (fun _ => self y) (fun _ => .raised (self y) _ _)) _ x
  have hcleared : s.keepsLaws
      { s with arbiter := { s.arbiter with pointer := 0, count := 0 }, triggers := Vector.replicate 8 .empty } := by
    obtain ⟨htime, hsettings, hnotices, -⟩ := keepsLaws_of_count (s := s) 0 (Nat.zero_le 7)
    exact ⟨htime, hsettings, hnotices, fun _ => triggersLegal_of_empty fun j => get_replicate _ j⟩
  refine .raised (.trans ?_ (hstopped _)) _ _
  exact hcleared

theorem completeSelfTest_keepsLaws (passed : BitVec 8) (s : State) : s.keepsLaws (completeSelfTest passed s) := by
  unfold completeSelfTest
  extract_lets few pool noticed
  have hnoticed : s.keepsLaws noticed := .ite (fun _ => self s) (fun _ => .raised (t := pool) (self s) _ _)
  exact .ite (fun _ => hnoticed) fun _ => .ite (fun _ => hnoticed.trans (alarmEntry_keepsLaws _ _)) (fun _ => hnoticed)

theorem tamperByMode_keepsLaws (s : State) : s.keepsLaws (tamperByMode s) := by
  unfold tamperByMode
  split
  · exact self s
  · exact alarmEntry_keepsLaws _ s
  · exact self s
  · exact self s

theorem TimeBase.reset_inRange : TimeBase.reset.inRange :=
  ⟨by decide, by decide, by decide, by decide, by decide, by decide⟩

theorem State.reset_settingsInRange : State.reset.settingsInRange :=
  ⟨by decide, by decide, by decide, by decide, by decide, by decide⟩

/-- The reset columns are within the laws (R73, R92, R150, R157, R189). -/
theorem released_keepsLaws (kind : ResetKind) (address : BitVec 3) (rateHigh : Bool) (s : State) :
    s.keepsLaws (released kind address rateHigh s) := by
  refine ⟨fun _ => ?time, fun _ => ?settings, fun _ k _ => ?notices, fun _ => triggersLegal_of_empty fun j => ?triggers⟩
  case time => exact TimeBase.reset_inRange
  case settings => exact State.reset_settingsInRange
  case notices =>
    have hreset : (released kind address rateHigh s).notices.get k = Notice.reset := get_replicate _ k
    rw [hreset]
    exact ⟨rfl, rfl, rfl, rfl⟩
  case triggers => exact get_replicate _ j

/-! ### What TRIGGER_ARM's checks let pass (R158, R159) -/

theorem hasRepeat_eq_false_iff (xs : List Nat) : hasRepeat xs = false ↔ xs.Nodup := by
  induction xs with
  | nil => simp [hasRepeat]
  | cons x xs ih => simp [hasRepeat, ih]

theorem armedStream_eq_false_iff (s : State) (i : StreamNo) :
    armedStream s i = false ↔ ∀ j, i ∉ (s.triggers.get j).named.1 := by
  simp only [armedStream, List.any_eq_false, mem_toList_iff, forall_exists_index, forall_apply_eq_imp_iff]
  refine forall_congr' fun j => ?_
  cases s.triggers.get j <;> simp [TriggerSlot.named]

theorem armedLink_eq_false_iff (s : State) (l : LinkNo) :
    armedLink s l = false ↔ ∀ j, (s.triggers.get j).named.2 ≠ some l := by
  simp only [armedLink, List.any_eq_false, mem_toList_iff, forall_exists_index, forall_apply_eq_imp_iff]
  refine forall_congr' fun j => ?_
  cases s.triggers.get j <;> simp [TriggerSlot.named]

/-- No ARMED trigger names what an action names (R158 check 11). -/
theorem actionNamed_eq_false_iff (s : State) (c : TriggerCond) (a : TriggerAction) :
    actionNamed s a = false ↔ ∀ j, (TriggerSlot.armed c a).apart (s.triggers.get j) := by
  have hstreams : a.streams.any (armedStream s) = false ↔ ∀ j, ∀ i ∈ a.streams, i ∉ (s.triggers.get j).named.1 := by
    simp only [List.any_eq_false, Bool.not_eq_true, armedStream_eq_false_iff]
    exact ⟨fun h j i hi => h i hi j, fun h i hi j => h j i hi⟩
  have hlink : (a.link?.map (armedLink s)).getD false = false ↔
      ∀ j, ∀ l, a.link? = some l → (s.triggers.get j).named.2 ≠ some l := by
    cases a.link? with
    | none => simp
    | some l => simp [armedLink_eq_false_iff]
  rw [actionNamed, Bool.or_eq_false_iff, hstreams, hlink, ← forall_and]
  rfl

/-- The operands of a TRIGGER_ARM of fitting length are as many as it counts. -/
theorem length_armOperands {ps : List Byte} (hfits : triggerArmFits ps = true) :
    (armOperands ps).length = byteAt ps 10 := by
  simp only [triggerArmFits, Bool.and_eq_true, decide_eq_true_eq, beq_iff_eq] at hfits
  obtain ⟨hmin, hlen⟩ := hfits
  simp only [armOperands, List.length_map, List.length_drop]
  omega

theorem armAction_of_switch {ps : List Byte} (h : byteAt ps 9 = 0) :
    armAction ps = .switch ((armOperands ps).map (Fin.ofNat 64)) := by
  simp only [armAction, h]

theorem armAction_streams_of_link {ps : List Byte} (h : byteAt ps 9 ≠ 0) : (armAction ps).streams = [] := by
  unfold armAction
  split
  next hswitch => exact absurd hswitch h
  all_goals rfl

/-- What TRIGGER_ARM's checks let pass lists at most 8 streams, none twice, and names nothing that an ARMED trigger
names. -/
theorem triggerArm_of_passes {ps : List Byte} {s : State} (hfits : triggerArmFits ps = true)
    (h : firstFailing (triggerArmChecks ps s) = none) :
    (armAction ps).streams.Nodup ∧ (armAction ps).streams.length ≤ 8 ∧ actionNamed s (armAction ps) = false := by
  simp only [triggerArmChecks, firstFailing_cons_eq_none_iff] at h
  obtain ⟨-, -, -, -, hlist, hstreams, -, -, -, -, -, hnamed, -⟩ := h
  by_cases hswitch : byteAt ps 9 = 0
  · simp only [hswitch, decide_true, Bool.true_and, Bool.or_eq_false_iff, decide_eq_false_iff_not, not_lt,
      hasRepeat_eq_false_iff] at hlist
    simp only [hswitch, decide_true, Bool.true_and, List.any_eq_false, decide_eq_true_eq, not_le] at hstreams
    obtain ⟨⟨-, hcount⟩, hnodup⟩ := hlist
    refine ⟨?_, ?_, hnamed⟩ <;> rw [armAction_of_switch hswitch]
    · refine hnodup.map_on fun v hv w hw hvw => ?_
      have hval := congrArg Fin.val hvw
      simpa [Fin.ofNat, Nat.mod_eq_of_lt (hstreams v hv), Nat.mod_eq_of_lt (hstreams w hw)] using hval
    · simpa [TriggerAction.streams, length_armOperands hfits] using hcount
  · rw [armAction_streams_of_link hswitch]
    exact ⟨List.nodup_nil, Nat.zero_le _, hnamed⟩

theorem triggerArm_keepsLaws {ps : List Byte} (s : State) (hfits : triggerArmFits ps = true) :
    answerLeaves s.keepsLaws (reqTriggerArm.judge ps s) := by
  refine answerLeaves_of_passes fun hpass => answerLeaves_done ⟨id, id, id, fun hs => ?_⟩
  obtain ⟨hnodup, hlen, hnamed⟩ := triggerArm_of_passes hfits hpass
  exact hs.setTrigger hnodup hlen fun j _ => (actionNamed_eq_false_iff s _ _).1 hnamed j

/-! ### The requests that write what a law reads -/

theorem deviceSetup_keepsLaws (ps : List Byte) (s : State) :
    answerLeaves s.keepsLaws (reqDeviceSetup.judge ps s) := by
  refine answerLeaves_of_passes fun hpass => answerLeaves_done ⟨id, ?_, id, id⟩
  simp only [firstFailing_cons_eq_none_iff, envelopeType_passes_iff, rotation_passes_iff] at hpass
  obtain ⟨⟨hlow, htag⟩, ⟨hrotation, hrotation'⟩, -⟩ := hpass
  rintro ⟨-, -, -, -, -, hcount⟩
  exact ⟨hlow, htag, numAt_lt ps 0 2, hrotation, hrotation', hcount⟩

theorem readNotices_keepsLaws (k : Fin 15) (s : State) : s.keepsLaws (clearNotice k s) := by
  refine ⟨id, id, fun hs m => ?_, id⟩
  rw [clearNotice, get_putAt]
  split
  · exact fun _ => ⟨rfl, rfl, rfl, rfl⟩
  · exact hs m

/-- The enables and masks are no part of the law of R189. -/
theorem noticeSetup_keepsLaws (enables attention : Nat) (mask : BitVec 8) (s : State) :
    s.keepsLaws { s with notices := setupNotices enables attention s.notices, linkChangeMask := mask } := by
  refine ⟨id, id, fun hs => ?_, id⟩
  have hwritten : ∀ (ks : List (Fin 15)) (v : Vector Notice 15), (∀ k, (v.get k).legal) → ∀ m,
      ((ks.foldl (fun v k => putAt v k
        { v.get k with enabled := enables.testBit k.1, attention := attention.testBit k.1 }) v).get m).legal := by
    intro ks
    induction ks with
    | nil => exact fun v hv => hv
    | cons k ks ih =>
      refine fun v hv => ih _ fun m => ?_
      rw [get_putAt]
      split
      · exact hv k
      · exact hv m
  exact hwritten _ _ hs

theorem setTime_keepsLaws {seconds : Nat} (h : seconds < 2 ^ 32) (s : State) : s.keepsLaws (setTime seconds s) := by
  refine .trans (keepsLaws_of_time ?_) (triggersEvent_keepsLaws _ _)
  rintro ⟨-, -, hrest⟩
  exact ⟨h, Nat.zero_le _, hrest⟩

/-- A trim byte that is not 0x80 is −127 to +127 (R155). -/
theorem signedByte_bounds {b : Nat} (hb : b < 256) (hne : b ≠ 0x80) : -127 ≤ signedByte b ∧ signedByte b ≤ 127 := by
  unfold signedByte
  split <;> omega

theorem timeTrim_keepsLaws (ps : List Byte) (s : State) : answerLeaves s.keepsLaws (reqTimeTrim.judge ps s) := by
  refine answerLeaves_of_passes fun hpass => answerLeaves_done (keepsLaws_of_time ?_)
  simp only [firstFailing_cons_eq_none_iff, beq_eq_false_iff_ne] at hpass
  obtain ⟨hlow, hhigh⟩ := signedByte_bounds (byteAt_lt ps 0) hpass.1
  rintro ⟨hseconds, hmicros, hwindow, -, -, hout⟩
  exact ⟨hseconds, hmicros, hwindow, hlow, hhigh, hout⟩

theorem zeroScope_keepsLaws (scope : Nat) (l : LinkNo) (i : StreamNo) (s : State) :
    s.keepsLaws (zeroScope scope l i s) := by
  unfold zeroScope
  split
  · refine keepsLaws_of_time (s := s) ?_
    rintro ⟨hseconds, hmicros, hwindow, htrim, htrim', -⟩
    exact ⟨hseconds, hmicros, hwindow, htrim, htrim', Nat.two_pow_pos 48⟩
  · exact self s
  · exact self s
  · exact self s
  · exact self s
  · exact self s

/-! ### The requests beside them -/

theorem openStream_keepsLaws (ps : List Byte) (s : State) : s.keepsLaws (openStream ps s) := by
  unfold openStream
  split <;> exact self s

theorem closeStream_keepsLaws (d : Dir) (i : StreamNo) (s : State) : s.keepsLaws (closeStream d i s) := by
  cases d with
  | out => exact .ite (fun _ => .raised (self s) _ _) (fun _ => self s)
  | inn => exact .ite (fun _ => .raised (self s) _ _) (fun _ => self s)

theorem startLoad_keepsLaws (j : Job) (s : State) : s.keepsLaws (beginLoading j (appendJob j s)) := by
  have happended : s.keepsLaws (appendJob j s) := .ite (fun _ => resetCount_keepsLaws s) (fun _ => self s)
  unfold beginLoading
  split <;> exact happended

theorem removeJob_keepsLaws (d : Dir) (i : StreamNo) (k : SlotNo) (s : State) : s.keepsLaws (removeJob d i k s) :=
  .ite (fun _ => resetCount_keepsLaws s) (fun _ => self s)

theorem retireKey_keepsLaws (d : Dir) (i : StreamNo) (k : SlotNo) (s : State) : s.keepsLaws (retireKey d i k s) := by
  cases d with
  | out =>
    simp only [retireKey, retireOut]
    split
    · have hcancelled : s.keepsLaws (if jobWorking s .out i k then markCancelled .out i k s
          else (removeJob .out i k s).modOutSlot i k fun _ => OutSlot.empty .cancelled) :=
        .ite (fun _ => self s) (fun _ => removeJob_keepsLaws .out i k s)
      exact hcancelled
    · exact leaveOutSlot_keepsLaws i k s
    · exact leaveActive_keepsLaws i k s
    · exact self s
    · exact self s
  | inn =>
    simp only [retireKey, retireIn]
    split
    · exact .ite (fun _ => self s) (fun _ => removeJob_keepsLaws .inn i k s)
    · exact leaveInSlot_keepsLaws i k s
    · exact leaveInSlot_keepsLaws i k s
    · exact leaveInSlot_keepsLaws i k s
    · exact self s
    · exact self s

theorem judgeSwitch_keepsLaws (i : StreamNo) (s : State) : answerLeaves s.keepsLaws (judgeSwitch i s) := by
  have hrequested : ∀ a, answerLeaves s.keepsLaws (answerDone (requestSwitch i a s)) := fun a =>
    answerLeaves_done (requestSwitch_keepsLaws i a s)
  unfold judgeSwitch
  split
  · exact answerLeaves_refuse _ _
  · exact answerLeaves_refuse _ _
  · exact answerLeaves_refuse _ _
  · split
    · exact hrequested _
    · exact hrequested _
    · exact answerLeaves_refuse _ _

/-- Every request of Table 10-4 of fitting length that is not refused keeps the laws. -/
theorem requestTable_keepsLaws :
    ∀ r ∈ requestTable, ∀ (ps : List Byte) (s : State), r.fits ps = true →
      answerLeaves s.keepsLaws (r.judge ps s) := by
  simp only [requestTable, List.forall_mem_append, List.forall_mem_cons]
  refine ⟨⟨⟨⟨⟨⟨?poll, ?identify, ?readStatus, ?readNotices, ?noticeSetup, ?readCounters, ?deviceSetup, nofun⟩,
    ?linkSetup, ?rampSet, ?linkStart, ?linkStop, ?readLink, ?readLinkChanges, nofun⟩,
    ?rulePut, ?ruleDrop, ?readRule, nofun⟩,
    ?streamOpen, ?streamClose, ?readStream, ?keyLoad, ?keyRetire, ?keySwitch, ?kwkLoad, ?kwkErase, nofun⟩,
    ?timeSet, ?timeTrim, ?timeRead, ?triggerArm, ?triggerCancel, ?triggerRelease, ?readTrigger, nofun⟩,
    ?restart, ?zeroize, ?alarmClear, ?readRetained, nofun⟩
  all_goals intro ps s hfits
  case readNotices => exact answerLeaves_checked (answerLeaves_data _ (readNotices_keepsLaws _ s))
  case noticeSetup => exact answerLeaves_checked (answerLeaves_done (noticeSetup_keepsLaws _ _ _ s))
  case readCounters =>
    exact answerLeaves_checked
      (answerLeaves_data _ (.ite (fun _ => self s) (fun _ => zeroScope_keepsLaws _ _ _ s)))
  case deviceSetup => exact deviceSetup_keepsLaws ps s
  case linkStop =>
    exact answerLeaves_checked
      (answerLeaves_done (.ite (fun _ => drainLink_keepsLaws _ _ s) (fun _ => stopLinkNow_keepsLaws _ _ s)))
  case streamOpen => exact answerLeaves_checked (answerLeaves_done (openStream_keepsLaws ps s))
  case streamClose => exact answerLeaves_checked (answerLeaves_done (closeStream_keepsLaws _ _ s))
  case keyLoad => exact answerLeaves_checked (answerLeaves_done (startLoad_keepsLaws _ s))
  case keyRetire => exact answerLeaves_checked (answerLeaves_done (retireKey_keepsLaws _ _ _ s))
  case keySwitch => exact answerLeaves_checked (judgeSwitch_keepsLaws _ s)
  case timeSet => exact answerLeaves_done (setTime_keepsLaws (numAt_lt ps 0 4) s)
  case timeTrim => exact timeTrim_keepsLaws ps s
  case triggerArm => exact triggerArm_keepsLaws s hfits
  case triggerCancel | triggerRelease =>
    exact answerLeaves_checked (answerLeaves_done (setTrigger_keepsLaws (.inl rfl) (Nat.zero_le _)))
  case zeroize => exact answerLeaves_done (.ite (fun _ => alarmEntry_keepsLaws _ s) (fun _ => self s))
  case readStream => exact answerLeaves_checked (answerLeaves_ok _ (self s))
  case poll | identify | readStatus | readLinkChanges | timeRead | readRetained =>
    exact answerLeaves_data _ (self s)
  case readLink | readRule | readTrigger => exact answerLeaves_checked (answerLeaves_data _ (self s))
  case restart => exact answerLeaves_done (self s)
  case linkSetup | rampSet | linkStart | rulePut | ruleDrop | kwkLoad | kwkErase | alarmClear =>
    exact answerLeaves_checked (answerLeaves_done (self s))

/-! ### What arrives on the management line (R179 to R183) -/

/-- What a byte or a whole record can do: change the line alone, or have a request of Table 10-4 of fitting length
accepted and answered. -/
inductive State.lineStep (s : State) : State → Prop
  | line (f : Line → Line) : s.lineStep (s.modLine f)
  | answered {r : Request} {ps : List Byte} {content : Option ReplyContent} {t : State} (hr : r ∈ requestTable)
      (hfits : r.fits ps = true) (hanswer : r.judge ps s = .ok (content, t)) (f : Line → Line) :
      s.lineStep (t.modLine f)

theorem State.lineStep.self (s : State) : s.lineStep s := .line id

theorem answerRequest_lineStep {r : Request} (hr : r ∈ requestTable) (ps : List Byte) (s : State) :
    s.lineStep (answerRequest r ps s) := by
  unfold answerRequest
  split
  · exact .line _
  next content t hanswer =>
    unfold judgement at hanswer
    split at hanswer
    · cases hanswer
    next hfits =>
      split at hanswer
      · cases hanswer
      · exact .answered hr (not_not.1 hfits) hanswer _

theorem recordArrives_lineStep (len : Nat) {f : State → State} {s : State} (hf : s.lineStep (f s)) :
    s.lineStep (recordArrives len f s) := by
  unfold recordArrives
  split
  · exact .self s
  · split
    · exact .line _
    · exact hf

theorem takeRecord_lineStep (body : List Byte) (s : State) : s.lineStep (takeRecord body s) := by
  unfold takeRecord
  split
  · exact .line _
  · split
    next hrequest => exact answerRequest_lineStep (List.mem_of_find?_eq_some hrequest) _ s
    next =>
      unfold answerUnknown setReply
      exact .line _

theorem judgeRecord_lineStep (head : Byte) (body : List Byte) (check : Byte) (s : State) :
    s.lineStep (judgeRecord head body check s) := by
  unfold judgeRecord
  split
  · exact .line _
  · split
    · exact takeRecord_lineStep body s
    · exact .line _

theorem receiveByte_lineStep (byte : Byte) (s : State) : s.lineStep (receiveByte byte s) := by
  unfold receiveByte
  split
  · exact .line _
  · unfold assembleByte
    split
    · split
      · exact .line _
      · exact .self s
    · exact .line _
    · split
      · exact .line _
      · exact .line _
    · split
      · exact .line _
      · exact .line _
    · exact judgeRecord_lineStep _ _ byte s

theorem State.lineStep.keepsLaws {s t : State} (h : s.lineStep t) : s.keepsLaws t := by
  cases h with
  | line f => exact State.keepsLaws.self s
  | @answered _ _ _ t hr hfits hanswer f =>
    have hkept : s.keepsLaws t := requestTable_keepsLaws _ hr _ s hfits _ _ hanswer
    exact hkept

/-! ### Every command -/

theorem keepsLaws_of_next {s t u : State} (h : (.next u : Host.Outcome State Fault Refusal) = .next t)
    (hu : s.keepsLaws u) : s.keepsLaws t := by
  cases h
  exact hu

/-- A command that does nothing while a reset is held (R166). -/
theorem keepsLaws_of_unlessHeld {f : State → State} {s t : State}
    (h : (.next (unlessHeld f s) : Host.Outcome State Fault Refusal) = .next t) (hf : s.keepsLaws (f s)) :
    s.keepsLaws t :=
  keepsLaws_of_next h (.ite (fun _ => self s) (fun _ => hf))

/-- Every command keeps the laws. -/
theorem exec_keepsLaws (c : Instr) {s t : State} (h : exec c s = .next t) : s.keepsLaws t := by
  cases c with
  | poll | identify | readStatus | readNotices | noticeSetup | readCounters | deviceSetup | linkSetup | rampSet
  | linkStart | linkStop | readLink | readLinkChanges | rulePut | ruleDrop | readRule | streamOpen | streamClose
  | readStream | keyLoad | keyRetire | keySwitch | kwkLoad | kwkErase | timeSet | timeTrim | timeRead
  | triggerArm | triggerCancel | triggerRelease | readTrigger | restart | zeroize | alarmClear | readRetained =>
    exact keepsLaws_of_next h
      (recordArrives_lineStep _ (answerRequest_lineStep (by simp [requestTable]) _ s)).keepsLaws
  | unknownRequest code ps =>
    exact keepsLaws_of_next h (recordArrives_lineStep _ (takeRecord_lineStep _ s)).keepsLaws
  | recordCheckFailed head body check =>
    exact keepsLaws_of_next h (recordArrives_lineStep _ (judgeRecord_lineStep _ _ _ s)).keepsLaws
  | recordIgnored head body check =>
    exact keepsLaws_of_next h (recordArrives_lineStep _ (judgeRecord_lineStep _ _ _ s)).keepsLaws
  | byteReceived byte => exact keepsLaws_of_unlessHeld h (receiveByte_lineStep byte s).keepsLaws
  | recordLenInvalid len =>
    refine keepsLaws_of_unlessHeld h ?_
    split
    · exact .ite (fun _ => self s) (fun _ => self s)
    · exact self s
  | framingError =>
    refine keepsLaws_of_unlessHeld h (.ite (fun _ => self s) (fun _ => ?_))
    unfold badStopBit
    split <;> exact self s
  | recordGapTimeout =>
    refine keepsLaws_of_unlessHeld h ?_
    split <;> exact self s
  | overlapByte byte => exact keepsLaws_of_unlessHeld h (.ite (fun _ => self s) (fun _ => self s))
  | replyEnd =>
    exact keepsLaws_of_unlessHeld h (.ite (fun _ => .ite (fun _ => self s) (fun _ => self s)) (fun _ => self s))
  | powerOn => exact keepsLaws_of_next h (self s)
  | pinReset => exact keepsLaws_of_next h (self s)
  | resetRelease address rateHigh =>
    refine keepsLaws_of_next h ?_
    split
    · exact released_keepsLaws _ _ _ s
    · exact self s
  | selfTestComplete passed =>
    exact keepsLaws_of_unlessHeld h (.ite (fun _ => completeSelfTest_keepsLaws passed s) (fun _ => self s))
  | tamperAssert =>
    refine keepsLaws_of_next h (.ite (fun _ => self s) fun _ => .ite (fun _ => self s) fun _ => ?_)
    exact tamperByMode_keepsLaws { s with tamperAsserted := true, kwk := none }
  | tamperDeassert => exact keepsLaws_of_next h (self s)
  | referenceTick => exact keepsLaws_of_unlessHeld h (tick_keepsLaws s)
  | rampStageEnd link =>
    refine keepsLaws_of_unlessHeld h ?_
    split
    · exact .ite (fun _ => self s) (fun _ => self s)
    · exact self s
  | pauseRefresh link =>
    refine keepsLaws_of_unlessHeld h ?_
    split
    · exact .ite (fun _ => self s) (fun _ => self s)
    · exact self s
  | graceExpiry stream slot =>
    exact keepsLaws_of_unlessHeld h (.ite (fun _ => leaveInSlot_keepsLaws _ _ s) (fun _ => self s))
  | lifetimeExpiry stream =>
    refine keepsLaws_of_unlessHeld h ?_
    split
    · refine .ite (fun _ => ?_) (fun _ => self s)
      obtain ⟨o, n, hparts⟩ := secondAtSlot_touches stream _ s
      exact of_raises (secondAtSlot_raisesExactly stream _ s) (by rw [hparts]; rfl)
    · exact self s
  | pulseEdge => exact keepsLaws_of_unlessHeld h (edge_keepsLaws s)
  | triggerFire slot event =>
    refine keepsLaws_of_unlessHeld h ?_
    split
    next harmed => exact .ite (fun _ => fireTrigger_keepsLaws _ harmed) (fun _ => self s)
    next => exact self s
  | faceUp link side =>
    refine keepsLaws_of_unlessHeld h (.ite (fun _ => self s) fun _ => .trans ?_ (noteChange_keepsLaws link side _))
    exact self s
  | faceDown link side =>
    refine keepsLaws_of_unlessHeld h (.ite (fun _ => .trans ?_ (noteChange_keepsLaws link side _)) fun _ => self s)
    exact self s
  | frameReceived link side frame => exact keepsLaws_of_unlessHeld h (.ite (fun _ => self s) (fun _ => self s))
  | pauseSend link => exact keepsLaws_of_unlessHeld h (.ite (fun _ => self s) (fun _ => self s))
  | transmissionEnd link side => exact keepsLaws_of_unlessHeld h (self s)
  | outboundGrant read =>
    refine keepsLaws_of_unlessHeld h ?_
    split
    · exact .ite (fun _ => (noteTrafficGrant_keepsLaws _ s).trans (grantOutbound_keepsLaws _ _ read _))
        (fun _ => self s)
    · exact self s
  | inboundGrant read =>
    refine keepsLaws_of_unlessHeld h ?_
    split
    · exact .ite (fun _ => self s)
        (fun _ => (noteTrafficGrant_keepsLaws _ s).trans (grantInbound_keepsLaws _ _ read _))
    · exact self s
  | keyPreparationGrant =>
    refine keepsLaws_of_unlessHeld h ?_
    split
    · exact (resetCount_keepsLaws s).trans (grantKeyUnit_keepsLaws _ _)
    · exact self s
  | laneCompletion lane =>
    refine keepsLaws_of_unlessHeld h ?_
    split <;> exact self s
  | keyJobCompletion =>
    refine keepsLaws_of_unlessHeld h ?_
    split
    · exact completeJob_keepsLaws _ _ s
    · exact self s
  | outboundRelease link => exact keepsLaws_of_unlessHeld h (releaseOutbound_keepsLaws link s)
  | inboundRelease link => exact keepsLaws_of_unlessHeld h (releaseInbound_keepsLaws link s)
  | drainComplete link => exact keepsLaws_of_unlessHeld h (drainCheck_keepsLaws link s)

theorem step_keepsLaws {s t : State} (h : step s = .next t) : s.keepsLaws t := by
  unfold step at h
  split at h
  · cases h
    exact self s
  next rest _ =>
    have hfront : State.keepsLaws { s with pending := rest } t := exec_keepsLaws _ h
    exact hfront

/-- Settles O9: the count moves within its ranges, the checks of DEVICE_SETUP and TIME_TRIM keep theirs, and a kind gains
members only as it becomes pending. -/
theorem rangesAndNoticeSetsAreKept : Obligations.RangesAndNoticeSetsAreKept := by
  intro s t htime hsettings hnotices hstep
  obtain ⟨ktime, ksettings, knotices, -⟩ := step_keepsLaws hstep
  exact ⟨ktime htime, ksettings hsettings, knotices hnotices⟩

/-- Settles O16: TRIGGER_ARM's checks keep what it names apart, and every other change of a slot gives up what the slot
names or keeps it. -/
theorem triggersStayDisjoint : Obligations.TriggersStayDisjoint := by
  intro s t hs hstep
  obtain ⟨-, -, -, ktriggers⟩ := step_keepsLaws hstep
  exact ktriggers hs

end Sys2Proof.Machine
end

section
/-! SUPPORT. The time base requests and the trigger requests (R154 to R159, R162, R163): requests accepted in RUNNING and
ALARM, requests of a length that does not fit, and what TRIGGER_ARM's parameters spell. -/

namespace Sys2Proof.Machine

/-! ### Taking a request -/

/-- A request of fitting length that RUNNING and ALARM let through, and that its own checks accept, is answered DONE (R181,
R183, R185). -/
theorem takeRequest_done_of_reads {r : Request} {ps : List Byte} {s t : State} (hs : s.reads)
    (hadmitted : alarmAdmits.contains r.code = true) (hfits : r.fits ps = true)
    (hjudge : r.judge ps s = answerDone t) : takeRequest r ps s = answersDone r.code t := by
  obtain ⟨⟨hreset, hreply⟩, hmode⟩ := hs
  have hrefusal : modeRefusal s.mode r.code = none := by
    rcases hmode with h | h
    · rw [h]; rfl
    · rw [h, modeRefusal, if_pos hadmitted]
  have hanswer : answerRequest r ps s = answersDone r.code t := by
    simp only [answerRequest, judgement, hfits, not_true_eq_false, if_false, hrefusal, hjudge]
    rfl
  simp only [takeRequest, recordArrives, hreset, hreply, Option.isSome_none, Bool.false_eq_true, if_false, hanswer]

/-- A request of a length that does not fit is MALFORMED, in every mode (R183). -/
theorem takeRequest_malformed {r : Request} {ps : List Byte} {s : State} (hs : s.listens) (hfits : r.fits ps = false) :
    takeRequest r ps s = answersRefused r.code 0x01 0x00 s := by
  obtain ⟨hreset, hreply⟩ := hs
  have hanswer : answerRequest r ps s = answersRefused r.code 0x01 0x00 s := by
    simp only [answerRequest, judgement, hfits, Bool.false_eq_true, not_false_eq_true, if_true]
    rfl
  simp only [takeRequest, recordArrives, hreset, hreply, Option.isSome_none, Bool.false_eq_true, if_false, hanswer]

/-! ### READ_TRIGGER (R163) -/

theorem exec_readTrigger (j : TriggerNo) {s : State} (hs : s.reads) :
    exec (.readTrigger (bytesOfNat 1 j.1)) s =
      .next (answersData 0x56 (bytesOfNat 1 j.1 ++ (s.triggers.get j).encoded) s) := by
  have hslot : byteAt (bytesOfNat 1 j.1) 0 = j.1 := byteAt_whole _ (by omega)
  have hjudge : reqReadTrigger.judge (bytesOfNat 1 j.1) s =
      answerBytes (bytesOfNat 1 j.1 ++ (s.triggers.get j).encoded) s := by
    dsimp only [reqReadTrigger]
    rw [checked_cons_of_passes _ _ _ (by rw [hslot]; simp), checked_nil, triggerAt_of_byteAt hslot, hslot]
  exact congrArg Host.Outcome.next (takeRequest_data hs (by decide) (by simp [reqReadTrigger]) hjudge)

/-- Settles O36: READ_TRIGGER answers the slot's encoding, which is the table of R163 for each kind and action. -/
theorem triggersAreRead : Obligations.TriggersAreRead := by
  intro j s hs condBytes actionBytes
  have hcond : ∀ c, condBytes c = c.encoded := fun c => by cases c <;> rfl
  have haction : ∀ a, actionBytes a = a.encoded := fun a => by cases a <;> rfl
  rw [exec_readTrigger j hs]
  cases s.triggers.get j with
  | empty => rfl
  | armed c a => simp only [hcond, haction, TriggerSlot.encoded]
  | faulted c a failing reason => simp only [hcond, haction, TriggerSlot.encoded]

/-! ### TRIGGER_CANCEL and TRIGGER_RELEASE (R162) -/

theorem TriggerSlot.isArmed_iff (x : TriggerSlot) : x.isArmed = true ↔ ∃ c a, x = .armed c a := by
  cases x <;> simp [TriggerSlot.isArmed]

theorem TriggerSlot.isFaulted_iff (x : TriggerSlot) : x.isFaulted = true ↔ ∃ c a f r, x = .faulted c a f r := by
  cases x <;> simp [TriggerSlot.isFaulted]

/-- A request that empties a trigger slot for which `may` holds: what TRIGGER_CANCEL and TRIGGER_RELEASE have in common. -/
def emptyingRequest (code : Byte) (may : TriggerSlot → Bool) : Request :=
  { code := code, fits := lenIs 2
    judge := fun ps s =>
      checked
        [(decide (8 ≤ byteAt ps 0), badParameter 0x14), (!may (s.triggers.get (triggerAt ps 0)), wrongState 0x12)]
        (answerDone (s.setTrigger (triggerAt ps 0) .empty)) }

theorem exec_triggerCancel_eq (ps : List Byte) (s : State) :
    exec (.triggerCancel ps) s = .next (takeRequest (emptyingRequest 0x54 TriggerSlot.isArmed) ps s) := rfl

theorem exec_triggerRelease_eq (ps : List Byte) (s : State) :
    exec (.triggerRelease ps) s = .next (takeRequest (emptyingRequest 0x55 TriggerSlot.isFaulted) ps s) := rfl

section Emptying

variable {s : State} (hs : s.serves) (code : Byte) (may : TriggerSlot → Bool) {ps : List Byte}
include hs

theorem emptyingRequest_malformed (hlen : ps.length ≠ 1) :
    takeRequest (emptyingRequest code may) ps s = answersRefused code 0x01 0x00 s := by
  obtain ⟨hlistens, -⟩ := hs
  exact takeRequest_malformed hlistens (by simpa [emptyingRequest, lenIs] using hlen)

theorem emptyingRequest_noSlot (hlen : ps.length = 1) (hslot : 8 ≤ byteAt ps 0) :
    takeRequest (emptyingRequest code may) ps s = answersRefused code 0x04 0x14 s := by
  have hjudge : (emptyingRequest code may).judge ps s = refuse (badParameter 0x14) :=
    checked_cons_of_fails _ _ _ (decide_eq_true hslot)
  exact takeRequest_refused hs (by simp [emptyingRequest, hlen]) hjudge

variable {j : TriggerNo}

theorem emptyingRequest_wrongState (hmay : may (s.triggers.get j) = false) :
    takeRequest (emptyingRequest code may) (bytesOfNat 1 j.1) s = answersRefused code 0x05 0x12 s := by
  have hslot : byteAt (bytesOfNat 1 j.1) 0 = j.1 := byteAt_whole _ (by omega)
  have hjudge : (emptyingRequest code may).judge (bytesOfNat 1 j.1) s = refuse (wrongState 0x12) := by
    dsimp only [emptyingRequest]
    rw [checked_cons_of_passes _ _ _ (by rw [hslot]; simp),
      checked_cons_of_fails _ _ _ (by rw [triggerAt_of_byteAt hslot, hmay]; rfl)]
  exact takeRequest_refused hs (by simp [emptyingRequest]) hjudge

theorem emptyingRequest_empties (hmay : may (s.triggers.get j) = true) :
    takeRequest (emptyingRequest code may) (bytesOfNat 1 j.1) s = answersDone code (s.setTrigger j .empty) := by
  have hslot : byteAt (bytesOfNat 1 j.1) 0 = j.1 := byteAt_whole _ (by omega)
  have hjudge : (emptyingRequest code may).judge (bytesOfNat 1 j.1) s = answerDone (s.setTrigger j .empty) := by
    dsimp only [emptyingRequest]
    rw [checked_cons_of_passes _ _ _ (by rw [hslot]; simp),
      checked_cons_of_passes _ _ _ (by rw [triggerAt_of_byteAt hslot, hmay]; rfl), checked_nil,
      triggerAt_of_byteAt hslot]
  exact takeRequest_done hs (by simp [emptyingRequest]) hjudge

end Emptying

/-- Settles O35: both requests empty the slot they name, TRIGGER_CANCEL where it is ARMED and TRIGGER_RELEASE where it is
FAULTED. -/
theorem triggersAreCancelledAndReleased : Obligations.TriggersAreCancelledAndReleased := by
  intro ps s hs
  rw [exec_triggerCancel_eq, exec_triggerRelease_eq]
  refine ⟨fun hlen => ?malformed, fun hlen hslot => ?noSlot, ?slot, rfl⟩
  case malformed => rw [emptyingRequest_malformed hs _ _ hlen, emptyingRequest_malformed hs _ _ hlen]; trivial
  case noSlot => rw [emptyingRequest_noSlot hs _ _ hlen hslot, emptyingRequest_noSlot hs _ _ hlen hslot]; trivial
  case slot =>
    rintro j rfl
    refine ⟨fun hnot => ?notArmed, fun harmed => ?armed, fun hnot => ?notFaulted, fun hfaulted => ?faulted⟩
    case notArmed =>
      rw [emptyingRequest_wrongState hs]
      exact Bool.eq_false_iff.2 fun h => by
        obtain ⟨c, a, h⟩ := (TriggerSlot.isArmed_iff _).1 h
        exact hnot c a h
    case armed => rw [emptyingRequest_empties hs _ _ ((TriggerSlot.isArmed_iff _).2 harmed)]; rfl
    case notFaulted =>
      rw [emptyingRequest_wrongState hs]
      exact Bool.eq_false_iff.2 fun h => by
        obtain ⟨c, a, f, r, h⟩ := (TriggerSlot.isFaulted_iff _).1 h
        exact hnot c a f r h
    case faulted => rw [emptyingRequest_empties hs _ _ ((TriggerSlot.isFaulted_iff _).2 hfaulted)]; rfl

/-! ### The time base requests (R154 to R156) -/

theorem exec_timeSet {seconds : Nat} {s : State} (hs : s.reads) (h : seconds < 2 ^ 32) :
    exec (.timeSet (bytesOfNat 4 seconds)) s = .next (answersDone 0x50 (setTime seconds s)) := by
  have hjudge : reqTimeSet.judge (bytesOfNat 4 seconds) s = answerDone (setTime seconds s) := by
    dsimp only [reqTimeSet]
    rw [numAt_whole 4 seconds h]
  exact congrArg Host.Outcome.next (takeRequest_done_of_reads hs (by decide) (by simp [reqTimeSet]) hjudge)

/-- A byte read as a signed number is its two's complement value (R155). -/
theorem signedByte_toNat (b : Byte) : signedByte b.toNat = b.toInt := by
  unfold signedByte
  rw [BitVec.toInt_eq_toNat_cond]
  split <;> split <;> omega

theorem exec_timeTrim {trim : Byte} (discipline : Byte) {s : State} (hs : s.reads) (htrim : trim ≠ 0x80) :
    exec (.timeTrim [trim, discipline]) s =
      .next (answersDone 0x51 (setTrim trim.toInt (decide (discipline ≠ 0)) s)) := by
  have hfirst : byteAt [trim, discipline] 0 = trim.toNat := rfl
  have hsecond : decide (byteAt [trim, discipline] 1 ≠ 0) = decide (discipline ≠ 0) :=
    decide_eq_decide.2 (not_congr (BitVec.toNat_inj (y := 0)))
  have hpass : (byteAt [trim, discipline] 0 == 0x80) = false :=
    beq_eq_false_iff_ne.2 fun h => htrim (BitVec.eq_of_toNat_eq h)
  have hjudge : reqTimeTrim.judge [trim, discipline] s =
      answerDone (setTrim trim.toInt (decide (discipline ≠ 0)) s) := by
    dsimp only [reqTimeTrim]
    rw [checked_cons_of_passes _ _ _ hpass, checked_nil, hsecond, hfirst, signedByte_toNat]
  exact congrArg Host.Outcome.next (takeRequest_done_of_reads hs (by decide) (by rfl) hjudge)

theorem exec_timeRead {s : State} (hs : s.reads) :
    exec (.timeRead []) s = .next (answersData 0x52 (timeData s.time) s) :=
  congrArg Host.Outcome.next (takeRequest_data hs (by decide) (by rfl) rfl)

/-! ### TRIGGER_ARM (R158, R159) -/

/-- What an action names, as operands. -/
def TriggerAction.operands : TriggerAction → List Nat
  | .switch streams => streams.map Fin.val
  | .start l => [l.1]
  | .stopDrain l => [l.1]
  | .stopNow l => [l.1]

/-- An action's number (R157). -/
def TriggerAction.code : TriggerAction → Nat
  | .switch _ => 0
  | .start _ => 1
  | .stopDrain _ => 2
  | .stopNow _ => 3

theorem TriggerAction.code_le (a : TriggerAction) : a.code ≤ 3 := by cases a <;> simp [TriggerAction.code]

theorem TriggerAction.encoded_eq (a : TriggerAction) :
    a.encoded = bytesOfNat 1 a.code ++ (bytesOfNat 1 a.operands.length ++ a.operands.flatMap (bytesOfNat 1)) := by
  cases a <;> simp [TriggerAction.encoded, TriggerAction.operands, TriggerAction.code, bytesOfNat, List.flatMap_map]

theorem TriggerAction.operands_lt (a : TriggerAction) : ∀ v ∈ a.operands, v < 64 := by
  cases a <;> simp [TriggerAction.operands] <;> omega

/-- Numbers of one byte each read back. -/
theorem toNat_flatMap_bytesOfNat {vs : List Nat} (h : ∀ v ∈ vs, v < 256) :
    (vs.flatMap (bytesOfNat 1)).map BitVec.toNat = vs := by
  induction vs with
  | nil => rfl
  | cons v vs ih =>
    obtain ⟨hv, hvs⟩ := List.forall_mem_cons.1 h
    rw [List.flatMap_cons, List.map_append, ih hvs]
    simp [bytesOfNat, Nat.mod_eq_of_lt hv]

section Arm

variable {a : TriggerAction} (front : List Byte) (hfront : front.length = 9)
include hfront

/-- What stands behind the slot and the condition reads back as the action. -/
theorem triggerArm_reads_action (hcount : a.operands.length < 256) :
    byteAt (front ++ a.encoded) 9 = a.code ∧ byteAt (front ++ a.encoded) 10 = a.operands.length ∧
      armOperands (front ++ a.encoded) = a.operands := by
  have hcode : a.code < 256 := lt_of_le_of_lt a.code_le (by decide)
  rw [a.encoded_eq]
  refine ⟨byteAt_after front _ 9 _ hfront hcode, ?count, ?operands⟩
  case count =>
    rw [← List.append_assoc]
    exact byteAt_after _ _ 10 _ (by simp [hfront]) hcount
  case operands =>
    have hlen : (front ++ (bytesOfNat 1 a.code ++ bytesOfNat 1 a.operands.length)).length = 11 := by simp [hfront]
    rw [armOperands, ← List.append_assoc (bytesOfNat 1 _), ← List.append_assoc front, List.drop_left' hlen]
    exact toNat_flatMap_bytesOfNat fun v hv => (a.operands_lt v hv).trans (by decide)

theorem armAction_append_encoded (hcount : a.operands.length < 256) : armAction (front ++ a.encoded) = a := by
  obtain ⟨hcode, -, hoperands⟩ := triggerArm_reads_action front hfront hcount
  have hlink : ∀ l : LinkNo, a.operands = [l.1] → linkAt (front ++ a.encoded) 11 = l := fun l hl => by
    refine linkAt_of_byteAt ?_
    rw [a.encoded_eq, ← List.append_assoc, ← List.append_assoc, hl]
    exact byteAt_after _ [] 11 _ (by simp [hfront]) (by omega)
  unfold armAction
  rw [hcode, hoperands]
  cases a with
  | switch streams =>
    simp only [TriggerAction.code, TriggerAction.operands, List.map_map]
    exact congrArg _ ((List.map_congr_left fun i _ => Fin.ofNat_val_eq_self i).trans (List.map_id _))
  | start l => exact congrArg _ (hlink l rfl)
  | stopDrain l => exact congrArg _ (hlink l rfl)
  | stopNow l => exact congrArg _ (hlink l rfl)

end Arm

/-- What TRIGGER_ARM's 8 bytes of kind and condition spell; the condition bytes the kind does not use may hold anything
(R158). -/
def TriggerCond.spelledBy (c : TriggerCond) (cond : List Byte) : Prop :=
  match c with
  | .onPulse n => n ≤ 65535 ∧ ∃ pad : List Byte, pad.length = 5 ∧ cond = [0] ++ pad ++ bytesOfNat 2 n
  | .atTime t => t < 2 ^ 32 ∧ ∃ pad : List Byte, pad.length = 3 ∧ cond = [1] ++ pad ++ bytesOfNat 4 t
  | .atNumber i v => v ≤ Config.maxFn ∧ cond = [2] ++ bytesOfNat 1 i.1 ++ bytesOfNat 6 v

/-- A condition's kind (R157). -/
def TriggerCond.kind : TriggerCond → Nat
  | .onPulse _ => 0
  | .atTime _ => 1
  | .atNumber _ _ => 2

theorem TriggerCond.spelledBy.length {c : TriggerCond} {cond : List Byte} (h : c.spelledBy cond) : cond.length = 8 := by
  cases c with
  | onPulse n => obtain ⟨-, pad, hpad, rfl⟩ := h; simp [hpad]
  | atTime t => obtain ⟨-, pad, hpad, rfl⟩ := h; simp [hpad]
  | atNumber i v => obtain ⟨-, rfl⟩ := h; simp

section Cond

variable {j : TriggerNo} {rest : List Byte}

theorem numAt_pulseCount {pad : List Byte} {n : Nat} (hpad : pad.length = 5) (hn : n ≤ 65535) :
    numAt (bytesOfNat 1 j.1 ++ ([0] ++ pad ++ bytesOfNat 2 n) ++ rest) 7 2 = n := by
  have h := numAt_after (bytesOfNat 1 j.1 ++ ([0] ++ pad)) rest 7 2 n (by simp [hpad]) (by omega)
  simpa only [List.append_assoc] using h

theorem numAt_targetTime {pad : List Byte} {t : Nat} (hpad : pad.length = 3) (ht : t < 2 ^ 32) :
    numAt (bytesOfNat 1 j.1 ++ ([1] ++ pad ++ bytesOfNat 4 t) ++ rest) 5 4 = t := by
  have h := numAt_after (bytesOfNat 1 j.1 ++ ([1] ++ pad)) rest 5 4 t (by simp [hpad]) ht
  simpa only [List.append_assoc] using h

theorem byteAt_watchedStream {i : StreamNo} {v : Nat} :
    byteAt (bytesOfNat 1 j.1 ++ ([2] ++ bytesOfNat 1 i.1 ++ bytesOfNat 6 v) ++ rest) 2 = i.1 := by
  have h := byteAt_after (bytesOfNat 1 j.1 ++ [2]) (bytesOfNat 6 v ++ rest) 2 i.1 (by simp) (by omega)
  simpa only [List.append_assoc] using h

theorem numAt_watchedNumber {i : StreamNo} {v : Nat} (hv : v ≤ Config.maxFn) :
    numAt (bytesOfNat 1 j.1 ++ ([2] ++ bytesOfNat 1 i.1 ++ bytesOfNat 6 v) ++ rest) 3 6 = v := by
  have hlt : v < 256 ^ 6 := lt_of_le_of_lt hv (by decide)
  have h := numAt_after (bytesOfNat 1 j.1 ++ ([2] ++ bytesOfNat 1 i.1)) rest 3 6 v (by simp) hlt
  simpa only [List.append_assoc] using h

variable {c : TriggerCond} {cond : List Byte} (h : c.spelledBy cond)
include h

theorem TriggerCond.spelledBy.kindByte : byteAt (bytesOfNat 1 j.1 ++ cond ++ rest) 1 = c.kind := by
  cases c with
  | onPulse n => obtain ⟨-, pad, -, rfl⟩ := h; rfl
  | atTime t => obtain ⟨-, pad, -, rfl⟩ := h; rfl
  | atNumber i v => obtain ⟨-, rfl⟩ := h; rfl

/-- What stands behind the slot reads back as the condition. -/
theorem TriggerCond.spelledBy.armCond_eq : armCond (bytesOfNat 1 j.1 ++ cond ++ rest) = c := by
  unfold armCond
  rw [h.kindByte]
  cases c with
  | onPulse n =>
    obtain ⟨hn, pad, hpad, rfl⟩ := h
    exact congrArg _ (numAt_pulseCount hpad hn)
  | atTime t =>
    obtain ⟨ht, pad, hpad, rfl⟩ := h
    exact congrArg _ (numAt_targetTime hpad ht)
  | atNumber i v =>
    obtain ⟨hv, rfl⟩ := h
    exact congrArg₂ _ (streamAt_of_byteAt byteAt_watchedStream) (numAt_watchedNumber hv)

end Cond

/-- A condition that an event can still make true: a count of edges, a target above the present valid seconds, a number
above the last assigned under an ACTIVE stream (R158 checks 3, 8 and 10). -/
def TriggerCond.ahead (s : State) (c : TriggerCond) : Prop :=
  match c with
  | .onPulse n => 1 ≤ n
  | .atTime t => s.time.seconds < t ∧ s.time.valid = true
  | .atNumber i v => ∃ k, (s.outStream i).state = .active k ∧ (s.outSlot i k).nextFn - 1 < v

/-- An action that can be armed: 1 to 8 distinct open streams, or one link (R158 checks 5 and 9). -/
def TriggerAction.armable (s : State) (a : TriggerAction) : Prop :=
  match a with
  | .switch streams =>
    1 ≤ streams.length ∧ streams.length ≤ 8 ∧ streams.Nodup ∧ ∀ i ∈ streams, (s.outStream i).state ≠ .unused
  | .start _ => True
  | .stopDrain _ => True
  | .stopNow _ => True

theorem TriggerAction.armable.count {s : State} {a : TriggerAction} (h : a.armable s) :
    a.operands.length ≤ 8 ∧ (a.code ≠ 0 → a.operands.length = 1) := by
  cases a with
  | switch streams =>
    obtain ⟨-, hmax, -⟩ := h
    exact ⟨by simpa [TriggerAction.operands] using hmax, fun hne => absurd rfl hne⟩
  | start l => exact ⟨Nat.succ_le_succ (Nat.zero_le 7), fun _ => rfl⟩
  | stopDrain l => exact ⟨Nat.succ_le_succ (Nat.zero_le 7), fun _ => rfl⟩
  | stopNow l => exact ⟨Nat.succ_le_succ (Nat.zero_le 7), fun _ => rfl⟩

/-- The streams of a SWITCH pass checks 5 and 6 of R158, one link check 7. -/
theorem TriggerAction.armable.operandChecks {s : State} {a : TriggerAction} (h : a.armable s) :
    (decide (a.code = 0) && (decide (a.operands.length = 0) || decide (8 < a.operands.length) ||
        hasRepeat a.operands)) = false ∧
      (decide (a.code = 0) && a.operands.any fun v => decide (64 ≤ v)) = false ∧
      (!decide (a.code = 0) && a.operands.any fun v => decide (4 ≤ v)) = false := by
  cases a with
  | switch streams =>
    obtain ⟨hmin, hmax, hnodup, -⟩ := h
    have hdistinct : hasRepeat (streams.map Fin.val) = false :=
      (hasRepeat_eq_false_iff _).2 (hnodup.map Fin.val_injective)
    simp [TriggerAction.code, TriggerAction.operands, hdistinct, List.ne_nil_of_length_pos hmin, hmax]
  | start l => simp [TriggerAction.code, TriggerAction.operands]
  | stopDrain l => simp [TriggerAction.code, TriggerAction.operands]
  | stopNow l => simp [TriggerAction.code, TriggerAction.operands]

theorem TriggerAction.armable.streams_open {s : State} {a : TriggerAction} (h : a.armable s) :
    ∀ i ∈ a.streams, (s.outStream i).state ≠ .unused := by
  cases a with
  | switch streams =>
    obtain ⟨-, -, -, hopen⟩ := h
    exact hopen
  | start l => exact nofun
  | stopDrain l => exact nofun
  | stopNow l => exact nofun

/-- No stream that the condition or the action names is UNUSED (R158 check 9). -/
theorem armStreamUnused_eq_false {s : State} {c : TriggerCond} {a : TriggerAction} (hc : c.ahead s) (ha : a.armable s) :
    armStreamUnused s c a = false := by
  simp only [armStreamUnused, List.any_eq_false, List.mem_append, decide_eq_true_eq]
  rintro i (hi | hi)
  · cases c with
    | onPulse n => cases hi
    | atTime t => cases hi
    | atNumber i' v =>
      obtain rfl : i = i' := by simpa [TriggerCond.watched] using hi
      obtain ⟨k, hactive, -⟩ := hc
      rw [hactive]
      nofun
  · exact ha.streams_open i hi

theorem numberPassed_eq_false {s : State} {c : TriggerCond} (hc : c.ahead s) : numberPassed s c = false := by
  cases c with
  | onPulse n => rfl
  | atTime t => rfl
  | atNumber i v =>
    obtain ⟨k, hactive, hlt⟩ := hc
    simpa [numberPassed, lastAssigned, OutStream.activeSlot, hactive] using hlt

/-- The checks of R158 that read the condition's own bytes: 3, 4 and 8. -/
theorem TriggerCond.ahead.byteChecks {s : State} {c : TriggerCond} {ps : List Byte} (hc : c.ahead s)
    (hkind : byteAt ps 1 = c.kind) (hcond : armCond ps = c) (hstream : c.kind = 2 → byteAt ps 2 < 64) :
    ((decide (c.kind = 0) && decide (numAt ps 7 2 = 0)) ||
        (decide (c.kind = 1) && decide (numAt ps 5 4 ≤ s.time.seconds))) = false ∧
      (decide (c.kind = 2) && decide (64 ≤ byteAt ps 2)) = false ∧ (decide (c.kind = 1) && !s.time.valid) = false := by
  unfold armCond at hcond
  rw [hkind] at hcond
  cases c with
  | onPulse n =>
    obtain rfl : numAt ps 7 2 = n := TriggerCond.onPulse.inj hcond
    have hne : numAt ps 7 2 ≠ 0 := Nat.one_le_iff_ne_zero.1 hc
    simp [TriggerCond.kind, hne]
  | atTime t =>
    obtain rfl : numAt ps 5 4 = t := TriggerCond.atTime.inj hcond
    obtain ⟨hlt, hvalid⟩ := hc
    simp [TriggerCond.kind, hlt, hvalid]
  | atNumber i v =>
    have hlt := hstream rfl
    simp [TriggerCond.kind, hlt]

theorem triggerArmChecks_pass {j : TriggerNo} {c : TriggerCond} {a : TriggerAction} {cond : List Byte} {s : State}
    (hspelled : c.spelledBy cond) (hc : c.ahead s) (ha : a.armable s) (hempty : s.triggers.get j = .empty)
    (hnamed : actionNamed s a = false) :
    firstFailing (triggerArmChecks (bytesOfNat 1 j.1 ++ cond ++ a.encoded) s) = none := by
  have hfront : (bytesOfNat 1 j.1 ++ cond).length = 9 := by simp [hspelled.length]
  obtain ⟨hmax, hone⟩ := ha.count
  obtain ⟨hcode, hcount, hoperands⟩ := triggerArm_reads_action _ hfront (a := a) (by omega)
  have haction := armAction_append_encoded _ hfront (a := a) (by omega)
  have hkind := hspelled.kindByte (j := j) (rest := a.encoded)
  have hcond := hspelled.armCond_eq (j := j) (rest := a.encoded)
  have hslot : byteAt (bytesOfNat 1 j.1 ++ cond ++ a.encoded) 0 = j.1 := by
    rw [List.append_assoc]
    exact byteAt_front _ _ (by omega)
  have hstream : c.kind = 2 → byteAt (bytesOfNat 1 j.1 ++ cond ++ a.encoded) 2 < 64 := fun h => by
    cases c with
    | onPulse n => cases h
    | atTime t => cases h
    | atNumber i v =>
      obtain ⟨-, rfl⟩ := hspelled
      rw [byteAt_watchedStream]
      exact i.2
  obtain ⟨hahead, hwatched, hvalid⟩ := hc.byteChecks hkind hcond hstream
  obtain ⟨hlist, hstreams, hlinks⟩ := ha.operandChecks
  simp only [triggerArmChecks, firstFailing_cons_eq_none_iff, hslot, hkind, hcode, hcount, hoperands, haction, hcond,
    triggerAt_of_byteAt hslot, hempty]
  refine ⟨by simp, ?kinds, hahead, hwatched, hlist, hstreams, hlinks, rfl, hvalid, armStreamUnused_eq_false hc ha,
    numberPassed_eq_false hc, hnamed, rfl⟩
  have hkindLe : c.kind ≤ 2 := by cases c <;> simp [TriggerCond.kind]
  have hcodeLe := a.code_le
  simp only [Bool.or_eq_false_iff, Bool.and_eq_false_iff, Bool.not_eq_false', decide_eq_false_iff_not,
    decide_eq_true_eq, not_lt, not_not]
  exact ⟨⟨hkindLe, hcodeLe⟩, or_iff_not_imp_left.2 hone⟩

theorem exec_triggerArm_of_ahead {j : TriggerNo} {c : TriggerCond} {a : TriggerAction} {cond : List Byte} {s : State}
    (hs : s.serves) (hspelled : c.spelledBy cond) (hc : c.ahead s) (ha : a.armable s)
    (hempty : s.triggers.get j = .empty) (hnamed : actionNamed s a = false) :
    exec (.triggerArm (bytesOfNat 1 j.1 ++ cond ++ a.encoded)) s =
      .next (answersDone 0x53 (s.setTrigger j (.armed c a))) := by
  have hfront : (bytesOfNat 1 j.1 ++ cond).length = 9 := by simp [hspelled.length]
  obtain ⟨hmax, -⟩ := ha.count
  obtain ⟨-, hcount, -⟩ := triggerArm_reads_action _ hfront (a := a) (by omega)
  have hslot : byteAt (bytesOfNat 1 j.1 ++ cond ++ a.encoded) 0 = j.1 := by
    rw [List.append_assoc]
    exact byteAt_front _ _ (by omega)
  have hlen : (bytesOfNat 1 j.1 ++ cond ++ a.encoded).length = 11 + a.operands.length := by
    rw [List.length_append, hfront, a.encoded_eq]
    simp
    omega
  have hfits : triggerArmFits (bytesOfNat 1 j.1 ++ cond ++ a.encoded) = true := by
    rw [triggerArmFits, hcount, hlen]
    simp
    omega
  have hjudge : reqTriggerArm.judge (bytesOfNat 1 j.1 ++ cond ++ a.encoded) s =
      answerDone (s.setTrigger j (.armed c a)) := by
    dsimp only [reqTriggerArm]
    rw [checked_of_passes _ (triggerArmChecks_pass hspelled hc ha hempty hnamed), triggerAt_of_byteAt hslot,
      hspelled.armCond_eq, armAction_append_encoded _ hfront (by omega)]
  exact congrArg Host.Outcome.next (takeRequest_done hs hfits hjudge)

/-- Settles O34: the parameters read back as the slot, the condition and the action, so every check of R158 passes and
they are written. -/
theorem triggersAreArmed : Obligations.TriggersAreArmed := by
  intro j c a cond s hs hempty hcond haction hapart
  have hspelled : c.spelledBy cond ∧ c.ahead s := by
    cases c with
    | onPulse n =>
      obtain ⟨hmin, hmax, hbytes⟩ := hcond
      exact ⟨⟨hmax, hbytes⟩, hmin⟩
    | atTime t =>
      obtain ⟨hahead, hmax, hvalid, hbytes⟩ := hcond
      exact ⟨⟨hmax, hbytes⟩, hahead, hvalid⟩
    | atNumber i v =>
      obtain ⟨hahead, hmax, hbytes⟩ := hcond
      exact ⟨⟨hmax, hbytes⟩, hahead⟩
  have harmable : a.armable s := by cases a <;> exact haction
  have hnamed : actionNamed s a = false := (actionNamed_eq_false_iff s c a).2 fun j' => by
    cases hj' : s.triggers.get j' with
    | empty => exact ⟨nofun, nofun⟩
    | armed c' a' => exact hapart j' c' a' hj'
    | faulted c' a' f r => exact ⟨nofun, nofun⟩
  exact exec_triggerArm_of_ahead hs hspelled.1 hspelled.2 harmable hempty hnamed

end Sys2Proof.Machine
end

section
/-! SUPPORT. Events at the trigger slots (R152 to R154, R160): which slots an event reaches and what it leaves of them; the
reference tick's count (R150, R151) and the pulse edge (R153). -/

namespace Sys2Proof.Machine

/-! ### An event at one trigger slot -/

/-- An event that is no pulse edge takes no edges off a condition. -/
theorem TriggerCond.after_of_ne_pulseEdge (c : TriggerCond) {e : FireEvent} (h : e ≠ .pulseEdge) : c.after e = c := by
  cases e with
  | pulseEdge => exact absurd rfl h
  | secondEvent now => cases c <;> rfl
  | timeSet now => cases c <;> rfl
  | assigned i p => cases c <;> rfl

theorem TriggerCond.onPulse_waits (n : Nat) {e : FireEvent} (h : e ≠ .pulseEdge) :
    (TriggerCond.onPulse n).comesTrue e = false := by
  cases e with
  | pulseEdge => exact absurd rfl h
  | secondEvent now => rfl
  | timeSet now => rfl
  | assigned i p => rfl

section One

variable {e : FireEvent} {s : State} {j : TriggerNo}

theorem triggerEvent_of_fires {c : TriggerCond} {a : TriggerAction} (harmed : s.triggers.get j = .armed c a)
    (h : c.comesTrue e = true) : triggerEvent e s j = fireTrigger j (c.after e) a s := by
  rw [triggerEvent, harmed]
  exact if_pos h

theorem triggerEvent_of_waits {c : TriggerCond} {a : TriggerAction} (harmed : s.triggers.get j = .armed c a)
    (h : c.comesTrue e = false) : triggerEvent e s j = s.setTrigger j (.armed (c.after e) a) := by
  rw [triggerEvent, harmed]
  exact if_neg (Bool.eq_false_iff.1 h)

theorem triggerEvent_of_not_armed (h : ∀ c a, s.triggers.get j ≠ .armed c a) : triggerEvent e s j = s := by
  unfold triggerEvent
  split
  next harmed => exact absurd harmed (h _ _)
  next => rfl

/-- An event that no ARMED condition answers to leaves the slot as it is. -/
theorem triggerEvent_eq_self
    (h : ∀ c a, s.triggers.get j = .armed c a → c.comesTrue e = false ∧ c.after e = c) : triggerEvent e s j = s := by
  by_cases harmed : ∃ c a, s.triggers.get j = .armed c a
  · obtain ⟨c, a, harmed⟩ := harmed
    obtain ⟨hwaits, hafter⟩ := h c a harmed
    rw [triggerEvent_of_waits harmed hwaits, hafter, ← harmed, State.setTrigger, putAt_get]
  · exact triggerEvent_of_not_armed fun c a h => harmed ⟨c, a, h⟩

end One

theorem doAction_triggers (s : State) (a : TriggerAction) : (doAction s a).triggers = s.triggers := by
  obtain ⟨k, ls, o, i, n, h⟩ := doAction_touches s a
  rw [h]

/-- A trigger that fires writes its own slot alone, EMPTY or FAULTED (R161). -/
theorem fireTrigger_triggers (j : TriggerNo) (c : TriggerCond) (a : TriggerAction) (s : State) :
    ∃ x, (fireTrigger j c a s).triggers = putAt s.triggers j x ∧ (x = .empty ∨ ∃ f r, x = .faulted c a f r) := by
  unfold fireTrigger
  split
  · exact ⟨_, rfl, .inr ⟨_, _, rfl⟩⟩
  · exact ⟨_, doAction_triggers _ a, .inl rfl⟩

theorem triggerEvent_other (e : FireEvent) (s : State) {j m : TriggerNo} (h : m ≠ j) :
    (triggerEvent e s j).triggers.get m = s.triggers.get m := by
  unfold triggerEvent
  split
  next c a _ =>
    split
    · obtain ⟨x, hx, -⟩ := fireTrigger_triggers j (c.after e) a s
      rw [hx, get_putAt_ne _ _ h]
    · exact get_putAt_ne _ _ h
  next => rfl

/-! ### An event at every trigger slot -/

/-- The reading of an object after each object has been reached, by steps that leave the other objects' readings alone: it
is reached once, at a state that has its reading from the start. -/
theorem foldl_reached {α β : Type} {f : State → α → State} {v : State → α → β}
    (hf : ∀ (s : State) (a b : α), b ≠ a → v (f s a) b = v s b) (s : State) {as : List α} (has : as.Nodup) {b : α}
    (hb : b ∈ as) : ∃ x, v x b = v s b ∧ v (as.foldl f s) b = v (f x b) b := by
  induction as generalizing s with
  | nil => cases hb
  | cons a as ih =>
    obtain ⟨ha, has⟩ := List.nodup_cons.1 has
    rw [List.foldl_cons]
    rcases List.mem_cons.1 hb with rfl | hb
    · refine ⟨s, rfl, ?_⟩
      have hlater : ∀ (bs : List α) (t : State), b ∉ bs → v (bs.foldl f t) b = v t b := by
        intro bs
        induction bs with
        | nil => exact fun _ _ => rfl
        | cons c bs ih =>
          intro t hbs
          obtain ⟨hne, hbs⟩ := not_or.1 (mt List.mem_cons.2 hbs)
          rw [List.foldl_cons, ih _ hbs, hf t c b hne]
      exact hlater as _ ha
    · obtain ⟨x, hx, hfold⟩ := ih (f s a) has hb
      exact ⟨x, hx.trans (hf s a b (ne_of_mem_of_not_mem hb ha)), hfold⟩

theorem triggersEvent_slot (e : FireEvent) (s : State) (j : TriggerNo) :
    ∃ x : State, x.triggers.get j = s.triggers.get j ∧
      (triggersEvent e s).triggers.get j = (triggerEvent e x j).triggers.get j :=
  foldl_reached (v := fun s j => s.triggers.get j) (fun s _ _ h => triggerEvent_other e s h) s (List.nodup_finRange 8)
    (List.mem_finRange j)

theorem triggersEvent_eq_self {e : FireEvent} {s : State}
    (h : ∀ j c a, s.triggers.get j = .armed c a → c.comesTrue e = false ∧ c.after e = c) : triggersEvent e s = s := by
  unfold triggersEvent
  generalize List.finRange 8 = js
  induction js with
  | nil => rfl
  | cons j js ih => rw [List.foldl_cons, triggerEvent_eq_self (h j), ih]

/-- An ON_PULSE slot under an event that is no pulse edge. -/
theorem triggersEvent_onPulse_of_ne {e : FireEvent} (he : e ≠ .pulseEdge) {s : State} {j : TriggerNo} {n : Nat}
    {a : TriggerAction} (h : s.triggers.get j = .armed (.onPulse n) a) :
    (triggersEvent e s).triggers.get j = .armed (.onPulse n) a := by
  obtain ⟨x, hx, hslot⟩ := triggersEvent_slot e s j
  rw [h] at hx
  rw [hslot, triggerEvent_of_waits hx (TriggerCond.onPulse_waits n he), TriggerCond.after_of_ne_pulseEdge _ he]
  exact get_putAt_self _ j _

/-- An ON_PULSE slot under a pulse edge (R160). -/
theorem triggersEvent_pulseEdge {s : State} {j : TriggerNo} {n : Nat} {a : TriggerAction}
    (h : s.triggers.get j = .armed (.onPulse n) a) :
    (2 ≤ n → (triggersEvent .pulseEdge s).triggers.get j = .armed (.onPulse (n - 1)) a) ∧
      (n = 1 → (triggersEvent .pulseEdge s).triggers.get j = .empty ∨
        ∃ f r, (triggersEvent .pulseEdge s).triggers.get j = .faulted (.onPulse 0) a f r) := by
  obtain ⟨x, hx, hslot⟩ := triggersEvent_slot .pulseEdge s j
  rw [h] at hx
  rw [hslot]
  refine ⟨fun hn => ?counts, fun hn => ?fires⟩
  case counts =>
    have hwaits : (TriggerCond.onPulse n).comesTrue .pulseEdge = false := decide_eq_false (by omega)
    rw [triggerEvent_of_waits hx hwaits]
    exact get_putAt_self _ j _
  case fires =>
    subst hn
    rw [triggerEvent_of_fires hx rfl]
    obtain ⟨y, hy, hcases⟩ := fireTrigger_triggers j (.onPulse 0) a x
    exact (congrArg (fun v => v.get j) hy).trans (get_putAt_self _ j y) ▸ hcases

/-! ### The time base requests (R154 to R156) -/

/-- A TIME_SET below every AT_TIME target fires nothing (R154, R160). -/
theorem triggersEvent_timeSet_eq_self {seconds : Nat} {s : State}
    (h : ∀ j target a, s.triggers.get j = .armed (.atTime target) a → seconds < target) :
    triggersEvent (.timeSet seconds) s = s := by
  refine triggersEvent_eq_self fun j c a harmed => ⟨?_, c.after_of_ne_pulseEdge nofun⟩
  cases c with
  | onPulse n => rfl
  | atTime target => exact decide_eq_false (Nat.not_le.2 (h j target a harmed))
  | atNumber i v => rfl

/-- Settles O33: TIME_SET writes the count before its event reaches the triggers, which do not write the time base;
TIME_TRIM writes two fields and TIME_READ none. -/
theorem timeRequestsAct : Obligations.TimeRequestsAct := by
  intro s hs
  refine ⟨?set, fun trim discipline htrim => exec_timeTrim discipline hs htrim, exec_timeRead hs⟩
  intro seconds hseconds t
  obtain ⟨k, ls, o, i, n, tr, hframe⟩ := triggersEvent_touches (.timeSet seconds)
    { s with time := { s.time with seconds := seconds, micros := 0, valid := true } }
  have ht : t = { s with
      time := { s.time with seconds := seconds, micros := 0, valid := true }
      links := k, lanes := ls, outs := o, ins := i, notices := n, triggers := tr } := hframe
  have htime : t.time = { s.time with seconds := seconds, micros := 0, valid := true } := by rw [ht]
  refine ⟨exec_timeSet hs hseconds, htime, ⟨k, ls, o, i, n, tr, by rw [htime]; exact ht⟩, fun habove => ?_⟩
  rw [htime]
  exact triggersEvent_timeSet_eq_self habove

/-! ### Reference ticks (R150 to R152) -/

/-- The count of microseconds since 0 s (R150). -/
def TimeBase.count (t : TimeBase) : Nat := t.seconds * 1000000 + t.micros

theorem TimeBase.micro_count {t : TimeBase} (h : t.inRange) :
    t.micro.count = (t.count + 1) % (2 ^ 32 * 1000000) := by
  obtain ⟨hseconds, hmicros, -⟩ := h
  unfold TimeBase.micro TimeBase.count nextSecond
  split
  · dsimp only
    omega
  · dsimp only
    split <;> omega

theorem TimeBase.micro_keeps (t : TimeBase) :
    t.micro = { t with seconds := t.micro.seconds, micros := t.micro.micros } := by
  unfold TimeBase.micro
  split <;> rfl

/-- Microsecond events advance the count by their number, and keep the rest of the time base (R151, R152). -/
theorem TimeBase.micros_count {t : TimeBase} (h : t.inRange) (n : Nat) :
    let u := TimeBase.micro^[n] t
    u.count = (t.count + n) % (2 ^ 32 * 1000000) ∧ u.window = t.window ∧ u.trim = t.trim ∧ u.discipline = t.discipline ∧
      u.valid = t.valid ∧ u.outOfWindow = t.outOfWindow := by
  induction n generalizing t with
  | zero =>
    obtain ⟨hseconds, hmicros, -⟩ := h
    refine ⟨?_, rfl, rfl, rfl, rfl, rfl⟩
    rw [Function.iterate_zero_apply, TimeBase.count]
    omega
  | succ n ih =>
    obtain ⟨hcount, hkeeps⟩ := ih h.micro
    rw [t.micro_keeps] at hkeeps
    rw [Function.iterate_succ_apply]
    refine ⟨?_, t.micro_keeps ▸ hkeeps⟩
    rw [hcount, TimeBase.micro_count h]
    omega

theorem microEvents_touches (n : Nat) (s : State) :
    ∃ k ls o i nt t, microEvents n s =
      { s with time := TimeBase.micro^[n] s.time, links := k, lanes := ls, outs := o, ins := i, notices := nt,
               triggers := t } := by
  induction n generalizing s with
  | zero => exact ⟨s.links, s.lanes, s.outs, s.ins, s.notices, s.triggers, rfl⟩
  | succ n ih =>
    obtain ⟨k, ls, o, i, nt, t, h⟩ := microEvent_touches s
    obtain ⟨k', ls', o', i', nt', t', h'⟩ := ih (microEvent s)
    refine ⟨k', ls', o', i', nt', t', ?_⟩
    rw [microEvents, h', h]
    rfl

theorem nextWindow_eq {w : Nat} (h : w ≤ 1048575) : nextWindow w = (w + 1) % 1048576 := by
  unfold nextWindow
  split <;> omega

/-- Settles O45: a tick is a move of the window position and then as many microsecond events as R151 gives it. -/
theorem ticksAdvanceTheCount : Obligations.TicksAdvanceTheCount := by
  intro s hreset hrange position adjusted events hone htwo hnone
  obtain ⟨hseconds, hmicros, hwindow, hrest⟩ := id hrange
  have hposition : nextWindow s.time.window = position := nextWindow_eq hwindow
  have hevents : tickEvents position s.time.trim = events := by
    by_cases hadjusted : adjusted
    · obtain ⟨hmultiple, hbelow⟩ := id hadjusted
      rw [tickEvents, if_pos ⟨hmultiple, hbelow⟩]
      split
      next hpos => exact (htwo hadjusted hpos).symm
      next hneg => exact (hnone hadjusted (by omega)).symm
    · rw [tickEvents, if_neg hadjusted]
      exact (hone hadjusted).symm
  have hmoved : ({ s.time with window := position } : TimeBase).inRange :=
    ⟨hseconds, hmicros, hposition ▸ nextWindow_le _, hrest⟩
  obtain ⟨hcount, hkeptWindow, htrim, hdiscipline, hvalid, houtOfWindow⟩ := TimeBase.micros_count hmoved events
  obtain ⟨k, ls, o, i, n, tr, hframe⟩ := microEvents_touches events
    { s with time := { s.time with window := position } }
  refine ⟨microEvents events { s with time := { s.time with window := position } }, ?exec, ?_⟩
  case exec =>
    show execReferenceTick s = _
    rw [execReferenceTick, unlessHeld_of_not_held hreset, tick, hposition, hevents]
  rw [hframe]
  refine ⟨hkeptWindow, hcount, htrim, hdiscipline, hvalid, houtOfWindow, ⟨k, ls, o, i, n, tr, rfl⟩, ?events⟩
  rw [← hframe]
  refine ⟨fun h => ?zero, fun h => ?one, fun h => ?two⟩ <;> subst h
  · rfl
  · rfl
  · rfl

/-! ### Pulse edges (R153, R160) -/

/-- An edge in the early window, where the alignment makes a boundary (R153). -/
def TimeBase.early (t : TimeBase) : Prop := t.discipline = true ∧ 999900 ≤ t.micros

/-- The time base after an edge (R153). -/
def TimeBase.aligned (t : TimeBase) : TimeBase :=
  if t.discipline then
    if 999900 ≤ t.micros then { t with micros := 0, seconds := nextSecond t.seconds }
    else if t.micros ≤ 100 then { t with micros := 0 }
    else { t with outOfWindow := count48 t.outOfWindow 1 }
  else t

theorem TimeBase.aligned_of_undisciplined {t : TimeBase} (h : t.discipline = false) : t.aligned = t := by
  rw [TimeBase.aligned, h]
  rfl

theorem TimeBase.aligned_of_disciplined {t : TimeBase} (h : t.discipline = true) :
    t.aligned = if 999900 ≤ t.micros then { t with micros := 0, seconds := nextSecond t.seconds }
      else if t.micros ≤ 100 then { t with micros := 0 }
      else { t with outOfWindow := count48 t.outOfWindow 1 } :=
  if_pos h

theorem edge_of_early {s : State} (h : s.time.early) :
    edge s = triggersEvent .pulseEdge (secondEvent (milliEvent { s with time := s.time.aligned })) := by
  obtain ⟨hdiscipline, hearly⟩ := h
  rw [edge, if_pos hdiscipline, disciplineEdge, if_pos hearly, TimeBase.aligned_of_disciplined hdiscipline, if_pos hearly]

theorem edge_of_not_early {s : State} (h : ¬ s.time.early) :
    edge s = triggersEvent .pulseEdge { s with time := s.time.aligned } := by
  unfold edge
  split
  next hdiscipline =>
    have hlater : ¬ 999900 ≤ s.time.micros := fun hearly => h ⟨hdiscipline, hearly⟩
    rw [disciplineEdge, if_neg hlater, TimeBase.aligned_of_disciplined hdiscipline, if_neg hlater]
    split <;> rfl
  next hfree => rw [TimeBase.aligned_of_undisciplined (Bool.eq_false_iff.2 hfree)]

/-- The boundary of an early edge leaves an ON_PULSE slot to the edge itself. -/
theorem boundary_onPulse {s : State} {j : TriggerNo} {n : Nat} {a : TriggerAction}
    (h : s.triggers.get j = .armed (.onPulse n) a) :
    (secondEvent (milliEvent s)).triggers.get j = .armed (.onPulse n) a := by
  obtain ⟨i, n', hmilli⟩ := milliEvent_touches s
  obtain ⟨o, n'', hlifetimes⟩ := lifetimesEvent_touches (milliEvent s)
  have hkept : (lifetimesEvent (milliEvent s)).triggers = s.triggers := by rw [hlifetimes, hmilli]
  exact triggersEvent_onPulse_of_ne (e := .secondEvent (milliEvent s).time.seconds) nofun
    ((congrArg (·.get j) hkept).trans h)

/-- An edge writes the time base as R153 says, and beside it what the events it makes do. -/
theorem edge_touches (s : State) :
    ∃ k ls o i n t, edge s =
      { s with time := s.time.aligned, links := k, lanes := ls, outs := o, ins := i, notices := n, triggers := t } := by
  by_cases hearly : s.time.early
  · obtain ⟨i, n, hmilli⟩ := milliEvent_touches { s with time := s.time.aligned }
    obtain ⟨k, ls, o, i', n', t, hsecond⟩ := secondEvent_touches (milliEvent { s with time := s.time.aligned })
    obtain ⟨k', ls', o', i'', n'', t', htriggers⟩ :=
      triggersEvent_touches .pulseEdge (secondEvent (milliEvent { s with time := s.time.aligned }))
    refine ⟨k', ls', o', i'', n'', t', ?_⟩
    rw [edge_of_early hearly, htriggers, hsecond, hmilli]
  · rw [edge_of_not_early hearly]
    exact triggersEvent_touches .pulseEdge _

/-- Settles O46: an edge aligns the time base and, where that is an early boundary, makes its events; each ON_PULSE slot then
counts the edge, unmoved by the boundary's events. -/
theorem pulseEdgesAlignAndCount : Obligations.PulseEdgesAlignAndCount := by
  intro s hreset hmicros early late outside
  obtain ⟨k, ls, o, i, n, tr, hframe⟩ := edge_touches s
  have htime : (edge s).time = s.time.aligned := by rw [hframe]
  refine ⟨edge s, congrArg Host.Outcome.next (unlessHeld_of_not_held hreset), ?_⟩
  rw [htime]
  refine ⟨TimeBase.aligned_of_undisciplined, ?early, ?late, ?outside, ?counts, ⟨k, ls, o, i, n, tr, hframe⟩,
    edge_of_early, edge_of_not_early, ?idle⟩
  case early =>
    rintro ⟨hdiscipline, hearly⟩
    exact (TimeBase.aligned_of_disciplined hdiscipline).trans (if_pos hearly)
  case late =>
    rintro ⟨hdiscipline, hlate⟩
    rw [TimeBase.aligned_of_disciplined hdiscipline, if_neg (by omega), if_pos hlate]
  case outside =>
    rintro ⟨hdiscipline, habove, hbelow⟩
    rw [TimeBase.aligned_of_disciplined hdiscipline, if_neg (by omega), if_neg (by omega)]
  case counts =>
    intro j n a harmed
    by_cases hearly : s.time.early
    · rw [edge_of_early hearly]
      exact triggersEvent_pulseEdge (boundary_onPulse (s := { s with time := s.time.aligned }) harmed)
    · rw [edge_of_not_early hearly]
      exact triggersEvent_pulseEdge (s := { s with time := s.time.aligned }) harmed
  case idle =>
    intro hidle hearly
    rw [edge_of_not_early hearly]
    exact triggersEvent_eq_self fun j c a harmed => absurd harmed (hidle j c a)

end Sys2Proof.Machine
end

section
/-! SUPPORT. The firing of a trigger (R160, R161): what it does at each action, whole or not at all; and an event carried to
the slots one after the other, by the queue's commands. -/

namespace Sys2Proof.Machine

/-! ### The firing slot -/

section Fire

variable {j : TriggerNo} {e : FireEvent} {s : State}

/-- TRIGGER_FIRE at an ARMED slot whose condition the event makes true. -/
theorem exec_triggerFire_of_fires {c : TriggerCond} {a : TriggerAction} (hreset : s.resetHeld = none)
    (harmed : s.triggers.get j = .armed c a) (hfires : c.comesTrue e = true) :
    exec (.triggerFire j e) s = .next (fireTrigger j (c.after e) a s) := by
  refine congrArg Host.Outcome.next ((unlessHeld_of_not_held hreset).trans ?_)
  simp only [harmed]
  exact if_pos hfires

/-- TRIGGER_FIRE at any other slot. -/
theorem exec_triggerFire_of_waits (hreset : s.resetHeld = none)
    (hwaits : ∀ c a, s.triggers.get j = .armed c a → c.comesTrue e = false) : exec (.triggerFire j e) s = .next s := by
  refine congrArg Host.Outcome.next ((unlessHeld_of_not_held hreset).trans ?_)
  split
  next harmed => exact if_neg (Bool.eq_false_iff.1 (hwaits _ _ harmed))
  next => rfl

/-- An event that counts no edge does at one slot what TRIGGER_FIRE there does. -/
theorem exec_triggerFire_of_ne_pulseEdge (hreset : s.resetHeld = none) (he : e ≠ .pulseEdge) :
    exec (.triggerFire j e) s = .next (triggerEvent e s j) := by
  by_cases hfires : ∃ c a, s.triggers.get j = .armed c a ∧ c.comesTrue e = true
  · obtain ⟨c, a, harmed, htrue⟩ := hfires
    rw [exec_triggerFire_of_fires hreset harmed htrue, triggerEvent_of_fires harmed htrue]
  · have hwaits : ∀ c a, s.triggers.get j = .armed c a → c.comesTrue e = false := fun c a harmed =>
      Bool.eq_false_iff.2 fun htrue => hfires ⟨c, a, harmed, htrue⟩
    rw [exec_triggerFire_of_waits hreset hwaits,
      triggerEvent_eq_self fun c a harmed => ⟨hwaits c a harmed, c.after_of_ne_pulseEdge he⟩]

end Fire

theorem fireTrigger_of_fault {j : TriggerNo} {c : TriggerCond} {a : TriggerAction} {s : State} {failing reason : Nat}
    (h : actionFault s a = some (failing, reason)) :
    fireTrigger j c a s = raise .triggerFault (.trigger j) (s.setTrigger j (.faulted c a failing reason)) := by
  rw [fireTrigger, h]

theorem fireTrigger_of_free {j : TriggerNo} {c : TriggerCond} {a : TriggerAction} {s : State}
    (h : actionFault s a = none) :
    fireTrigger j c a s = raise .triggerFired (.trigger j) (doAction (s.setTrigger j .empty) a) := by
  rw [fireTrigger, h]

/-! ### A SWITCH: what stands in its way -/

/-- A listed stream can be switched: ACTIVE, with its other slot READY or LOADING (R161). -/
def State.switchable (s : State) (i : StreamNo) : Prop :=
  ∃ k, (s.outStream i).state = .active k ∧
    ((s.outSlot i (otherSlot k)).state = .ready ∨ (s.outSlot i (otherSlot k)).state = .loading)

theorem switchFault_of_switchable {s : State} {i : StreamNo} (h : s.switchable i) : switchFault s i = none := by
  obtain ⟨k, hactive, hother | hother⟩ := h
  · simp only [switchFault, hactive, hother]
  · simp only [switchFault, hactive, hother]

theorem switchFault_of_not_active {s : State} {i : StreamNo} (h : ∀ k, (s.outStream i).state ≠ .active k) :
    switchFault s i = some 0x0F := by
  unfold switchFault
  split
  next hactive => exact absurd hactive (h _)
  next => rfl

theorem switchFault_of_other {s : State} {i : StreamNo} {k : SlotNo} (hactive : (s.outStream i).state = .active k)
    (h : ¬ s.switchable i) : switchFault s i = some 0x10 := by
  simp only [switchFault, hactive]
  split
  next hready => exact absurd ⟨k, hactive, .inl hready⟩ h
  next hloading => exact absurd ⟨k, hactive, .inr hloading⟩ h
  next => rfl

/-- The first stream that cannot be switched is the one that fails (R161). -/
theorem firstSwitchFault_append {s : State} {before after : List StreamNo} {i : StreamNo} {r : Nat}
    (hbefore : ∀ x ∈ before, s.switchable x) (hi : switchFault s i = some r) :
    firstSwitchFault s (before ++ i :: after) = some (i.1, r) := by
  induction before with
  | nil => rw [List.nil_append, firstSwitchFault, hi]
  | cons x before ih =>
    obtain ⟨hx, hbefore⟩ := List.forall_mem_cons.1 hbefore
    rw [List.cons_append, firstSwitchFault, switchFault_of_switchable hx]
    exact ih hbefore

theorem firstSwitchFault_eq_none {s : State} {streams : List StreamNo} (h : ∀ x ∈ streams, s.switchable x) :
    firstSwitchFault s streams = none := by
  induction streams with
  | nil => rfl
  | cons x streams ih =>
    obtain ⟨hx, hrest⟩ := List.forall_mem_cons.1 h
    rw [firstSwitchFault, switchFault_of_switchable hx]
    exact ih hrest

/-! ### A SWITCH that acts (R50) -/

/-- A stream after a switch is requested of it: switched where its other slot is READY, waiting for it where that is
LOADING. -/
def OutStream.switchRequested (st : OutStream) : OutStream :=
  match st.state with
  | .active a =>
    match (st.slots.get (otherSlot a)).state with
    | .ready => st.switched a
    | .loading => { st with pendingSwitch := some (otherSlot a) }
    | _ => st
  | _ => st

theorem OutStream.switchRequested_of_not_active {st : OutStream} (h : ∀ a, st.state ≠ .active a) :
    st.switchRequested = st := by
  unfold OutStream.switchRequested
  split
  next hactive => exact absurd hactive (h _)
  next => rfl

section Requested

variable {st : OutStream} {a : SlotNo} (hactive : st.state = .active a)
include hactive

theorem OutStream.switchRequested_of_ready (h : (st.slots.get (otherSlot a)).state = .ready) :
    st.switchRequested = st.switched a := by
  simp only [OutStream.switchRequested, hactive, h]

theorem OutStream.switchRequested_of_loading (h : (st.slots.get (otherSlot a)).state = .loading) :
    st.switchRequested = { st with pendingSwitch := some (otherSlot a) } := by
  simp only [OutStream.switchRequested, hactive, h]

theorem OutStream.switchRequested_of_other (hready : (st.slots.get (otherSlot a)).state ≠ .ready)
    (hloading : (st.slots.get (otherSlot a)).state ≠ .loading) : st.switchRequested = st := by
  simp only [OutStream.switchRequested, hactive]

end Requested

/-- What a switch requested of stream `i`, read as `st`, raises: SWITCHED, and SLOT_FREED where its slot has nothing in
flight. -/
def OutStream.switchNotices (i : StreamNo) (st : OutStream) (n : NoticeKind) (m : NoticeMember) : Prop :=
  ∃ k, m = .outStream i ∧ st.state = .active k ∧ (st.slots.get (otherSlot k)).state = .ready ∧
    (n = .switched ∨ (n = .slotFreed ∧ (st.slots.get k).inFlight = 0))

theorem switchListed_outStream (s : State) (i j : StreamNo) :
    (switchListed s i).outStream j = if j = i then (s.outStream i).switchRequested else s.outStream j := by
  have hkept : s.outStream j = if j = i then s.outStream i else s.outStream j := by
    split
    next hj => rw [hj]
    next => rfl
  unfold switchListed
  split
  next a hactive =>
    unfold requestSwitch
    split
    next hready => rw [OutStream.switchRequested_of_ready hactive hready, switchStream_outStream]
    next hloading => rw [OutStream.switchRequested_of_loading hactive hloading, outStream_modOut]
    next hready hloading => rw [OutStream.switchRequested_of_other hactive hready hloading, ← hkept]
  next hidle => rw [OutStream.switchRequested_of_not_active hidle, ← hkept]

theorem switchListed_raisesExactly (s : State) (i : StreamNo) :
    s.raisesExactly (switchListed s i) ((s.outStream i).switchNotices i) := by
  unfold switchListed
  split
  next a hactive =>
    have honly : ∀ n m, (s.outStream i).switchNotices i n m ↔
        m = .outStream i ∧ (s.outSlot i (otherSlot a)).state = .ready ∧
          (n = .switched ∨ (n = .slotFreed ∧ (s.outSlot i a).inFlight = 0)) := by
      intro n m
      simp only [OutStream.switchNotices, hactive, OutState.active.injEq]
      exact ⟨fun ⟨k, hm, hk, hrest⟩ => hk ▸ ⟨hm, hrest⟩, fun ⟨hm, hrest⟩ => ⟨a, hm, rfl, hrest⟩⟩
    unfold requestSwitch
    split
    next hready =>
      exact State.raisesExactly_congr (switchStream_raisesExactly i a s) fun n m => by simp [honly, hready]
    next hloading => exact State.raisesExactly_of_notices rfl fun n m => by simp [honly, hloading]
    next hready _ =>
      refine State.raisesExactly_of_notices rfl fun n m hraised => ?_
      obtain ⟨-, hother, -⟩ := (honly n m).1 hraised
      exact hready hother
  next hactive =>
    exact State.raisesExactly_of_notices rfl fun n m ⟨k, _, hk, _⟩ => hactive k hk

theorem switchAll_outStream (s : State) {streams : List StreamNo} (h : streams.Nodup) (i : StreamNo) :
    (streams.foldl switchListed s).outStream i =
      if i ∈ streams then (s.outStream i).switchRequested else s.outStream i :=
  foldl_reading (v := State.outStream) switchListed_outStream s h i

theorem switchAll_raisesExactly (s : State) {streams : List StreamNo} (h : streams.Nodup) :
    s.raisesExactly (streams.foldl switchListed s) fun n m =>
      ∃ i ∈ streams, (s.outStream i).switchNotices i n m :=
  foldl_raisesExactly (v := State.outStream) (r := OutStream.switchNotices)
    (fun s i j hj => (switchListed_outStream s i j).trans (if_neg hj)) switchListed_raisesExactly s h

/-- The firing of a SWITCH trigger that nothing stands in the way of. -/
def switchFired (j : TriggerNo) (streams : List StreamNo) (s : State) : State :=
  raise .triggerFired (.trigger j) (streams.foldl switchListed (s.setTrigger j .empty))

section Fired

variable (j : TriggerNo) (streams : List StreamNo) (s : State)

theorem switchFired_touches :
    ∃ o n, switchFired j streams s =
      { s with outs := o, notices := n, triggers := putAt s.triggers j .empty } := by
  obtain ⟨o, n, h⟩ := switchAll_touches streams (s.setTrigger j .empty)
  rw [switchFired, h]
  exact ⟨_, _, rfl⟩

variable {streams}

theorem switchFired_outStream (h : streams.Nodup) (i : StreamNo) :
    (switchFired j streams s).outStream i =
      if i ∈ streams then (s.outStream i).switchRequested else s.outStream i :=
  (raise_outStream _ _ _ _).trans (switchAll_outStream (s.setTrigger j .empty) h i)

theorem switchFired_raisesExactly (h : streams.Nodup) :
    s.raisesExactly (switchFired j streams s) fun n m =>
      (n = .triggerFired ∧ m = .trigger j) ∨ ∃ i ∈ streams, (s.outStream i).switchNotices i n m :=
  State.raisesExactly_congr
    (State.raisesExactly_trans (s := s) (switchAll_raisesExactly (s.setTrigger j .empty) h)
      (raise_raisesExactly .triggerFired (.trigger j) _))
    fun _ _ => or_comm

end Fired

/-! ### The queue's rest does not count (log entry 1) -/

/-- The state with another queue of commands. -/
def State.withPending (p : List Instr) (s : State) : State := { s with pending := p }

/-- An operation neither reads nor writes the queue of commands. -/
def ignoresPending (f : State → State) : Prop := ∀ p s, f (s.withPending p) = (f s).withPending p

namespace ignoresPending

theorem self : ignoresPending fun s => s := fun _ _ => rfl

theorem comp {f g : State → State} (hf : ignoresPending f) (hg : ignoresPending g) : ignoresPending fun s => f (g s) :=
  fun p s => (congrArg f (hg p s)).trans (hf p (g s))

theorem ite {c : State → Prop} [DecidablePred c] {f g : State → State} (hc : ∀ p s, c (s.withPending p) ↔ c s)
    (hf : ignoresPending f) (hg : ignoresPending g) : ignoresPending fun s => if c s then f s else g s := by
  intro p s
  by_cases h : c s
  · exact (if_pos ((hc p s).2 h)).trans ((hf p s).trans (congrArg (State.withPending p) (if_pos h).symm))
  · exact (if_neg (mt (hc p s).1 h)).trans ((hg p s).trans (congrArg (State.withPending p) (if_neg h).symm))

/-- An operation that first reads something else of the state. -/
theorem reading {α : Type} {r : State → α} {f : α → State → State} (hr : ∀ p s, r (s.withPending p) = r s)
    (hf : ∀ x, ignoresPending (f x)) : ignoresPending fun s => f (r s) s :=
  fun p s => (congrArg (f · (s.withPending p)) (hr p s)).trans (hf (r s) p s)

theorem foldl {α : Type} {f : State → α → State} (hf : ∀ x, ignoresPending fun s => f s x) (xs : List α) :
    ignoresPending fun s => xs.foldl f s := by
  induction xs with
  | nil => exact self
  | cons x xs ih => exact ih.comp (hf x)

theorem leaveOutSlot (i : StreamNo) (k : SlotNo) : ignoresPending (leaveOutSlot i k) :=
  ite (fun _ _ => Iff.rfl) (fun _ _ => rfl) fun _ _ => rfl

theorem switchStream (i : StreamNo) (a : SlotNo) : ignoresPending (switchStream i a) :=
  comp (f := raise .switched (.outStream i)) (fun _ _ => rfl)
    (comp (g := fun s => (s.modOutSlot i (otherSlot a) fun sl => { sl with state := .active }).modOut i fun st =>
      { st with state := .active (otherSlot a), pendingSwitch := none }) (leaveOutSlot i a) fun _ _ => rfl)

theorem requestSwitch (i : StreamNo) (a : SlotNo) : ignoresPending (requestSwitch i a) := by
  intro p s
  have hread : ((s.withPending p).outSlot i (otherSlot a)).state = (s.outSlot i (otherSlot a)).state := rfl
  unfold Machine.requestSwitch
  rw [hread]
  cases (s.outSlot i (otherSlot a)).state with
  | ready => exact switchStream i a p s
  | loading => rfl
  | empty | active | draining => rfl

theorem switchListed (i : StreamNo) : ignoresPending fun s => switchListed s i := by
  intro p s
  have hread : ((s.withPending p).outStream i).state = (s.outStream i).state := rfl
  unfold Machine.switchListed
  dsimp only
  rw [hread]
  cases (s.outStream i).state with
  | active a => exact requestSwitch i a p s
  | unused | opened | stalled => rfl

theorem itemLeft (it : Item) : ignoresPending (itemLeft it) := by
  unfold Machine.itemLeft
  cases it.body with
  | pass f => exact self
  | protect ref aad text tag => exact ite (fun _ _ => Iff.rfl) (fun _ _ => rfl) fun _ _ => rfl
  | verify ref aad text tag ok => exact ite (fun _ _ => Iff.rfl) (fun _ _ => rfl) fun _ _ => rfl

theorem freeItemLane (it : Item) : ignoresPending (freeItemLane it) := by
  unfold Machine.freeItemLane
  cases it.state with
  | onLane n => exact fun _ _ => rfl
  | done => exact self

theorem stopLinkNow (l : LinkNo) (cause : StopCause) : ignoresPending (stopLinkNow l cause) := by
  refine ite (fun _ _ => Iff.rfl) self ?_
  refine reading (r := fun s => (s.link l).outList ++ (s.link l).inList)
    (f := fun items s => enterOff l cause ((cancelItems items s).modLink l Link.flushed)) (fun _ _ => rfl) fun items => ?_
  exact comp (f := fun s => enterOff l cause (s.modLink l Link.flushed)) (fun _ _ => rfl)
    (foldl (fun it => (itemLeft it).comp (freeItemLane it)) items)

theorem drainLink (l : LinkNo) (cause : StopCause) : ignoresPending (drainLink l cause) :=
  ite (fun _ _ => Iff.rfl)
    (comp (f := drainCheck l) (g := fun s => s.modLink l fun k => { k with state := .draining, stopCause := cause })
      (ite (fun _ _ => Iff.rfl) (fun _ _ => rfl) self) fun _ _ => rfl)
    self

theorem doAction (a : TriggerAction) : ignoresPending fun s => doAction s a := by
  cases a with
  | switch streams => exact foldl switchListed streams
  | start l => exact fun _ _ => rfl
  | stopDrain l => exact drainLink l .triggerDrain
  | stopNow l => exact stopLinkNow l .triggerNow

end ignoresPending

theorem firstSwitchFault_withPending (p : List Instr) (s : State) (streams : List StreamNo) :
    firstSwitchFault (s.withPending p) streams = firstSwitchFault s streams := by
  induction streams with
  | nil => rfl
  | cons i streams ih => rw [firstSwitchFault, firstSwitchFault, ih]; rfl

theorem actionFault_withPending (p : List Instr) (s : State) (a : TriggerAction) :
    actionFault (s.withPending p) a = actionFault s a := by
  cases a with
  | switch streams => exact firstSwitchFault_withPending p s streams
  | start l => rfl
  | stopDrain l => rfl
  | stopNow l => rfl

namespace ignoresPending

theorem fireTrigger (j : TriggerNo) (c : TriggerCond) (a : TriggerAction) : ignoresPending (fireTrigger j c a) := by
  intro p s
  unfold Machine.fireTrigger
  rw [actionFault_withPending]
  cases actionFault s a with
  | some fault => rfl
  | none => exact congrArg (raise .triggerFired (.trigger j)) (doAction a p (s.setTrigger j .empty))

theorem triggerEvent (e : FireEvent) (j : TriggerNo) : ignoresPending fun s => triggerEvent e s j := by
  intro p s
  have hread : (s.withPending p).triggers.get j = s.triggers.get j := rfl
  unfold Machine.triggerEvent
  dsimp only
  rw [hread]
  cases s.triggers.get j with
  | armed c a =>
    exact ite (c := fun _ => c.comesTrue e = true) (g := fun s => s.setTrigger j (.armed (c.after e) a))
      (fun _ _ => Iff.rfl) (fireTrigger j (c.after e) a) (fun _ _ => rfl) p s
  | empty => rfl
  | faulted c a f r => rfl

end ignoresPending

/-! ### An event carried by the queue's commands -/

theorem coreRun_succ {M : Host.Core} {s t : M.State} (h : M.step s = .next t) (k : Nat) : M.run (k + 1) s = M.run k t := by
  rw [Host.Core.run, h]

/-- TRIGGER_FIRE at each of some slots in turn (R152 to R154, R34). -/
theorem run_triggerFires {e : FireEvent} (he : e ≠ .pulseEdge) (js : List TriggerNo) {s : State}
    (hreset : s.resetHeld = none) :
    Host.Core.run core js.length (s.withPending (js.map (fun j => Instr.triggerFire j e) ++ s.pending)) =
      .next (js.foldl (triggerEvent e) s) := by
  induction js generalizing s with
  | nil => rfl
  | cons j js ih =>
    obtain ⟨k, ls, o, i, n, t, hframe⟩ := triggerEvent_touches e s j
    have hheld : (triggerEvent e s j).resetHeld = none := by rw [hframe]; exact hreset
    have hqueue : (triggerEvent e s j).pending = s.pending := by rw [hframe]
    have hstep : step (s.withPending ((j :: js).map (fun j => Instr.triggerFire j e) ++ s.pending)) =
        .next ((triggerEvent e s j).withPending (js.map (fun j => Instr.triggerFire j e) ++ s.pending)) :=
      (exec_triggerFire_of_ne_pulseEdge (s := s.withPending (js.map (fun j => Instr.triggerFire j e) ++ s.pending))
        hreset he).trans (congrArg Host.Outcome.next (ignoresPending.triggerEvent e j _ s))
    have hrest := ih hheld
    rw [hqueue] at hrest
    exact (coreRun_succ hstep js.length).trans hrest

/-- Settles O49: a fault is found before anything is written, and a firing writes the slot and then carries the action out,
each listed stream by a step of its own; an event at the slots is the queue's TRIGGER_FIREs because a slot's part of it does
not read the queue. -/
theorem triggersFireWhole : Obligations.TriggersFireWhole := by
  refine ⟨?fire, ?waits, ?slots⟩
  case waits =>
    intro j e s hreset hwaits
    refine exec_triggerFire_of_waits hreset fun c a harmed => ?_
    have hcond := hwaits c a harmed
    cases c with
    | onPulse n =>
      cases e with
      | pulseEdge => exact decide_eq_false (Nat.not_le.2 hcond)
      | secondEvent | timeSet | assigned => rfl
    | atTime target =>
      cases e with
      | secondEvent now => exact beq_false_of_ne hcond
      | timeSet now => exact decide_eq_false (Nat.not_le.2 hcond)
      | pulseEdge | assigned => rfl
    | atNumber i v =>
      cases e with
      | assigned i' p =>
        refine Bool.eq_false_iff.2 fun htrue => ?_
        obtain ⟨hi, hv⟩ := Bool.and_eq_true_iff.1 htrue
        exact hcond.elim (absurd (eq_of_beq hi)) fun hbelow => absurd (of_decide_eq_true hv) (Nat.not_le.2 hbelow)
      | pulseEdge | secondEvent | timeSet => rfl
  case slots =>
    intro e s hreset he
    exact run_triggerFires he (List.finRange 8) hreset
  case fire =>
    intro j c a e s hreset harmed htrue c' faults fires ready
    have hfires : c.comesTrue e = true ∧ c.after e = c' := by
      rcases htrue with ⟨rfl, rfl⟩ | ⟨t, rfl, rfl⟩ | ⟨t, now, rfl, rfl, hreached⟩ | ⟨i, v, p, rfl, rfl, hreached⟩
      · exact ⟨rfl, (if_pos rfl).symm⟩
      · exact ⟨beq_self_eq_true t, (if_neg nofun).symm⟩
      · exact ⟨decide_eq_true hreached, (if_neg nofun).symm⟩
      · exact ⟨Bool.and_eq_true_iff.2 ⟨beq_self_eq_true i, decide_eq_true hreached⟩, (if_neg nofun).symm⟩
    obtain ⟨hcomes, hafter⟩ := hfires
    have hexec : exec (.triggerFire j e) s = .next (fireTrigger j c' a s) :=
      hafter ▸ exec_triggerFire_of_fires hreset harmed hcomes
    have hfaults : ∀ {failing reason}, actionFault s a = some (failing, reason) → faults failing reason := fun h =>
      hexec.trans (congrArg Host.Outcome.next (fireTrigger_of_fault h))
    have hacts : actionFault s a = none →
        exec (.triggerFire j e) s =
          .next (raise .triggerFired (.trigger j) (doAction (s.setTrigger j .empty) a)) := fun h =>
      hexec.trans (congrArg Host.Outcome.next (fireTrigger_of_free h))
    refine ⟨?switchFaults, ?start, ?drain, ?now, ?switch⟩
    case switchFaults =>
      rintro before i after rfl hbefore
      refine ⟨fun hidle => ?_, fun ⟨k, hactive⟩ hother => ?_⟩
      · exact hfaults (firstSwitchFault_append hbefore (switchFault_of_not_active hidle))
      · exact hfaults (firstSwitchFault_append hbefore (switchFault_of_other hactive hother))
    case start =>
      rintro l rfl
      refine ⟨fun hlive => hfaults ?_, fun hdraining => hfaults ?_, fun hoff hbare => hfaults ?_,
        fun hoff hsetUp => hacts ?_⟩
      · simp only [actionFault, startFault, hlive]
      · simp only [actionFault, startFault, hdraining]
      · simp [actionFault, startFault, hoff, hbare]
      · simp [actionFault, startFault, hoff, hsetUp]
    case drain =>
      rintro l rfl
      exact hacts rfl
    case now =>
      rintro l rfl
      exact hacts rfl
    case switch =>
      rintro streams rfl hnodup hready
      obtain ⟨o, n, hframe⟩ := switchFired_touches j streams s
      refine ⟨switchFired j streams s, hacts (firstSwitchFault_eq_none hready), ?triggers, ?frame,
        fun i hi => (switchFired_outStream j s hnodup i).trans (if_neg hi), fun i hi k hactive => ?listed, ?notices⟩
      case triggers => rw [hframe]
      case frame => rw [hframe]
      case notices => exact switchFired_raisesExactly j s hnodup
      case listed =>
        have hstream := (switchFired_outStream j s hnodup i).trans (if_pos hi)
        refine ⟨fun hother => ?ready, fun hother => hstream.trans (OutStream.switchRequested_of_loading hactive hother)⟩
        have hswitched := hstream.trans (OutStream.switchRequested_of_ready hactive hother)
        simp only [State.outSlot, hswitched]
        exact ⟨rfl, (s.outStream i).switched_slot_other k, (s.outStream i).switched_slot_left k⟩

end Sys2Proof.Machine
end

section
/-! SUPPORT. A part outside RUNNING is quiet (R32, R165): what its quiet parts leave an event to do, the operations that
keep the mode, and every request and event as one of them. -/

namespace Sys2Proof.Machine

/-! ### What a quiet part leaves an event to do -/

/-- The link is OFF, its queues and lists empty. -/
def Link.rests (k : Link) : Prop :=
  k.state = .off ∧ k.outQueue = [] ∧ k.inQueue = [] ∧ k.outList = [] ∧ k.inList = []

section Quiet

variable {s : State} (hs : s.quiet)
include hs

theorem State.quiet.link_rests (l : LinkNo) : (s.link l).rests := by
  obtain ⟨-, -, -, -, -, -, hlinks, -⟩ := hs
  exact hlinks l

/-- New links that rest leave the part quiet. -/
theorem State.quiet.withLinks {links : Vector Link 4} (h : ∀ l, (links.get l).rests) :
    State.quiet { s with links := links } := by
  obtain ⟨hout, hin, hstreams, hjobs, hworking, hlanes, -, htriggers⟩ := hs
  exact ⟨hout, hin, hstreams, hjobs, hworking, hlanes, h, htriggers⟩

/-- A link that stays at rest leaves the part quiet. -/
theorem State.quiet.modLink {l : LinkNo} {f : Link → Link} (hf : (s.link l).rests → (f (s.link l)).rests) :
    (s.modLink l f).quiet := by
  refine hs.withLinks fun m => ?_
  rw [get_putAt]
  split
  · exact hf (hs.link_rests l)
  · exact hs.link_rests m

theorem State.quiet.mapLinks {f : Link → Link} (hf : ∀ k : Link, k.rests → (f k).rests) :
    State.quiet { s with links := mapTable f s.links } :=
  hs.withLinks fun l => by rw [get_mapTable]; exact hf _ (hs.link_rests l)

/-- No trigger is ARMED. -/
theorem State.quiet.triggersEvent_eq (e : FireEvent) : triggersEvent e s = s := by
  obtain ⟨-, -, -, -, -, -, -, htriggers⟩ := hs
  exact triggersEvent_eq_self fun j c a harmed => nomatch (htriggers j).symm.trans harmed

/-- No inbound slot is in GRACE. -/
theorem State.quiet.not_grace (i : StreamNo) (k : SlotNo) : (s.inSlot i k).state ≠ .grace := by
  obtain ⟨-, hin, -⟩ := hs
  obtain ⟨hempty, -⟩ := hin i k
  rw [hempty]
  exact nofun

theorem State.quiet.graceTick_eq (i : StreamNo) (k : SlotNo) : graceTick i k s = s := if_neg (hs.not_grace i k)

theorem State.quiet.milliEvent_eq : milliEvent s = s :=
  List.foldl_fixed' (fun i => by rw [hs.graceTick_eq i 0, hs.graceTick_eq i 1]) _

/-- No outbound stream is ACTIVE. -/
theorem State.quiet.not_active (i : StreamNo) (a : SlotNo) : (s.outStream i).state ≠ .active a := by
  obtain ⟨-, -, hstreams, -⟩ := hs
  rcases hstreams i with h | h <;> rw [h] <;> exact nofun

theorem State.quiet.lifetimesEvent_eq : lifetimesEvent s = s :=
  List.foldl_fixed' (fun i => lifetimeTick_of_not_counts fun a hcounts => hs.not_active i a hcounts.1) _

theorem State.quiet.secondEvent_eq : secondEvent s = s := by
  rw [secondEvent, hs.lifetimesEvent_eq, hs.triggersEvent_eq]

theorem State.quiet.drainCheck_eq (l : LinkNo) : drainCheck l s = s := by
  obtain ⟨hoff, -⟩ := hs.link_rests l
  exact if_neg fun ⟨hdraining, _⟩ => nomatch hoff.symm.trans hdraining

theorem State.quiet.releaseOutbound_eq (l : LinkNo) : releaseOutbound l s = s := by
  obtain ⟨-, -, -, houtList, -⟩ := hs.link_rests l
  rw [releaseOutbound, houtList]

theorem State.quiet.releaseInbound_eq (l : LinkNo) : releaseInbound l s = s := by
  obtain ⟨-, -, -, -, hinList⟩ := hs.link_rests l
  rw [releaseInbound, hinList]

end Quiet

/-! ### What keeps a link at rest -/

theorem Link.rests.modFace {k : Link} (h : k.rests) (side : Side) (f : Face → Face) : (k.modFace side f).rests := by
  cases side <;> exact h

/-- An OFF link counts a frame and drops it (R131). -/
theorem Link.rests.received {k : Link} (h : k.rests) (side : Side) (f : Frame) : (k.received side f).rests := by
  obtain ⟨hoff, -⟩ := id h
  by_cases hgood : receivedGood f = true
  · rw [Link.received_of_off side hgood hoff]
    exact h
  · rw [Link.received_of_bad side hgood]
    exact h

theorem Link.rests.wentUp {k : Link} (h : k.rests) (side : Side) : (k.wentUp side).rests := by
  cases side with
  | rack => exact h
  | campus => rw [Link.wentUp_campus]; exact h

theorem Link.rests.wentDown {k : Link} (h : k.rests) (side : Side) : (k.wentDown side).rests := by
  cases side with
  | rack => exact h
  | campus => rw [Link.wentDown_campus]; exact h

theorem Link.rests.refreshMicro {k : Link} (h : k.rests) : k.refreshMicro.rests := by
  unfold Link.refreshMicro
  split
  · exact h
  · split <;> exact h

theorem Link.rests.micro {k : Link} (h : k.rests) : k.micro.rests :=
  Link.rests.refreshMicro (k := { k with pacer := k.pacerMicro }) h

/-! ### Operations that keep the mode -/

theorem leaveInSlot_mode (i : StreamNo) (k : SlotNo) (s : State) : (leaveInSlot i k s).mode = s.mode := by
  obtain ⟨_, _, h⟩ := leaveInSlot_touches i k s
  rw [h]

theorem secondAtSlot_mode (i : StreamNo) (a : SlotNo) (s : State) : (secondAtSlot i a s).mode = s.mode := by
  obtain ⟨_, _, h⟩ := secondAtSlot_touches i a s
  rw [h]

theorem itemLeft_mode (it : Item) (s : State) : (itemLeft it s).mode = s.mode := by
  obtain ⟨_, _, _, h⟩ := itemLeft_touches it s
  rw [h]

theorem drainCheck_mode (l : LinkNo) (s : State) : (drainCheck l s).mode = s.mode := by
  obtain ⟨_, _, h⟩ := drainCheck_touches l s
  rw [h]

theorem drainLink_mode (l : LinkNo) (c : StopCause) (s : State) : (drainLink l c s).mode = s.mode := by
  obtain ⟨_, _, h⟩ := drainLink_touches l c s
  rw [h]

theorem stopLinkNow_mode (l : LinkNo) (c : StopCause) (s : State) : (stopLinkNow l c s).mode = s.mode := by
  obtain ⟨_, _, _, _, _, h⟩ := stopLinkNow_touches l c s
  rw [h]

theorem fireTrigger_mode (j : TriggerNo) (c : TriggerCond) (a : TriggerAction) (s : State) :
    (fireTrigger j c a s).mode = s.mode := by
  obtain ⟨_, _, _, _, _, _, h⟩ := fireTrigger_touches j c a s
  rw [h]

theorem edge_mode (s : State) : (edge s).mode = s.mode := by
  obtain ⟨_, _, _, _, _, _, h⟩ := edge_touches s
  rw [h]

/-- A grant's disposal of the head frame (R61). -/
theorem disposeOut_mode (l : LinkNo) (n : LaneNo) (read : KeyRead) (f : Frame) (d : Decision) (s : State) :
    (disposeOut l n read f d s).mode = s.mode := by
  unfold disposeOut
  split
  · rfl
  · split <;> rfl
  · split
    · rfl
    · split
      next a _ =>
        split
        · obtain ⟨_, _, _, _, h⟩ := outStoreError_touches d.stream a s
          rw [h]
        · obtain ⟨_, hcorrected⟩ := noteCorrection_touches read s
          obtain ⟨_, _, _, _, _, _, h⟩ :=
            assign_touches l n d.stream a f (d.keepTag && frameTagged f) (noteCorrection read s)
          rw [h, hcorrected]
      next => rfl

theorem grantOutbound_mode (l : LinkNo) (n : LaneNo) (read : KeyRead) (s : State) :
    (grantOutbound l n read s).mode = s.mode := by
  unfold grantOutbound
  split
  · rfl
  next f _ _ =>
    obtain ⟨_, hcounted⟩ := countMatch_touches l f (s.modLink l Link.dropOutHead)
    rw [drainCheck_mode, disposeOut_mode, hcounted]
    rfl

/-- A grant's examination of the head frame (R108). -/
theorem examineIn_mode (l : LinkNo) (n : LaneNo) (read : KeyRead) (f : Frame) (s : State) :
    (examineIn l n read f s).mode = s.mode := by
  have hcorrected : (noteCorrection read s).mode = s.mode := by
    obtain ⟨_, h⟩ := noteCorrection_touches read s
    rw [h]
  have hstream : ∀ i p, (examineStream l n read i p f s).mode = s.mode := by
    intro i p
    unfold examineStream
    split
    · rfl
    · split
      · obtain ⟨_, _, _, _, h⟩ := inStoreError_touches i p.phase s
        rw [h]
      · split <;> exact hcorrected
  unfold examineIn
  split
  · split <;> rfl
  · split
    · rfl
    · split
      · rfl
      · exact hstream _ _

theorem grantInbound_mode (l : LinkNo) (n : LaneNo) (read : KeyRead) (s : State) :
    (grantInbound l n read s).mode = s.mode := by
  unfold grantInbound
  split
  · rfl
  · rw [drainCheck_mode, examineIn_mode]
    rfl

theorem releaseOutbound_mode (l : LinkNo) (s : State) : (releaseOutbound l s).mode = s.mode := by
  unfold releaseOutbound
  split
  · rfl
  · split
    · split
      · rw [drainCheck_mode, itemLeft_mode]
        rfl
      · split
        · rfl
        · rw [drainCheck_mode, itemLeft_mode]
          rfl
    · rfl

theorem flipSelector_mode (i : StreamNo) (k : SlotNo) (s : State) : (flipSelector i k s).mode = s.mode := by
  unfold flipSelector sendToGrace
  dsimp only
  split
  · rw [raise_mode]
    split
    · exact leaveInSlot_mode _ _ _
    · rfl
  · rfl

theorem judgeHead_mode (l : LinkNo) (it : Item) (s : State) : (judgeHead l it s).mode = s.mode := by
  unfold judgeHead
  split
  · rfl
  · unfold judgeVerify
    split
    · split
      · unfold deliver
        dsimp only
        split
        · exact flipSelector_mode _ _ _
        · rfl
      · rfl
    · rw [countIntegrityFailure_eq]
      split <;> rfl
  · rfl

theorem releaseInbound_mode (l : LinkNo) (s : State) : (releaseInbound l s).mode = s.mode := by
  unfold releaseInbound
  split
  · rfl
  · split
    · split
      · rw [drainCheck_mode, itemLeft_mode, judgeHead_mode]
        rfl
      · split
        · rfl
        · rw [drainCheck_mode, itemLeft_mode]
          rfl
    · rfl

/-- A load job that ends and leaves the queue (R15, R20). -/
theorem removeHeadJob_endJob_mode (j : Job) (r : LoadResult) (x : Option Secret) (s : State) :
    (removeHeadJob (endJob j r x s)).mode = s.mode := by
  obtain ⟨_, _, hremoved⟩ := removeHeadJob_touches (endJob j r x s)
  obtain ⟨_, _, _, hended⟩ := endJob_touches j r x s
  rw [hremoved, hended]

theorem grantKeyUnit_mode (n : LaneNo) (s : State) : (grantKeyUnit n s).mode = s.mode := by
  unfold grantKeyUnit
  split
  · rfl
  · split
    · rfl
    · exact removeHeadJob_endJob_mode _ _ _ _

theorem completeJob_mode (n : LaneNo) (j : Job) (s : State) : (completeJob n j s).mode = s.mode := by
  unfold completeJob
  split
  · exact removeHeadJob_endJob_mode _ _ _ _
  · rfl

theorem closeStream_mode (d : Dir) (i : StreamNo) (s : State) : (closeStream d i s).mode = s.mode := by
  cases d <;> simp only [closeStream] <;> split <;> rfl

theorem startLoad_mode (j : Job) (s : State) : (beginLoading j (appendJob j s)).mode = s.mode := by
  have happended : (appendJob j s).mode = s.mode := by
    unfold appendJob
    dsimp only
    split <;> rfl
  unfold beginLoading
  split <;> exact happended

/-! ### Changes that keep a part outside RUNNING quiet -/

/-- From `s` to `t` the mode is kept, and outside RUNNING a quiet part stays quiet and its key-wrap key store as it
is. -/
def State.keepsQuiet (s t : State) : Prop :=
  t.mode = s.mode ∧ (s.mode ≠ .running → s.quiet → t.quiet ∧ t.kwk = s.kwk)

theorem State.quietOutsideRunning_of_running {t : State} (h : t.mode = .running) : t.quietOutsideRunning :=
  ⟨fun hne => absurd h hne, fun halarm => nomatch h.symm.trans halarm⟩

namespace State.keepsQuiet

variable {s t : State}

theorem self (s : State) : s.keepsQuiet s := ⟨rfl, fun _ hs => ⟨hs, rfl⟩⟩

/-- A change that a quiet part outside RUNNING does not undergo. -/
theorem of_mode (hmode : t.mode = s.mode) (hrest : s.mode ≠ .running → s.quiet → t = s) : s.keepsQuiet t := by
  refine ⟨hmode, fun hne hs => ?_⟩
  rw [hrest hne hs]
  exact ⟨hs, rfl⟩

/-- A change of one link that leaves it at rest. -/
theorem modLink {l : LinkNo} {f : Link → Link} (hf : ∀ k : Link, k.rests → (f k).rests) :
    s.keepsQuiet (s.modLink l f) :=
  ⟨rfl, fun _ hs => ⟨hs.modLink (hf _), rfl⟩⟩

theorem ite {c : Prop} [Decidable c] {u : State} (ht : c → s.keepsQuiet t) (hu : ¬ c → s.keepsQuiet u) :
    s.keepsQuiet (if c then t else u) := by
  split
  next h => exact ht h
  next h => exact hu h

theorem invariant (h : s.keepsQuiet t) (hs : s.quietOutsideRunning) : t.quietOutsideRunning := by
  obtain ⟨hmode, hrest⟩ := h
  obtain ⟨hquiet, hstore⟩ := hs
  by_cases hrun : s.mode = .running
  · exact quietOutsideRunning_of_running (hmode.trans hrun)
  · obtain ⟨hquiet', hstore'⟩ := hrest hrun (hquiet hrun)
    exact ⟨fun _ => hquiet', fun halarm => hstore'.trans (hstore (hmode.symm.trans halarm))⟩

end State.keepsQuiet

open State.keepsQuiet (self of_mode)

/-- A microsecond event finds nothing but pacers and refresh counts at a quiet part (R152). -/
theorem State.quiet.microEvent {s : State} (hs : s.quiet) : (microEvent s).quiet := by
  have hcounted : State.quiet { s with time := s.time.micro, links := mapTable Link.micro s.links } :=
    hs.mapLinks fun _ h => h.micro
  unfold Machine.microEvent
  dsimp only
  rw [hcounted.milliEvent_eq, ite_self, hcounted.secondEvent_eq, ite_self]
  exact hcounted

theorem State.quiet.microEvents {s : State} (hs : s.quiet) (n : Nat) : (microEvents n s).quiet := by
  induction n generalizing s with
  | zero => exact hs
  | succ n ih => exact ih hs.microEvent

theorem tick_keepsQuiet (s : State) : s.keepsQuiet (tick s) := by
  have hframe : (tick s).mode = s.mode ∧ (tick s).kwk = s.kwk := by
    unfold tick
    dsimp only
    obtain ⟨_, _, _, _, _, _, h⟩ := microEvents_touches (tickEvents (nextWindow s.time.window) s.time.trim)
      { s with time := { s.time with window := nextWindow s.time.window } }
    rw [h]
    exact ⟨rfl, rfl⟩
  obtain ⟨hmode, hstore⟩ := hframe
  refine ⟨hmode, fun _ hs => ⟨?_, hstore⟩⟩
  have hmoved : State.quiet { s with time := { s.time with window := nextWindow s.time.window } } := hs
  exact hmoved.microEvents _

/-- A pulse edge finds nothing but the time base at a quiet part (R153). -/
theorem edge_keepsQuiet (s : State) : s.keepsQuiet (edge s) := by
  refine ⟨edge_mode s, fun _ hs => ?_⟩
  have haligned : State.quiet { s with time := s.time.aligned } := hs
  have hedge : edge s = { s with time := s.time.aligned } := by
    by_cases hearly : s.time.early
    · rw [edge_of_early hearly, haligned.milliEvent_eq, haligned.secondEvent_eq, haligned.triggersEvent_eq]
    · rw [edge_of_not_early hearly, haligned.triggersEvent_eq]
  rw [hedge]
  exact ⟨hs, rfl⟩

theorem noteChange_modLink_keepsQuiet (l : LinkNo) (side : Side) (s : State) {f : Link → Link}
    (hf : ∀ k : Link, k.rests → (f k).rests) : s.keepsQuiet (noteChange l side (s.modLink l f)) := by
  have hlink : s.keepsQuiet (s.modLink l f) := .modLink hf
  exact .ite (fun _ => hlink) (fun _ => hlink)

/-! ### ALARM entry, the self-test and the release of a reset -/

theorem raiseLinksStopped_touches (before s : State) :
    ∃ n, raiseLinksStopped before s = { s with notices := n } := by
  unfold raiseLinksStopped
  generalize List.finRange 4 = ls
  induction ls generalizing s with
  | nil => exact ⟨s.notices, rfl⟩
  | cons l ls ih =>
    rw [List.foldl_cons]
    split
    · exact ih s
    · obtain ⟨n, h⟩ := ih (raise .linkStopped (.link l) s)
      exact ⟨n, by rw [h]; rfl⟩

/-- What ALARM entry writes beside the notices (R171). -/
def State.alarmed (cause : AlarmCause) (s : State) : State :=
  { s with
    mode := .alarm
    kwk := none
    outs := mapTable OutStream.alarmed s.outs
    ins := mapTable InStream.alarmed s.ins
    keyUnit := { jobs := [], working := none }
    lanes := Vector.replicate 8 .free
    arbiter := { s.arbiter with pointer := 0, count := 0 }
    links := mapTable Link.alarmed s.links
    triggers := Vector.replicate 8 .empty
    retained := s.retained.alarmed cause s.time }

theorem alarmEntry_touches (cause : AlarmCause) (s : State) :
    ∃ n, alarmEntry cause s = { s.alarmed cause with notices := n } := by
  obtain ⟨n, h⟩ := raiseLinksStopped_touches s (s.alarmed cause)
  unfold alarmEntry
  rw [← State.alarmed, h]
  exact ⟨_, rfl⟩

theorem OutSlot.alarmed_eq (sl : OutSlot) :
    sl.alarmed = OutSlot.empty (if sl.state = .loading then .cancelled else sl.lastLoad) := by
  unfold OutSlot.alarmed OutSlot.emptied
  split <;> rfl

theorem InSlot.alarmed_eq (sl : InSlot) :
    sl.alarmed = InSlot.empty (if sl.state = .loading then .cancelled else sl.lastLoad) := by
  unfold InSlot.alarmed InSlot.emptied
  split <;> rfl

theorem State.alarmed_outSlot (cause : AlarmCause) (s : State) (i : StreamNo) (k : SlotNo) :
    (s.alarmed cause).outSlot i k = (s.outSlot i k).alarmed := by
  simp only [State.outSlot, State.outStream, State.alarmed, get_mapTable, OutStream.alarmed]

theorem State.alarmed_inSlot (cause : AlarmCause) (s : State) (i : StreamNo) (k : SlotNo) :
    (s.alarmed cause).inSlot i k = (s.inSlot i k).alarmed := by
  simp only [State.inSlot, State.inStream, State.alarmed, get_mapTable, InStream.alarmed]

theorem State.alarmed_quiet (cause : AlarmCause) (s : State) : (s.alarmed cause).quiet := by
  refine ⟨fun i k => ?out, fun i k => ?inn, fun i => ?stream, rfl, rfl, fun n => get_replicate _ n, fun l => ?link,
    fun j => get_replicate _ j⟩
  case out =>
    rw [alarmed_outSlot, OutSlot.alarmed_eq]
    exact ⟨rfl, rfl⟩
  case inn =>
    rw [alarmed_inSlot, InSlot.alarmed_eq]
    exact ⟨rfl, rfl⟩
  case stream =>
    simp only [State.outStream, State.alarmed, get_mapTable, OutStream.alarmed]
    split
    · exact .inl rfl
    · exact .inr rfl
  case link =>
    simp only [State.link, State.alarmed, get_mapTable]
    exact ⟨rfl, rfl, rfl, rfl, rfl⟩

/-- ALARM entry leaves a quiet part with an empty store, whatever it finds (R171). -/
theorem alarmEntry_quietOutsideRunning (cause : AlarmCause) (s : State) :
    (alarmEntry cause s).quietOutsideRunning := by
  obtain ⟨n, h⟩ := alarmEntry_touches cause s
  rw [h]
  exact ⟨fun _ => s.alarmed_quiet cause, fun _ => rfl⟩

/-- The self-test frees the lanes of a part in STARTING and decides its mode (R168). -/
theorem completeSelfTest_quietOutsideRunning (passed : BitVec 8) {s : State} (hstarting : s.mode = .starting)
    (hs : s.quietOutsideRunning) : (completeSelfTest passed s).quietOutsideRunning := by
  obtain ⟨hrest, -⟩ := hs
  have hquiet : s.quiet := hrest (by rw [hstarting]; exact nofun)
  unfold completeSelfTest
  extract_lets few pool noticed
  have hpool : pool.quiet := by
    obtain ⟨hout, hin, hstreams, hjobs, hworking, -, hlinks, htriggers⟩ := hquiet
    exact ⟨hout, hin, hstreams, hjobs, hworking, fun n => get_replicate _ n, hlinks, htriggers⟩
  have hnoticed : noticed.quiet := by
    unfold noticed
    split <;> exact hpool
  split
  · exact ⟨fun _ => hnoticed, nofun⟩
  · split
    · exact alarmEntry_quietOutsideRunning _ _
    · exact State.quietOutsideRunning_of_running rfl

theorem State.reset_quiet : State.reset.quiet := by
  refine ⟨fun i k => ?out, fun i k => ?inn, fun i => ?stream, rfl, rfl, fun n => get_replicate _ n, fun l => ?link,
    fun j => get_replicate _ j⟩
  case out =>
    simp only [State.outSlot, State.outStream, State.reset, OutStream.reset, get_replicate]
    exact ⟨rfl, rfl⟩
  case inn =>
    simp only [State.inSlot, State.inStream, State.reset, InStream.reset, get_replicate]
    exact ⟨rfl, rfl⟩
  case stream =>
    simp only [State.outStream, State.reset, get_replicate]
    exact .inl rfl
  case link =>
    simp only [State.link, State.reset, get_replicate]
    exact ⟨rfl, rfl, rfl, rfl, rfl⟩

/-- A release gives every block its reset values, in STARTING (R166). -/
theorem released_quietOutsideRunning (kind : ResetKind) (address : BitVec 3) (rateHigh : Bool) (s : State) :
    (released kind address rateHigh s).quietOutsideRunning :=
  ⟨fun _ => State.reset_quiet, nofun⟩

/-- A held reset stops what the faces drive and the reply; no link's state or queue changes (R166). -/
theorem holdReset_keepsQuiet (kind : ResetKind) (s : State) : s.keepsQuiet (holdReset kind s) :=
  ⟨rfl, fun _ hs =>
    ⟨hs.mapLinks (f := fun k => { k with rack := k.rack.stopped .lost, campus := k.campus.stopped .lost })
      fun _ h => h, rfl⟩⟩

/-- An assertion of TAMPER_N that has emptied the store acts by the mode (R170). -/
theorem tamperByMode_quietOutsideRunning {s : State} (hs : s.quietOutsideRunning) :
    (tamperByMode s).quietOutsideRunning := by
  unfold tamperByMode
  split
  · exact hs
  · exact alarmEntry_quietOutsideRunning _ s
  · exact hs
  · exact hs

/-! ### Requests (R185) -/

/-- A request outside ALARM's list is admitted in RUNNING alone (R185). -/
theorem running_of_admitted {m : Mode} {code : Byte} (hadmitted : modeRefusal m code = none)
    (h : alarmAdmits.contains code = false) : m = .running := by
  have hsublist : ∀ codes : List Byte, codes ⊆ alarmAdmits → codes.contains code = false := by
    simp only [List.contains_eq_mem, decide_eq_false_iff_not] at h ⊢
    exact fun codes hsub => mt (@hsub code) h
  have hstarting := hsublist [0x01, 0x02, 0x03] (by decide)
  have hfailed := hsublist [0x01, 0x02, 0x03, 0x63, 0x60] (by decide)
  cases m with
  | running => rfl
  | starting => simp only [modeRefusal, hstarting] at hadmitted; cases hadmitted
  | alarm => simp only [modeRefusal, h] at hadmitted; cases hadmitted
  | failed => simp only [modeRefusal, hfailed] at hadmitted; cases hadmitted

/-- A request for RUNNING alone whose effect keeps the mode leaves nothing to show. -/
theorem answerDone_quietOutsideRunning {s t : State} {code : Byte} (hadmitted : modeRefusal s.mode code = none)
    (hcode : alarmAdmits.contains code = false) (hmode : t.mode = s.mode) :
    answerLeaves State.quietOutsideRunning (answerDone t) :=
  answerLeaves_done (State.quietOutsideRunning_of_running (hmode.trans (running_of_admitted hadmitted hcode)))

theorem judgeSwitch_mode (i : StreamNo) (s : State) :
    answerLeaves (fun t => t.mode = s.mode) (judgeSwitch i s) := by
  have hrequested : ∀ a, answerLeaves (fun t => t.mode = s.mode) (answerDone (requestSwitch i a s)) := by
    intro a
    obtain ⟨_, _, h⟩ := requestSwitch_touches i a s
    exact answerLeaves_done (by rw [h])
  unfold judgeSwitch
  split
  · exact answerLeaves_refuse _ _
  · exact answerLeaves_refuse _ _
  · exact answerLeaves_refuse _ _
  · split
    · exact hrequested _
    · exact hrequested _
    · exact answerLeaves_refuse _ _

theorem State.quiet.modOut {s : State} (hs : s.quiet) {i : StreamNo} {f : OutStream → OutStream}
    (hslots : ∀ st, (f st).slots = st.slots) (hstate : ∀ st, (f st).state = st.state) : (s.modOut i f).quiet := by
  obtain ⟨hout, hin, hstreams, hrest⟩ := hs
  have hsame : ∀ j, ((s.modOut i f).outStream j).slots = (s.outStream j).slots ∧
      ((s.modOut i f).outStream j).state = (s.outStream j).state := by
    intro j
    rw [outStream_modOut]
    split
    next h => rw [h]; exact ⟨hslots _, hstate _⟩
    next => exact ⟨rfl, rfl⟩
  refine ⟨fun j k => ?_, hin, fun j => ?_, hrest⟩
  · rw [State.outSlot, (hsame j).1]
    exact hout j k
  · rw [(hsame j).2]
    exact hstreams j

theorem State.quiet.modIn {s : State} (hs : s.quiet) {i : StreamNo} {f : InStream → InStream}
    (hslots : ∀ st, (f st).slots = st.slots) : (s.modIn i f).quiet := by
  obtain ⟨hout, hin, hrest⟩ := hs
  refine ⟨hout, fun j k => ?_, hrest⟩
  have hsame : ((s.modIn i f).inStream j).slots = (s.inStream j).slots := by
    rw [inStream_modIn]
    split
    next h => rw [h]; exact hslots _
    next => rfl
  rw [State.inSlot, hsame]
  exact hin j k

/-- Counters are no part of what a quiet part is without (R188). -/
theorem zeroScope_keepsQuiet (scope : Nat) (l : LinkNo) (i : StreamNo) (s : State) :
    s.keepsQuiet (zeroScope scope l i s) := by
  unfold zeroScope
  split
  · exact self s
  · exact .modLink fun _ h => h
  · exact .modLink fun _ h => h
  · exact .modLink fun _ h => h
  · exact ⟨rfl, fun _ hs => ⟨hs.modOut (fun _ => rfl) (fun _ => rfl), rfl⟩⟩
  · exact ⟨rfl, fun _ hs => ⟨hs.modIn (fun _ => rfl), rfl⟩⟩

theorem setTime_keepsQuiet (seconds : Nat) (s : State) : s.keepsQuiet (setTime seconds s) := by
  obtain ⟨k, ls, o, i, n, t, h⟩ := triggersEvent_touches (.timeSet seconds)
    { s with time := { s.time with seconds := seconds, micros := 0, valid := true } }
  refine ⟨by rw [setTime, h], fun _ hs => ?_⟩
  have hset : State.quiet { s with time := { s.time with seconds := seconds, micros := 0, valid := true } } := hs
  rw [setTime, hset.triggersEvent_eq]
  exact ⟨hset, rfl⟩

/-- ZEROIZE makes ALARM entry in RUNNING and empties the store elsewhere (R172). -/
theorem zeroizeEffect_quietOutsideRunning {s : State} (hs : s.quietOutsideRunning) :
    (zeroizeEffect s).quietOutsideRunning := by
  obtain ⟨hrest, -⟩ := hs
  unfold zeroizeEffect
  split
  · exact alarmEntry_quietOutsideRunning _ s
  · exact ⟨hrest, fun _ => rfl⟩

/-- Every request of Table 10-4 that the mode admits and that is not refused keeps a part outside RUNNING quiet. -/
theorem requestTable_quietOutsideRunning :
    ∀ r ∈ requestTable, ∀ (ps : List Byte) (s : State), modeRefusal s.mode r.code = none → s.quietOutsideRunning →
      answerLeaves State.quietOutsideRunning (r.judge ps s) := by
  simp only [requestTable, List.forall_mem_append, List.forall_mem_cons]
  refine ⟨⟨⟨⟨⟨⟨?poll, ?identify, ?readStatus, ?readNotices, ?noticeSetup, ?readCounters, ?deviceSetup, nofun⟩,
    ?linkSetup, ?rampSet, ?linkStart, ?linkStop, ?readLink, ?readLinkChanges, nofun⟩,
    ?rulePut, ?ruleDrop, ?readRule, nofun⟩,
    ?streamOpen, ?streamClose, ?readStream, ?keyLoad, ?keyRetire, ?keySwitch, ?kwkLoad, ?kwkErase, nofun⟩,
    ?timeSet, ?timeTrim, ?timeRead, ?triggerArm, ?triggerCancel, ?triggerRelease, ?readTrigger, nofun⟩,
    ?restart, ?zeroize, ?alarmClear, ?readRetained, nofun⟩
  all_goals intro ps s hadmitted hs
  -- the requests that only RUNNING admits
  case deviceSetup | linkSetup | rampSet | linkStart | rulePut | ruleDrop | kwkLoad | kwkErase | triggerArm
    | triggerCancel | triggerRelease =>
    exact answerLeaves_checked (answerDone_quietOutsideRunning hadmitted (by decide) rfl)
  case linkStop =>
    refine answerLeaves_checked (answerDone_quietOutsideRunning hadmitted (by decide) ?_)
    unfold stopLink
    split
    · exact drainLink_mode _ _ s
    · exact stopLinkNow_mode _ _ s
  case streamOpen =>
    refine answerLeaves_checked (answerDone_quietOutsideRunning hadmitted (by decide) ?_)
    unfold openStream
    split <;> rfl
  case streamClose =>
    exact answerLeaves_checked (answerDone_quietOutsideRunning hadmitted (by decide) (closeStream_mode _ _ s))
  case keyLoad =>
    exact answerLeaves_checked (answerDone_quietOutsideRunning hadmitted (by decide) (startLoad_mode _ s))
  case keyRetire =>
    obtain ⟨_, _, _, _, _, h⟩ := retireKey_touches (dirAt ps 0) (streamAt ps 1) (slotAt ps 2) s
    exact answerLeaves_checked (answerDone_quietOutsideRunning hadmitted (by decide) (by rw [h]))
  case keySwitch =>
    refine answerLeaves_checked fun content t hanswer => State.quietOutsideRunning_of_running ?_
    exact (judgeSwitch_mode _ s content t hanswer).trans (running_of_admitted hadmitted (by decide))
  -- the requests that other modes let through as well
  case readCounters =>
    refine answerLeaves_checked (answerLeaves_data _ (State.keepsQuiet.invariant ?_ hs))
    exact .ite (fun _ => self s) (fun _ => zeroScope_keepsQuiet _ _ _ s)
  case timeSet => exact answerLeaves_done ((setTime_keepsQuiet _ s).invariant hs)
  case zeroize => exact answerLeaves_done (zeroizeEffect_quietOutsideRunning hs)
  case alarmClear => exact answerLeaves_checked (answerLeaves_done (State.quietOutsideRunning_of_running rfl))
  case readStream => exact answerLeaves_checked (answerLeaves_ok _ hs)
  case poll | identify | readStatus | readLinkChanges | timeRead | readRetained => exact answerLeaves_data _ hs
  case readNotices | readLink | readRule | readTrigger => exact answerLeaves_checked (answerLeaves_data _ hs)
  case noticeSetup | timeTrim => exact answerLeaves_checked (answerLeaves_done hs)
  case restart => exact answerLeaves_done hs

/-! ### What arrives on the management line (R179 to R183) -/

/-- What a byte or a whole record can do: change the line alone, or have a request of Table 10-4 judged and answered. -/
inductive State.lineEvent (s : State) : State → Prop
  | line (f : Line → Line) : s.lineEvent (s.modLine f)
  | request {r : Request} (hr : r ∈ requestTable) (ps : List Byte) : s.lineEvent (answerRequest r ps s)

theorem State.lineEvent.self (s : State) : s.lineEvent s := .line id

theorem recordArrives_lineEvent (len : Nat) {f : State → State} {s : State} (hf : s.lineEvent (f s)) :
    s.lineEvent (recordArrives len f s) := by
  unfold recordArrives
  split
  · exact .self s
  · split
    · exact .line _
    · exact hf

theorem takeRecord_lineEvent (body : List Byte) (s : State) : s.lineEvent (takeRecord body s) := by
  unfold takeRecord
  split
  · exact .line _
  · split
    next hrequest => exact .request (List.mem_of_find?_eq_some hrequest) _
    next =>
      unfold answerUnknown setReply
      exact .line _

theorem judgeRecord_lineEvent (head : Byte) (body : List Byte) (check : Byte) (s : State) :
    s.lineEvent (judgeRecord head body check s) := by
  unfold judgeRecord
  split
  · exact .line _
  · split
    · exact takeRecord_lineEvent body s
    · exact .line _

/-- A byte either moves the assembly or completes a record (R179). -/
theorem receiveByte_lineEvent (byte : Byte) (s : State) : s.lineEvent (receiveByte byte s) := by
  unfold receiveByte assembleByte
  split
  · exact .line _
  · split
    · split
      · exact .line _
      · exact .self s
    · exact .line _
    · split
      · exact .line _
      · exact .line _
    · split
      · exact .line _
      · exact .line _
    · exact judgeRecord_lineEvent _ _ byte s

/-- A request that is answered and not refused is admitted by the mode (R183, R185). -/
theorem answer_of_judgement {r : Request} {ps : List Byte} {s t : State} {content : Option ReplyContent}
    (h : judgement r ps s = .ok (content, t)) :
    modeRefusal s.mode r.code = none ∧ r.judge ps s = .ok (content, t) := by
  unfold judgement at h
  split at h
  · cases h
  · split at h
    · cases h
    next hadmitted => exact ⟨hadmitted, h⟩

theorem State.lineEvent.quietOutsideRunning {s t : State} (h : s.lineEvent t) (hs : s.quietOutsideRunning) :
    t.quietOutsideRunning := by
  cases h with
  | line f => exact hs
  | @request r hr ps =>
    unfold answerRequest
    split
    · exact hs
    next content u hanswer =>
      obtain ⟨hadmitted, hjudged⟩ := answer_of_judgement hanswer
      have hu : u.quietOutsideRunning := requestTable_quietOutsideRunning r hr ps s hadmitted hs content u hjudged
      exact hu

/-! ### Every command -/

theorem quietOutsideRunning_of_next {t u : State} (h : (.next u : Host.Outcome State Fault Refusal) = .next t)
    (hu : u.quietOutsideRunning) : t.quietOutsideRunning := by
  cases h
  exact hu

/-- A command that does nothing while a reset is held (R166). -/
theorem quietOutsideRunning_of_unlessHeld {f : State → State} {s t : State}
    (h : (.next (unlessHeld f s) : Host.Outcome State Fault Refusal) = .next t) (hs : s.quietOutsideRunning)
    (hf : (f s).quietOutsideRunning) : t.quietOutsideRunning := by
  refine quietOutsideRunning_of_next h ?_
  unfold unlessHeld
  split
  · exact hs
  · exact hf

/-- An event that keeps a part outside RUNNING quiet. -/
theorem quietOutsideRunning_of_event {f : State → State} {s t : State}
    (h : (.next (unlessHeld f s) : Host.Outcome State Fault Refusal) = .next t) (hs : s.quietOutsideRunning)
    (hf : s.keepsQuiet (f s)) : t.quietOutsideRunning :=
  quietOutsideRunning_of_unlessHeld h hs (hf.invariant hs)

/-- Every command keeps a part outside RUNNING quiet. -/
theorem exec_quietOutsideRunning (c : Instr) {s t : State} (h : exec c s = .next t) (hs : s.quietOutsideRunning) :
    t.quietOutsideRunning := by
  cases c with
  | poll | identify | readStatus | readNotices | noticeSetup | readCounters | deviceSetup | linkSetup | rampSet
  | linkStart | linkStop | readLink | readLinkChanges | rulePut | ruleDrop | readRule | streamOpen | streamClose
  | readStream | keyLoad | keyRetire | keySwitch | kwkLoad | kwkErase | timeSet | timeTrim | timeRead
  | triggerArm | triggerCancel | triggerRelease | readTrigger | restart | zeroize | alarmClear | readRetained =>
    exact quietOutsideRunning_of_next h
      ((recordArrives_lineEvent _ (.request (by simp [requestTable]) _)).quietOutsideRunning hs)
  | unknownRequest code ps =>
    exact quietOutsideRunning_of_next h
      ((recordArrives_lineEvent _ (takeRecord_lineEvent _ s)).quietOutsideRunning hs)
  | recordCheckFailed head body check =>
    exact quietOutsideRunning_of_next h
      ((recordArrives_lineEvent _ (judgeRecord_lineEvent _ _ _ s)).quietOutsideRunning hs)
  | recordIgnored head body check =>
    exact quietOutsideRunning_of_next h
      ((recordArrives_lineEvent _ (judgeRecord_lineEvent _ _ _ s)).quietOutsideRunning hs)
  | byteReceived byte =>
    exact quietOutsideRunning_of_unlessHeld h hs ((receiveByte_lineEvent byte s).quietOutsideRunning hs)
  | recordLenInvalid len =>
    refine quietOutsideRunning_of_event h hs ?_
    split
    · exact .ite (fun _ => self s) (fun _ => self s)
    · exact self s
  | framingError =>
    refine quietOutsideRunning_of_event h hs (.ite (fun _ => self s) (fun _ => ?_))
    unfold badStopBit
    split <;> exact self s
  | recordGapTimeout =>
    refine quietOutsideRunning_of_event h hs ?_
    split <;> exact self s
  | overlapByte byte => exact quietOutsideRunning_of_event h hs (.ite (fun _ => self s) (fun _ => self s))
  | replyEnd =>
    refine quietOutsideRunning_of_event h hs (.ite (fun _ => .ite (fun _ => ?_) (fun _ => self s)) (fun _ => self s))
    exact holdReset_keepsQuiet .restart (s.modLine fun ln => { ln with assembly := .hunt, reply := none })
  | powerOn => exact quietOutsideRunning_of_next h ((holdReset_keepsQuiet .powerOn s).invariant hs)
  | pinReset => exact quietOutsideRunning_of_next h ((holdReset_keepsQuiet _ s).invariant hs)
  | resetRelease address rateHigh =>
    refine quietOutsideRunning_of_next h ?_
    split
    · exact released_quietOutsideRunning _ _ _ s
    · exact hs
  | selfTestComplete passed =>
    refine quietOutsideRunning_of_unlessHeld h hs ?_
    split
    next hstarting => exact completeSelfTest_quietOutsideRunning passed hstarting hs
    next => exact hs
  | tamperAssert =>
    obtain ⟨hrest, -⟩ := id hs
    have hlevel : State.quietOutsideRunning { s with tamperAsserted := true, kwk := none } := ⟨hrest, fun _ => rfl⟩
    refine quietOutsideRunning_of_next h ?_
    split
    · exact hs
    · unfold unlessHeld
      split
      · exact hlevel
      · exact tamperByMode_quietOutsideRunning hlevel
  | tamperDeassert => exact quietOutsideRunning_of_next h hs
  | referenceTick => exact quietOutsideRunning_of_event h hs (tick_keepsQuiet s)
  | rampStageEnd link =>
    refine quietOutsideRunning_of_event h hs ?_
    split
    · exact .ite (fun _ => .modLink fun _ hk => hk) (fun _ => self s)
    · exact self s
  | pauseRefresh link =>
    refine quietOutsideRunning_of_event h hs ?_
    split
    · exact .ite (fun _ => .modLink fun _ hk => hk.refreshMicro) (fun _ => self s)
    · exact self s
  | graceExpiry stream slot =>
    refine quietOutsideRunning_of_event h hs ?_
    refine .ite (fun hends => of_mode (leaveInSlot_mode stream slot s) fun _ hquiet => ?_) (fun _ => self s)
    obtain ⟨hgrace, -⟩ := hends
    exact absurd hgrace (hquiet.not_grace stream slot)
  | lifetimeExpiry stream =>
    refine quietOutsideRunning_of_event h hs ?_
    split
    next a hactive =>
      refine .ite (fun _ => of_mode (secondAtSlot_mode stream a s) fun _ hquiet => ?_) (fun _ => self s)
      exact absurd hactive (hquiet.not_active stream a)
    next => exact self s
  | pulseEdge => exact quietOutsideRunning_of_event h hs (edge_keepsQuiet s)
  | triggerFire slot event =>
    refine quietOutsideRunning_of_event h hs ?_
    split
    next c a harmed =>
      refine .ite (fun _ => of_mode (fireTrigger_mode _ _ _ s) fun _ hquiet => ?_) (fun _ => self s)
      obtain ⟨-, -, -, -, -, -, -, htriggers⟩ := hquiet
      exact nomatch (htriggers slot).symm.trans harmed
    next => exact self s
  | faceUp link side =>
    exact quietOutsideRunning_of_event h hs
      (.ite (fun _ => self s) fun _ => noteChange_modLink_keepsQuiet link side s fun _ hk => hk.wentUp side)
  | faceDown link side =>
    exact quietOutsideRunning_of_event h hs
      (.ite (fun _ => noteChange_modLink_keepsQuiet link side s fun _ hk => hk.wentDown side) fun _ => self s)
  | frameReceived link side frame =>
    exact quietOutsideRunning_of_event h hs
      (.ite (fun _ => .modLink fun _ hk => hk.received side frame) (fun _ => self s))
  | pauseSend link =>
    exact quietOutsideRunning_of_event h hs (.ite (fun _ => .modLink fun _ hk => hk) (fun _ => self s))
  | transmissionEnd link side => exact quietOutsideRunning_of_event h hs (.modLink fun _ hk => hk.modFace side _)
  | outboundGrant read =>
    refine quietOutsideRunning_of_event h hs ?_
    split
    next r n hnext =>
      refine .ite (fun _ => of_mode (grantOutbound_mode _ n read _) fun hne _ => ?_) (fun _ => self s)
      exact nomatch (nextGrant_eq_none_of_not_running hne).symm.trans hnext
    next => exact self s
  | inboundGrant read =>
    refine quietOutsideRunning_of_event h hs ?_
    split
    next r n hnext =>
      refine .ite (fun _ => self s) (fun _ => of_mode (grantInbound_mode _ n read _) fun hne _ => ?_)
      exact nomatch (nextGrant_eq_none_of_not_running hne).symm.trans hnext
    next => exact self s
  | keyPreparationGrant =>
    refine quietOutsideRunning_of_event h hs ?_
    split
    next n hnext =>
      refine of_mode (grantKeyUnit_mode n _) fun hne _ => ?_
      exact nomatch (nextGrant_eq_none_of_not_running hne).symm.trans hnext
    next => exact self s
  | laneCompletion lane =>
    refine quietOutsideRunning_of_event h hs ?_
    have hfree : s.quiet → s.lanes.get lane = .free := fun ⟨_, _, _, _, _, hlanes, _⟩ => hlanes lane
    split
    next hlane => exact of_mode rfl fun _ hquiet => nomatch (hfree hquiet).symm.trans hlane
    next hlane => exact of_mode rfl fun _ hquiet => nomatch (hfree hquiet).symm.trans hlane
    next => exact self s
  | keyJobCompletion =>
    refine quietOutsideRunning_of_event h hs ?_
    split
    next n j _ hworking _ =>
      refine of_mode (completeJob_mode n j s) fun _ hquiet => ?_
      obtain ⟨-, -, -, -, hidle, -⟩ := hquiet
      exact nomatch hidle.symm.trans hworking
    next => exact self s
  | outboundRelease link =>
    exact quietOutsideRunning_of_event h hs
      (of_mode (releaseOutbound_mode link s) fun _ hquiet => hquiet.releaseOutbound_eq link)
  | inboundRelease link =>
    exact quietOutsideRunning_of_event h hs
      (of_mode (releaseInbound_mode link s) fun _ hquiet => hquiet.releaseInbound_eq link)
  | drainComplete link =>
    exact quietOutsideRunning_of_event h hs
      (of_mode (drainCheck_mode link s) fun _ hquiet => hquiet.drainCheck_eq link)

/-- Settles O12: outside RUNNING a quiet part leaves every event nothing but faces, the time base and counters to change,
the mode table admits no request that loads, starts or arms, and RUNNING is left by ALARM entry or a release alone. -/
theorem onlyRunningHoldsKeys : Obligations.OnlyRunningHoldsKeys := by
  intro s t hs hstep
  unfold step at hstep
  split at hstep
  · cases hstep
    exact hs
  · exact exec_quietOutsideRunning _ hstep hs

end Sys2Proof.Machine
end

section
/-! SUPPORT. Resets, the self-test, TAMPER_N and ALARM entry (chapter 9), and the requests that reach them: what each
writes and which notices it raises. -/

namespace Sys2Proof.Machine

/-! ### A held reset (R166) -/

theorem recordArrives_of_held {s : State} (h : s.resetHeld ≠ none) (len : Nat) (f : State → State) :
    recordArrives len f s = s :=
  if_pos (Option.isSome_iff_ne_none.2 h)

theorem unlessHeld_of_held {s : State} (h : s.resetHeld ≠ none) (f : State → State) : unlessHeld f s = s :=
  if_pos (Option.isSome_iff_ne_none.2 h)

/-- Settles O4: every request and record is behind `recordArrives`, and every event but the five behind `unlessHeld`. -/
theorem heldPartTakesOnlyResets : Obligations.HeldPartTakesOnlyResets := by
  intro c s hheld hreaches
  cases c with
  | powerOn | pinReset | resetRelease | tamperAssert | tamperDeassert => cases hreaches
  | poll | identify | readStatus | readNotices | noticeSetup | readCounters | deviceSetup | linkSetup | rampSet
  | linkStart | linkStop | readLink | readLinkChanges | rulePut | ruleDrop | readRule | streamOpen | streamClose
  | readStream | keyLoad | keyRetire | keySwitch | kwkLoad | kwkErase | timeSet | timeTrim | timeRead
  | triggerArm | triggerCancel | triggerRelease | readTrigger | restart | zeroize | alarmClear | readRetained
  | unknownRequest | recordCheckFailed | recordIgnored =>
    exact congrArg Host.Outcome.next (recordArrives_of_held hheld _ _)
  | recordLenInvalid | framingError | recordGapTimeout | overlapByte | replyEnd | byteReceived | selfTestComplete
  | referenceTick | rampStageEnd | pauseRefresh | graceExpiry | lifetimeExpiry | pulseEdge | triggerFire | faceUp
  | faceDown | frameReceived | pauseSend | transmissionEnd | outboundGrant | inboundGrant | keyPreparationGrant
  | laneCompletion | keyJobCompletion | outboundRelease | inboundRelease | drainComplete =>
    exact congrArg Host.Outcome.next (unlessHeld_of_held hheld _)

/-- A transmission stopped before its end leaves the transmitter idle. -/
@[simp] theorem Face.stopped_tx (f : Face) (e : TxEnding) : (f.stopped e).tx = .idle := by
  unfold Face.stopped
  split
  next h => exact h
  next => rfl

/-- While a reset is held no reply, no frame and no notice leaves the part (R166, R181, R191). -/
theorem holdReset_silences (kind : ResetKind) (s : State) :
    (holdReset kind s).line.reply = none ∧ attnAsserted (holdReset kind s) = false ∧
      ∀ l, ((holdReset kind s).link l).rack.tx = .idle ∧ ((holdReset kind s).link l).campus.tx = .idle := by
  refine ⟨rfl, rfl, fun l => ?_⟩
  simp only [State.link, holdReset, get_mapTable, Face.stopped_tx, and_self]

/-- Settles O41: both resets are `holdReset`, the release is `released`, and the reset columns are those of
`State.reset`. -/
theorem resetsTakeHold : Obligations.ResetsTakeHold := by
  intro address rate kind s
  refine ⟨?powerOn, ?pinReset, fun hheld => ?release, rfl, rfl, rfl, rfl, rfl, rfl, rfl, rfl, rfl, rfl, rfl, rfl,
    fun i => get_replicate _ i, fun i => get_replicate _ i, fun l => get_replicate _ l, fun r => get_replicate _ r,
    fun j => get_replicate _ j, fun n => get_replicate _ n, fun k => get_replicate _ k⟩
  case powerOn => exact ⟨_, rfl, rfl, rfl, rfl, holdReset_silences .powerOn s⟩
  case pinReset => exact ⟨_, rfl, rfl, rfl, rfl, holdReset_silences (pinCause s.resetHeld) s⟩
  case release =>
    simp only [exec, execResetRelease, hheld]
    rfl

/-! ### TAMPER_N (R170) -/

theorem exec_tamperAssert_of_deasserted {s : State} (h : s.tamperAsserted = false) :
    exec .tamperAssert s = .next (unlessHeld tamperByMode { s with tamperAsserted := true, kwk := none }) :=
  congrArg Host.Outcome.next (if_neg (Bool.eq_false_iff.1 h))

/-- The assertion with no reset held acts by the mode. -/
theorem exec_tamperAssert_of_not_held {s : State} (h : s.tamperAsserted = false) (hreset : s.resetHeld = none) :
    exec .tamperAssert s = .next (tamperByMode { s with tamperAsserted := true, kwk := none }) := by
  rw [exec_tamperAssert_of_deasserted h,
    unlessHeld_of_not_held (s := { s with tamperAsserted := true, kwk := none }) hreset]

/-- Settles O43: a held reset stops an assertion at the emptied store, and `tamperByMode` answers each mode. -/
theorem tamperActsByTheMode : Obligations.TamperActsByTheMode := by
  intro s
  refine ⟨fun h hheld => ?held, fun h hreset hmode => ?starting, fun h hreset hmode => ?running,
    fun h hreset hmode => ?alarmed, fun h => congrArg Host.Outcome.next (if_pos h), rfl⟩
  case held =>
    rw [exec_tamperAssert_of_deasserted h,
      unlessHeld_of_held (s := { s with tamperAsserted := true, kwk := none }) hheld]
  all_goals rw [exec_tamperAssert_of_not_held h hreset]
  case starting => simp only [tamperByMode, hmode]
  case running => simp only [tamperByMode, hmode]
  case alarmed => rcases hmode with hmode | hmode <;> simp only [tamperByMode, hmode]

/-! ### ALARM entry (R171) -/

/-- LINK_STOPPED is raised for the links that ran (R149). -/
theorem raiseLinksStopped_raisesExactly (before s : State) :
    s.raisesExactly (raiseLinksStopped before s) fun n m =>
      n = .linkStopped ∧ ∃ l, m = .link l ∧ (before.link l).state ≠ .off := by
  have hone : ∀ (x : State) (l : LinkNo),
      x.raisesExactly (if (before.link l).state = .off then x else raise .linkStopped (.link l) x) fun n m =>
        n = .linkStopped ∧ m = .link l ∧ (before.link l).state ≠ .off := by
    intro x l
    split
    next hoff => exact State.raisesExactly_of_notices rfl fun _ _ h => h.2.2 hoff
    next hruns => exact State.raisesExactly_congr (raise_raisesExactly _ _ x) fun n m => by simp [hruns]
  have hall := foldl_raisesExactly (v := fun _ l => (before.link l).state)
    (r := fun l x n m => n = .linkStopped ∧ m = .link l ∧ x ≠ .off) (fun _ _ _ _ => rfl) hone s (List.nodup_finRange 4)
  exact State.raisesExactly_congr hall fun n m => by simp

theorem alarmEntry_raisesExactly (cause : AlarmCause) (s : State) :
    s.raisesExactly (alarmEntry cause s) fun n m =>
      (n = .alarm ∧ m = .none) ∨ (n = .linkStopped ∧ ∃ l, m = .link l ∧ (s.link l).state ≠ .off) := by
  -- the record update before the raisings keeps the notice block, so they start from that of `s`
  have hstopped := raiseLinksStopped_raisesExactly s (s.alarmed cause)
  have hboth := State.raisesExactly_trans (s := s) hstopped (raise_raisesExactly .alarm .none _)
  exact State.raisesExactly_congr hboth fun n m => or_comm

theorem Face.alarmed_eq (f : Face) :
    f.alarmed =
      match f.tx with
      | .data _ => { f with tx := .idle, lastEnding := .cutBadFcs }
      | .pause _ => f
      | .idle => f := by
  unfold Face.alarmed
  cases f.tx <;> rfl

/-- Settles O44: ALARM entry is `State.alarmed`, each block's own response, with notices beside it. -/
theorem alarmEntryErasesKeys : Obligations.AlarmEntryErasesKeys := by
  intro cause s t
  obtain ⟨notices, ht⟩ : ∃ n, t = { s.alarmed cause with notices := n } := alarmEntry_touches cause s
  have hraised : s.raisesExactly t _ := alarmEntry_raisesExactly cause s
  clear_value t
  subst ht
  refine ⟨rfl, rfl, fun i k => ?outSlot, fun i k => ?inSlot, fun i => ?outStream, fun i => ?inStream, rfl,
    fun n => get_replicate _ n, rfl, fun j => get_replicate _ j, fun l => ?link, rfl, hraised, rfl⟩
  case outSlot => exact (s.alarmed_outSlot cause i k).trans (OutSlot.alarmed_eq _)
  case inSlot => exact (s.alarmed_inSlot cause i k).trans (InSlot.alarmed_eq _)
  case outStream =>
    simp only [State.outStream, State.alarmed, get_mapTable]
    rfl
  case inStream =>
    simp only [State.inStream, State.alarmed, get_mapTable]
    rfl
  case link =>
    have hlink := get_mapTable Link.alarmed s.links l
    rw [Link.alarmed, Face.alarmed_eq, Face.alarmed_eq] at hlink
    exact hlink

/-! ### The self-test (R168, R175) -/

theorem laneCount_eq_countP (lanes : BitVec 8) :
    laneCount lanes = (List.finRange 8).countP fun n => lanes.getLsbD n.1 := by
  rw [laneCount, ← List.countP_eq_length_filter, ← List.map_coe_finRange_eq_range, List.countP_map]
  rfl

theorem noLaneFailed_iff (passed : BitVec 8) : ~~~ passed = 0 ↔ passed = 0xFF := by
  constructor
  · intro h
    rw [← BitVec.not_not (b := passed), h]
    rfl
  · rintro rfl
    rfl

@[simp] theorem Retained.tested_valid (r : Retained) (failed : BitVec 8) (few : Bool) :
    (r.tested failed few).valid = true := by
  unfold Retained.tested
  split
  next h => exact h
  next => rfl

@[simp] theorem Retained.tested_lanesFailed (r : Retained) (failed : BitVec 8) (few : Bool) :
    (r.tested failed few).lanesFailed = failed := by
  unfold Retained.tested
  split <;> rfl

@[simp] theorem Retained.tested_testFailed (r : Retained) (failed : BitVec 8) (few : Bool) :
    (r.tested failed few).testFailed = few := by
  unfold Retained.tested
  split <;> rfl

/-- A record that was valid keeps its alarm fields; any other has them initialised (R175). -/
theorem Retained.tested_alarmFields (r : Retained) (failed : BitVec 8) (few : Bool) :
    (r.valid = true →
      (r.tested failed few).cause = r.cause ∧ (r.tested failed few).seconds = r.seconds ∧
        (r.tested failed few).timeValid = r.timeValid ∧ (r.tested failed few).alarmCount = r.alarmCount) ∧
    (¬ r.valid = true →
      (r.tested failed few).cause = .none ∧ (r.tested failed few).seconds = 0 ∧
        (r.tested failed few).timeValid = false ∧ (r.tested failed few).alarmCount = 0) := by
  constructor
  · intro h
    rw [Retained.tested, if_pos h]
    exact ⟨rfl, rfl, rfl, rfl⟩
  · intro h
    rw [Retained.tested, if_neg h]
    exact ⟨rfl, rfl, rfl, rfl⟩

/-- The lane pool and the retained record at the end of the self-test, before the notice and the mode. -/
def State.pooled (passed : BitVec 8) (s : State) : State :=
  { s with
    lanesEnabled := passed
    lanesFailed := ~~~ passed
    lanes := Vector.replicate 8 .free
    retained := s.retained.tested (~~~ passed) (decide (laneCount passed < 2)) }

/-- The state in which the mode is decided: LANES_DEGRADED is raised where a lane failed. -/
def State.selfTested (passed : BitVec 8) (s : State) : State :=
  if ~~~ passed = 0 then s.pooled passed else raise .lanesDegraded .none (s.pooled passed)

theorem State.selfTested_touches (passed : BitVec 8) (s : State) :
    ∃ n, s.selfTested passed = { s.pooled passed with notices := n } := by
  unfold State.selfTested
  split
  · exact ⟨s.notices, rfl⟩
  · exact ⟨_, rfl⟩

theorem State.selfTested_raisesExactly (passed : BitVec 8) (s : State) :
    s.raisesExactly (s.selfTested passed) fun n m => n = .lanesDegraded ∧ m = .none ∧ passed ≠ 0xFF := by
  unfold State.selfTested
  split
  next hall =>
    have hnone : passed = 0xFF := (noLaneFailed_iff passed).1 hall
    exact State.raisesExactly_of_notices rfl fun _ _ h => h.2.2 hnone
  next hsome =>
    have hfailed : passed ≠ 0xFF := mt (noLaneFailed_iff passed).2 hsome
    exact State.raisesExactly_congr (raise_raisesExactly _ _ (s.pooled passed)) fun n m =>
      ⟨fun ⟨hn, hm⟩ => ⟨hn, hm, hfailed⟩, fun ⟨hn, hm, _⟩ => ⟨hn, hm⟩⟩

/-- The mode is decided by the lanes that passed, then by the tamper mark (R168). -/
theorem completeSelfTest_eq (passed : BitVec 8) (s : State) :
    completeSelfTest passed s =
      if laneCount passed < 2 then { s.selfTested passed with mode := .failed }
      else if s.tamperMark then alarmEntry .tamper (s.selfTested passed)
      else { s.selfTested passed with mode := .running } := by
  have hmark : (s.selfTested passed).tamperMark = s.tamperMark := by
    obtain ⟨n, h⟩ := s.selfTested_touches passed
    rw [h]
    rfl
  rw [← hmark]
  unfold completeSelfTest
  simp only [decide_eq_true_eq]
  rfl

theorem exec_selfTestComplete_of_starting (passed : BitVec 8) {s : State} (hreset : s.resetHeld = none)
    (hmode : s.mode = .starting) :
    exec (.selfTestComplete passed) s = .next (completeSelfTest passed s) := by
  simp only [exec, execSelfTestComplete, unlessHeld_of_not_held hreset, hmode, if_true]

/-- Settles O42: the self-test is `completeSelfTest_eq`, the retained record `Retained.tested`, and the state in which the
mode is decided `State.selfTested`. -/
theorem selfTestDecidesTheMode : Obligations.SelfTestDecidesTheMode := by
  intro passed s hreset hmode few kept
  have hfew : laneCount passed < 2 ↔ few := by rw [laneCount_eq_countP]
  have hvalid := s.retained.tested_valid (~~~ passed) (decide (laneCount passed < 2))
  have hlanesFailed := s.retained.tested_lanesFailed (~~~ passed) (decide (laneCount passed < 2))
  have htestFailed : (s.retained.tested (~~~ passed) (decide (laneCount passed < 2))).testFailed = true ↔ few := by
    rw [Retained.tested_testFailed, decide_eq_true_iff, hfew]
  obtain ⟨hkept, hfresh⟩ := s.retained.tested_alarmFields (~~~ passed) (decide (laneCount passed < 2))
  have hfree : ∀ n, (Vector.replicate 8 Lane.free).get n = .free := fun n => get_replicate _ n
  have hraised := s.selfTested_raisesExactly passed
  obtain ⟨notices, htested⟩ := s.selfTested_touches passed
  refine ⟨completeSelfTest passed s, exec_selfTestComplete_of_starting passed hreset hmode, ?_⟩
  rw [completeSelfTest_eq]
  rw [htested] at hraised ⊢
  by_cases hlow : few
  case pos =>
    rw [if_pos (hfew.2 hlow)]
    exact ⟨rfl, rfl, hfree, hvalid, hlanesFailed, htestFailed, fun _ => rfl, fun h => absurd hlow h,
      fun h => absurd hlow h, fun h => absurd hlow h, fun _ => ⟨hkept, hfresh, rfl, hraised⟩, fun h => absurd hlow h⟩
  case neg =>
    rw [if_neg (mt hfew.1 hlow)]
    by_cases hmark : s.tamperMark = true
    case pos =>
      obtain ⟨notices', halarm⟩ := alarmEntry_touches .tamper { s.pooled passed with notices := notices }
      have hmarked : s.tamperMark ≠ false := by rw [hmark]; exact nofun
      rw [if_pos hmark, halarm]
      refine ⟨rfl, rfl, hfree, hvalid, hlanesFailed, htestFailed, fun h => absurd h hlow, fun _ _ => ⟨rfl, rfl⟩,
        fun _ h => absurd h hmarked, fun _ _ => ⟨rfl, rfl, rfl, fun h => ?counted, fun h => ?first⟩,
        fun h => absurd h (not_or_intro hlow hmarked), fun _ _ => ⟨_, halarm.symm, rfl, hraised⟩⟩
      case counted =>
        obtain ⟨-, -, -, hcount⟩ := hkept h
        exact congrArg (fun n => min (n + 1) 255) hcount
      case first =>
        obtain ⟨-, -, -, hcount⟩ := hfresh h
        exact congrArg (fun n => min (n + 1) 255) hcount
    case neg =>
      rw [if_neg hmark]
      exact ⟨rfl, rfl, hfree, hvalid, hlanesFailed, htestFailed, fun h => absurd h hlow, fun _ h => absurd h hmark,
        fun _ _ => rfl, fun _ h => absurd h hmark, fun _ => ⟨hkept, hfresh, rfl, hraised⟩, fun _ h => absurd h hmark⟩

/-! ### The start-up and alarm requests (R172 to R174, R176) -/

/-- A request of fitting length that the mode admits, and that its own checks accept, is answered (R181, R183, R185). -/
theorem takeRequest_answered {r : Request} {ps : List Byte} {s t : State} {content : Option ReplyContent}
    (hs : s.listens) (hfits : r.fits ps = true) (hadmitted : modeRefusal s.mode r.code = none)
    (hjudge : r.judge ps s = .ok (content, t)) : takeRequest r ps s = setReply (answerReply r.code content) t := by
  obtain ⟨hreset, hreply⟩ := hs
  have hanswer : answerRequest r ps s = setReply (answerReply r.code content) t := by
    simp only [answerRequest, judgement, hfits, not_true_eq_false, if_false, hadmitted, hjudge]
  simp only [takeRequest, recordArrives, hreset, hreply, Option.isSome_none, Bool.false_eq_true, if_false, hanswer]

/-- A request of fitting length that the mode admits, and that its own checks refuse, changes nothing but the reply. -/
theorem takeRequest_refused_of_admitted {r : Request} {ps : List Byte} {s : State} {e : ReqRefusal} (hs : s.listens)
    (hfits : r.fits ps = true) (hadmitted : modeRefusal s.mode r.code = none) (hjudge : r.judge ps s = refuse e) :
    takeRequest r ps s = setReply (refusedReply r.code e) s := by
  obtain ⟨hreset, hreply⟩ := hs
  have hanswer : answerRequest r ps s = setReply (refusedReply r.code e) s := by
    simp only [answerRequest, judgement, hfits, not_true_eq_false, if_false, hadmitted, hjudge, refuse]
  simp only [takeRequest, recordArrives, hreset, hreply, Option.isSome_none, Bool.false_eq_true, if_false, hanswer]

/-- Every mode but STARTING admits RESTART and READ_RETAINED (R185). -/
theorem admitted_outside_starting {m : Mode} (h : m ≠ .starting) {code : Byte} (hcode : code = 0x60 ∨ code = 0x63) :
    modeRefusal m code = none := by
  cases m with
  | starting => exact absurd rfl h
  | running => rfl
  | alarm => rcases hcode with rfl | rfl <;> rfl
  | failed => rcases hcode with rfl | rfl <;> rfl

/-- RUNNING admits every request, ALARM those of its list (R185). -/
theorem admitted_in_alarm {m : Mode} (h : m = .running ∨ m = .alarm) {code : Byte}
    (hcode : alarmAdmits.contains code = true) : modeRefusal m code = none := by
  rcases h with rfl | rfl
  · rfl
  · exact if_pos hcode

/-- ALARM_CLEAR's two checks in their order (R173). -/
theorem alarmClear_judge {s : State} :
    (s.mode = .alarm → s.tamperAsserted = false → reqAlarmClear.judge [] s = answerDone { s with mode := .running }) ∧
    (s.mode = .alarm → s.tamperAsserted = true → reqAlarmClear.judge [] s = refuse (wrongState 0x13)) ∧
    (s.mode = .running → reqAlarmClear.judge [] s = refuse (wrongState 0x14)) := by
  dsimp only [reqAlarmClear]
  refine ⟨fun hmode htamper => ?_, fun hmode htamper => ?_, fun hmode => ?_⟩
  · rw [checked_cons_of_passes _ _ _ (by simp [hmode]), checked_cons_of_passes _ _ _ htamper, checked_nil]
  · rw [checked_cons_of_passes _ _ _ (by simp [hmode]), checked_cons_of_fails _ _ _ htamper]
  · rw [checked_cons_of_fails _ _ _ (by simp [hmode])]

/-- Settles O37: each request is admitted in the modes named, and its judgement is its row of R172 to R176. -/
theorem deviceRequestsAct : Obligations.DeviceRequestsAct := by
  intro s hs
  obtain ⟨hclears, hasserted, hnoAlarm⟩ := alarmClear_judge (s := s)
  refine ⟨fun hmode => ?restart, fun hmode => ?zeroizeRunning, fun hmode => ?zeroizeAlarm,
    fun hmode htamper => ?clears, fun hmode htamper => ?asserted, fun hmode => ?noAlarm, fun hmode => ?readRetained⟩
  all_goals refine congrArg Host.Outcome.next ?_
  case restart =>
    exact takeRequest_answered (r := reqRestart) (ps := []) hs rfl (admitted_outside_starting hmode (.inl rfl)) rfl
  case zeroizeRunning =>
    have heffect : zeroizeEffect s = alarmEntry .request s := if_pos hmode
    rw [← heffect]
    exact takeRequest_answered (r := reqZeroize) (ps := []) hs rfl (admitted_in_alarm (.inl hmode) rfl) rfl
  case zeroizeAlarm =>
    have heffect : zeroizeEffect s = { s with kwk := none } := if_neg (by rw [hmode]; exact nofun)
    rw [← heffect]
    exact takeRequest_answered (r := reqZeroize) (ps := []) hs rfl (admitted_in_alarm (.inr hmode) rfl) rfl
  case clears => exact takeRequest_answered hs rfl (admitted_in_alarm (.inr hmode) rfl) (hclears hmode htamper)
  case asserted =>
    exact takeRequest_refused_of_admitted hs rfl (admitted_in_alarm (.inr hmode) rfl) (hasserted hmode htamper)
  case noAlarm => exact takeRequest_refused_of_admitted hs rfl (admitted_in_alarm (.inl hmode) rfl) (hnoAlarm hmode)
  case readRetained =>
    exact takeRequest_answered (r := reqReadRetained) (ps := []) hs rfl (admitted_outside_starting hmode (.inr rfl)) rfl

end Sys2Proof.Machine
end

section
/-! SUPPORT. The request commands and the request table (Table 10-4): each command is the taking of its row, the codes
name one row each, and the lengths that fit are those of the table. -/

namespace Sys2Proof.Machine

/-! ### Commands and rows -/

/-- A request command with its code is the taking of a row of Table 10-4. -/
def Request.takenBy (command : Byte × (List Byte → Instr)) (r : Request) : Prop :=
  command.1 = r.code ∧ ∀ ps s, exec (command.2 ps) s = .next (takeRequest r ps s)

theorem requestCommands_take_requestTable : List.Forall₂ Request.takenBy requestCommands requestTable := by
  repeat refine .cons ⟨rfl, fun _ _ => rfl⟩ ?_
  exact .nil

/-- The row of Table 10-4 behind a request command. -/
theorem exists_request_of_command {code : Byte} {mk : List Byte → Instr} (h : (code, mk) ∈ requestCommands) :
    ∃ r ∈ requestTable, r.code = code ∧ ∀ ps s, exec (mk ps) s = .next (takeRequest r ps s) := by
  obtain ⟨hlength, hrows⟩ := List.forall₂_iff_get.1 requestCommands_take_requestTable
  obtain ⟨i, hi⟩ := List.mem_iff_get.1 h
  have hi' : i.1 < requestTable.length := lt_of_lt_of_eq i.2 hlength
  obtain ⟨hcode, htaken⟩ := hrows i.1 i.2 hi'
  rw [hi] at hcode htaken
  exact ⟨_, List.get_mem requestTable ⟨i.1, hi'⟩, hcode.symm, htaken⟩

/-- No two rows have one code, so a row is found by its code. -/
theorem requestOf_code : ∀ r ∈ requestTable, requestOf r.code = some r := by
  simp only [requestTable, List.forall_mem_append, List.forall_mem_cons]
  repeat' constructor
  all_goals exact nofun

theorem requestOf_eq_none_iff {code : Byte} : requestOf code = none ↔ ∀ p ∈ requestCommands, p.1 ≠ code := by
  have hcodes : requestTable.map Request.code = requestCommands.map Prod.fst := rfl
  have hnone : requestOf code = none ↔ ∀ c ∈ requestTable.map Request.code, c ≠ code := by
    simp [requestOf, List.find?_eq_none]
  rw [hnone, hcodes, List.forall_mem_map]

/-! ### Lengths -/

/-- LEN of STREAM_OPEN is 7 unless the direction is IN, and 11 unless it is OUT (R4). -/
theorem streamOpenFits_eq (ps : List Byte) :
    streamOpenFits ps = (lenIs 7 ps && byteAt ps 0 != 1 || lenIs 11 ps && byteAt ps 0 != 0) := by
  unfold streamOpenFits
  rcases byteAt ps 0 with _ | _ | n <;> simp

/-- LEN of KEY_LOAD is 78 unless the direction is OUT, and 99 unless it is IN (R16). -/
theorem keyLoadFits_eq (ps : List Byte) :
    keyLoadFits ps = (lenIs 78 ps && byteAt ps 0 != 0 || lenIs 99 ps && byteAt ps 0 != 1) := by
  unfold keyLoadFits
  rcases byteAt ps 0 with _ | _ | n <;> simp

/-- The lengths of Table 10-4 as `lengthFits` states them and as the rows test them. -/
theorem lengthFits_code : ∀ r ∈ requestTable, ∀ ps, lengthFits r.code ps = r.fits ps := by
  have hramp : ∀ ps, lengthFits 0x21 ps = rampFits ps := fun _ => congrArg (· && _) (decide_eq_decide.2 (by omega))
  have harm : ∀ ps, lengthFits 0x53 ps = triggerArmFits ps := fun _ => congrArg (· && _) (decide_eq_decide.2 (by omega))
  simp only [requestTable, List.forall_mem_append, List.forall_mem_cons]
  refine ⟨⟨⟨⟨⟨⟨?_, ?_, ?_, ?_, ?_, ?_, ?_, nofun⟩, ?_, hramp, ?_, ?_, ?_, ?_, nofun⟩, ?_, ?_, ?_, nofun⟩,
    fun ps => (streamOpenFits_eq ps).symm, ?_, ?_, fun ps => (keyLoadFits_eq ps).symm, ?_, ?_, ?_, ?_, nofun⟩,
    ?_, ?_, ?_, harm, ?_, ?_, ?_, nofun⟩, ?_, ?_, ?_, ?_, nofun⟩
  -- every other row has one length
  all_goals exact fun _ => rfl

/-! ### Taking a request -/

theorem recordArrives_of_listens {s : State} (hs : s.listens) (len : Nat) (f : State → State) :
    recordArrives len f s = f s := by
  obtain ⟨hreset, hreply⟩ := hs
  simp only [recordArrives, hreset, hreply, Option.isSome_none, Bool.false_eq_true, if_false]

/-- A part that takes a request answers it (R180). -/
theorem takeRequest_of_listens {s : State} (hs : s.listens) (r : Request) (ps : List Byte) :
    takeRequest r ps s = answerRequest r ps s :=
  recordArrives_of_listens hs _ _

/-- A refusal is the reply and nothing else (R183). -/
theorem answerRequest_of_refused {r : Request} {ps : List Byte} {s : State} {e : ReqRefusal}
    (h : judgement r ps s = .error e) : answerRequest r ps s = setReply (refusedReply r.code e) s := by
  simp only [answerRequest, h]

theorem answerRequest_of_answered {r : Request} {ps : List Byte} {s t : State} {content : Option ReplyContent}
    (h : judgement r ps s = .ok (content, t)) : answerRequest r ps s = setReply (answerReply r.code content) t := by
  simp only [answerRequest, h]

theorem refusedReply_eq (code : Byte) (e : ReqRefusal) (s : State) :
    setReply (refusedReply code e) s =
      answersRefused code (BitVec.ofNat 8 e.classCode) (BitVec.ofNat 8 e.detail) s := by
  simp [answersRefused, refusedReply, bytesOfNat]

/-- What the mode does not admit is refused for it, where its length fits (R183, R185). -/
theorem judgement_of_modeRefusal {r : Request} {ps : List Byte} {s : State} {e : ReqRefusal} (hfits : r.fits ps = true)
    (hmode : modeRefusal s.mode r.code = some e) : judgement r ps s = .error e := by
  simp only [judgement, hfits, not_true_eq_false, if_false, hmode]

/-- Settles O6: MALFORMED comes before the mode, and `modeRefusal` is R185's table. -/
theorem lengthThenModeAdmitsRequests : Obligations.LengthThenModeAdmitsRequests := by
  intro code mk ps s hcommand hs
  obtain ⟨r, hr, rfl, hexec⟩ := exists_request_of_command hcommand
  rw [hexec, lengthFits_code r hr]
  have hrefused : ∀ {e : ReqRefusal}, r.fits ps = true → modeRefusal s.mode r.code = some e →
      takeRequest r ps s = answersRefused r.code (BitVec.ofNat 8 e.classCode) (BitVec.ofNat 8 e.detail) s := by
    intro e hfits hmode
    rw [takeRequest_of_listens hs, answerRequest_of_refused (judgement_of_modeRefusal hfits hmode), refusedReply_eq]
  have hnot : ∀ {codes : List Byte}, r.code ∉ codes → ¬ codes.contains r.code = true := fun h hc =>
    h (List.contains_iff_mem.1 hc)
  refine ⟨fun hfits => congrArg _ (takeRequest_malformed hs hfits), fun hfits hmode hcode => congrArg _ ?_,
    fun hfits hmode hcode => congrArg _ ?_, fun hfits hmode hcode => congrArg _ ?_⟩
  · exact hrefused (e := wrongState 0x01) hfits (by rw [hmode]; exact if_neg (hnot hcode))
  · exact hrefused (e := wrongState 0x02) hfits (by rw [hmode]; exact if_neg (hnot hcode))
  · exact hrefused (e := alarmed) hfits (by rw [hmode]; exact if_neg (hnot hcode))

/-- Settles O5: a REFUSED reply comes from a judgement that refuses, whose state is the one it was given. -/
theorem refusalsChangeOnlyTheLine : Obligations.RefusalsChangeOnlyTheLine := by
  intro code mk ps s t r hcommand hreply hexec howes hkind
  obtain ⟨row, -, rfl, htaken⟩ := exists_request_of_command hcommand
  cases (htaken ps s).symm.trans hexec
  by_cases hheld : s.resetHeld = none
  · rw [takeRequest_of_listens ⟨hheld, hreply⟩] at howes ⊢
    cases hjudged : judgement row ps s with
    | error e =>
      rw [answerRequest_of_refused hjudged] at howes ⊢
      cases howes
      rfl
    | ok answer =>
      rw [answerRequest_of_answered hjudged] at howes
      cases howes
      obtain ⟨_ | content, u⟩ := answer <;> cases hkind
  · rw [takeRequest, recordArrives_of_held hheld, hreply] at howes
    cases howes

end Sys2Proof.Machine
end

section
/-! SUPPORT. The queue of commands and the management line under every command (R174, R179, R181, R182): every event
beside the line leaves both as they are, a request leaves the counters within their 16 bits, and what arrives on the
line keeps it legal. -/

namespace Sys2Proof.Machine

/-! ### Events beside the line -/

/-- From `s` to `t` the waiting commands and the management line are as they were. An update of anything else keeps them
by definition. -/
def State.keepsPort (s t : State) : Prop := t.pending = s.pending ∧ t.line = s.line

namespace State.keepsPort

variable {s t u : State}

theorem self (s : State) : s.keepsPort s := ⟨rfl, rfl⟩

theorem trans (h : s.keepsPort t) (h' : t.keepsPort u) : s.keepsPort u := by
  obtain ⟨hqueue, hline⟩ := h
  obtain ⟨hqueue', hline'⟩ := h'
  exact ⟨hqueue'.trans hqueue, hline'.trans hline⟩

theorem ite {c : Prop} [Decidable c] (ht : c → s.keepsPort t) (hu : ¬ c → s.keepsPort u) :
    s.keepsPort (if c then t else u) := by
  split
  next h => exact ht h
  next h => exact hu h

end State.keepsPort

open State.keepsPort (self)

theorem itemLeft_keepsPort (it : Item) (s : State) : s.keepsPort (itemLeft it s) := by
  obtain ⟨_, _, _, h⟩ := itemLeft_touches it s
  rw [h]
  exact self s

theorem drainCheck_keepsPort (l : LinkNo) (s : State) : s.keepsPort (drainCheck l s) := by
  obtain ⟨_, _, h⟩ := drainCheck_touches l s
  rw [h]
  exact self s

theorem leaveInSlot_keepsPort (i : StreamNo) (k : SlotNo) (s : State) : s.keepsPort (leaveInSlot i k s) := by
  obtain ⟨_, _, h⟩ := leaveInSlot_touches i k s
  rw [h]
  exact self s

/-- A load job that ends and leaves the queue (R15, R20). -/
theorem removeHeadJob_endJob_keepsPort (j : Job) (r : LoadResult) (x : Option Secret) (s : State) :
    s.keepsPort (removeHeadJob (endJob j r x s)) := by
  obtain ⟨_, _, hremoved⟩ := removeHeadJob_touches (endJob j r x s)
  obtain ⟨_, _, _, hended⟩ := endJob_touches j r x s
  rw [hremoved, hended]
  exact self s

theorem grantKeyUnit_keepsPort (n : LaneNo) (s : State) : s.keepsPort (grantKeyUnit n s) := by
  unfold grantKeyUnit
  split
  · exact self s
  · split
    · exact self s
    · exact removeHeadJob_endJob_keepsPort _ _ _ s

theorem completeJob_keepsPort (n : LaneNo) (j : Job) (s : State) : s.keepsPort (completeJob n j s) := by
  unfold completeJob
  split
  · exact removeHeadJob_endJob_keepsPort j _ _ (s.setLane n .free)
  · exact self s

/-- A grant's disposal of the head frame (R61). -/
theorem disposeOut_keepsPort (l : LinkNo) (n : LaneNo) (read : KeyRead) (f : Frame) (d : Decision) (s : State) :
    s.keepsPort (disposeOut l n read f d s) := by
  unfold disposeOut
  split
  · exact self s
  · exact .ite (fun _ => self s) (fun _ => self s)
  · refine .ite (fun _ => self s) (fun _ => ?_)
    split
    next a _ =>
      refine .ite (fun _ => ?_) (fun _ => ?_)
      · obtain ⟨_, _, _, _, h⟩ := outStoreError_touches d.stream a s
        rw [h]
        exact self s
      · obtain ⟨_, hcorrected⟩ := noteCorrection_touches read s
        obtain ⟨_, _, _, _, _, _, h⟩ :=
          assign_touches l n d.stream a f (d.keepTag && frameTagged f) (noteCorrection read s)
        rw [h, hcorrected]
        exact self s
    next => exact self s

theorem grantOutbound_keepsPort (l : LinkNo) (n : LaneNo) (read : KeyRead) (s : State) :
    s.keepsPort (grantOutbound l n read s) := by
  unfold grantOutbound
  split
  · exact self s
  next f _ _ =>
    obtain ⟨_, hcounted⟩ := countMatch_touches l f (s.modLink l Link.dropOutHead)
    rw [hcounted]
    refine .trans ?_ ((disposeOut_keepsPort l n read f (classify s l f) _).trans (drainCheck_keepsPort l _))
    exact self s

/-- A grant's examination of the head frame (R108). -/
theorem examineIn_keepsPort (l : LinkNo) (n : LaneNo) (read : KeyRead) (f : Frame) (s : State) :
    s.keepsPort (examineIn l n read f s) := by
  have hstream : ∀ i p, s.keepsPort (examineStream l n read i p f s) := by
    intro i p
    obtain ⟨_, hcorrected⟩ := noteCorrection_touches read s
    obtain ⟨_, _, _, _, herror⟩ := inStoreError_touches i p.phase s
    unfold examineStream
    rw [hcorrected, herror]
    exact .ite (fun _ => self s) fun _ => .ite (fun _ => self s) fun _ => .ite (fun _ => self s) (fun _ => self s)
  unfold examineIn
  split
  · exact .ite (fun _ => self s) (fun _ => self s)
  · split
    · exact self s
    · split
      · exact self s
      · exact hstream _ _

theorem grantInbound_keepsPort (l : LinkNo) (n : LaneNo) (read : KeyRead) (s : State) :
    s.keepsPort (grantInbound l n read s) := by
  unfold grantInbound
  split
  · exact self s
  next f _ _ =>
    refine .trans ?_ ((examineIn_keepsPort l n read f _).trans (drainCheck_keepsPort l _))
    exact self s

/-- A head that leaves its list, once the link and the streams have what it leaves behind. -/
theorem headLeft_keepsPort {s t : State} (h : s.keepsPort t) (l : LinkNo) (it : Item) :
    s.keepsPort (drainCheck l (itemLeft it t)) :=
  h.trans ((itemLeft_keepsPort it t).trans (drainCheck_keepsPort l _))

theorem releaseOutbound_keepsPort (l : LinkNo) (s : State) : s.keepsPort (releaseOutbound l s) := by
  have hleft : ∀ (it : Item) (f : Link → Link), s.keepsPort (drainCheck l (itemLeft it (s.modLink l f))) :=
    fun it f => headLeft_keepsPort (t := s.modLink l f) (self s) l it
  unfold releaseOutbound
  split
  · exact self s
  · exact .ite (fun _ => .ite (fun _ => hleft _ _) (fun _ => .ite (fun _ => self s) (fun _ => hleft _ _)))
      (fun _ => self s)

theorem flipSelector_keepsPort (i : StreamNo) (k : SlotNo) (s : State) : s.keepsPort (flipSelector i k s) := by
  have hgrace : ∀ (k : SlotNo) (x : State), x.keepsPort (sendToGrace i k x) := fun k x =>
    .ite (fun _ => leaveInSlot_keepsPort i k x) (fun _ => self x)
  refine .ite (fun _ => ?_) (fun _ => self s)
  exact hgrace (otherSlot k) (s.modInSlot i k fun sl => { sl with state := .active })

theorem judgeHead_keepsPort (l : LinkNo) (it : Item) (s : State) : s.keepsPort (judgeHead l it s) := by
  have hdelivered : ∀ ref frame, s.keepsPort (deliver l ref frame s) := fun ref frame => by
    refine .ite (fun _ => .trans ?_ (flipSelector_keepsPort _ _ _)) (fun _ => self s)
    exact self s
  unfold judgeHead
  split
  · exact self s
  · unfold judgeVerify
    split
    · exact .ite (fun _ => hdelivered _ _) (fun _ => self s)
    · exact .ite (fun _ => self s) fun _ => .ite (fun _ => self s) (fun _ => self s)
  · exact self s

theorem releaseInbound_keepsPort (l : LinkNo) (s : State) : s.keepsPort (releaseInbound l s) := by
  have hdropped : ∀ f : Link → Link, s.keepsPort (s.modLink l f) := fun _ => self s
  unfold releaseInbound
  split
  · exact self s
  · exact .ite
      (fun _ => .ite (fun _ => headLeft_keepsPort ((hdropped _).trans (judgeHead_keepsPort l _ _)) l _)
        fun _ => .ite (fun _ => self s) (fun _ => headLeft_keepsPort (hdropped _) l _))
      (fun _ => self s)

theorem noteChange_keepsPort (l : LinkNo) (side : Side) (s : State) : s.keepsPort (noteChange l side s) :=
  .ite (fun _ => self s) (fun _ => self s)

theorem alarmEntry_keepsPort (cause : AlarmCause) (s : State) : s.keepsPort (alarmEntry cause s) := by
  obtain ⟨_, h⟩ := alarmEntry_touches cause s
  rw [h]
  exact self s

theorem completeSelfTest_keepsPort (passed : BitVec 8) (s : State) : s.keepsPort (completeSelfTest passed s) := by
  unfold completeSelfTest
  extract_lets few pool noticed
  have hnoticed : s.keepsPort noticed := .ite (fun _ => self s) (fun _ => self s)
  exact .ite (fun _ => hnoticed) fun _ => .ite (fun _ => hnoticed.trans (alarmEntry_keepsPort _ _)) (fun _ => hnoticed)

theorem tamperByMode_keepsPort (s : State) : s.keepsPort (tamperByMode s) := by
  unfold tamperByMode
  split
  · exact self s
  · exact alarmEntry_keepsPort _ s
  · exact self s
  · exact self s

theorem tick_keepsPort (s : State) : s.keepsPort (tick s) := by
  obtain ⟨_, _, _, _, _, _, h⟩ := microEvents_touches (tickEvents (nextWindow s.time.window) s.time.trim)
    { s with time := { s.time with window := nextWindow s.time.window } }
  rw [tick, h]
  exact self s

theorem edge_keepsPort (s : State) : s.keepsPort (edge s) := by
  obtain ⟨_, _, _, _, _, _, h⟩ := edge_touches s
  rw [h]
  exact self s

/-! ### Requests -/

/-- The four line error counters are within 16 bits (R182). -/
def Line.countersFit (ln : Line) : Prop :=
  ln.broken ≤ 65535 ∧ ln.framing ≤ 65535 ∧ ln.check ≤ 65535 ∧ ln.overlap ≤ 65535

/-- From `s` to `t` the waiting commands and the address are as they were, and line counters that fit still fit: what a
request's effect keeps. RESTART writes the line's mark, and READ_COUNTERS its counters. -/
def State.keepsOwn (s t : State) : Prop :=
  t.pending = s.pending ∧ t.address = s.address ∧ (s.line.countersFit → t.line.countersFit)

theorem State.keepsOwn_self (s : State) : s.keepsOwn s := ⟨rfl, rfl, id⟩

theorem drainLink_keepsOwn (l : LinkNo) (cause : StopCause) (s : State) : s.keepsOwn (drainLink l cause s) := by
  obtain ⟨_, _, h⟩ := drainLink_touches l cause s
  rw [h]
  exact s.keepsOwn_self

theorem stopLinkNow_keepsOwn (l : LinkNo) (cause : StopCause) (s : State) : s.keepsOwn (stopLinkNow l cause s) := by
  obtain ⟨_, _, _, _, _, h⟩ := stopLinkNow_touches l cause s
  rw [h]
  exact s.keepsOwn_self

theorem zeroScope_keepsOwn (scope : Nat) (l : LinkNo) (i : StreamNo) (s : State) :
    s.keepsOwn (zeroScope scope l i s) := by
  unfold zeroScope
  split
  · exact ⟨rfl, rfl, fun _ => ⟨Nat.zero_le _, Nat.zero_le _, Nat.zero_le _, Nat.zero_le _⟩⟩
  all_goals exact s.keepsOwn_self

theorem closeStream_keepsOwn (d : Dir) (i : StreamNo) (s : State) : s.keepsOwn (closeStream d i s) := by
  cases d <;> simp only [closeStream] <;> split <;> exact s.keepsOwn_self

theorem startLoad_keepsOwn (j : Job) (s : State) : s.keepsOwn (beginLoading j (appendJob j s)) := by
  have happended : s.keepsOwn (appendJob j s) := by
    unfold appendJob
    dsimp only
    split <;> exact s.keepsOwn_self
  unfold beginLoading
  split <;> exact happended

theorem setTime_keepsOwn (seconds : Nat) (s : State) : s.keepsOwn (setTime seconds s) := by
  obtain ⟨_, _, _, _, _, _, h⟩ := triggersEvent_touches (.timeSet seconds)
    { s with time := { s.time with seconds := seconds, micros := 0, valid := true } }
  rw [setTime, h]
  exact s.keepsOwn_self

theorem zeroizeEffect_keepsOwn (s : State) : s.keepsOwn (zeroizeEffect s) := by
  obtain ⟨_, h⟩ := alarmEntry_touches .request s
  unfold zeroizeEffect
  rw [h]
  split <;> exact s.keepsOwn_self

theorem judgeSwitch_keepsOwn (i : StreamNo) (s : State) : answerLeaves s.keepsOwn (judgeSwitch i s) := by
  have hrequested : ∀ a, answerLeaves s.keepsOwn (answerDone (requestSwitch i a s)) := by
    intro a
    obtain ⟨_, _, h⟩ := requestSwitch_touches i a s
    rw [h]
    exact answerLeaves_done s.keepsOwn_self
  unfold judgeSwitch
  split
  · exact answerLeaves_refuse _ _
  · exact answerLeaves_refuse _ _
  · exact answerLeaves_refuse _ _
  · split
    · exact hrequested _
    · exact hrequested _
    · exact answerLeaves_refuse _ _

/-- Every request of Table 10-4 that is not refused keeps the waiting commands, the address and the range of the line
counters. -/
theorem requestTable_keepsOwn :
    ∀ r ∈ requestTable, ∀ (ps : List Byte) (s : State), answerLeaves s.keepsOwn (r.judge ps s) := by
  simp only [requestTable, List.forall_mem_append, List.forall_mem_cons]
  refine ⟨⟨⟨⟨⟨⟨?poll, ?identify, ?readStatus, ?readNotices, ?noticeSetup, ?readCounters, ?deviceSetup, nofun⟩,
    ?linkSetup, ?rampSet, ?linkStart, ?linkStop, ?readLink, ?readLinkChanges, nofun⟩,
    ?rulePut, ?ruleDrop, ?readRule, nofun⟩,
    ?streamOpen, ?streamClose, ?readStream, ?keyLoad, ?keyRetire, ?keySwitch, ?kwkLoad, ?kwkErase, nofun⟩,
    ?timeSet, ?timeTrim, ?timeRead, ?triggerArm, ?triggerCancel, ?triggerRelease, ?readTrigger, nofun⟩,
    ?restart, ?zeroize, ?alarmClear, ?readRetained, nofun⟩
  all_goals intro ps s
  case poll | identify | readStatus | readLinkChanges | timeRead | readRetained =>
    exact answerLeaves_data _ s.keepsOwn_self
  case readNotices | readLink | readRule | readTrigger =>
    exact answerLeaves_checked (answerLeaves_data _ s.keepsOwn_self)
  case noticeSetup | deviceSetup | linkSetup | rampSet | linkStart | rulePut | ruleDrop | kwkLoad | kwkErase | timeTrim
    | triggerArm | triggerCancel | triggerRelease | alarmClear =>
    exact answerLeaves_checked (answerLeaves_done s.keepsOwn_self)
  case readStream => exact answerLeaves_checked (answerLeaves_ok _ s.keepsOwn_self)
  case restart => exact answerLeaves_done s.keepsOwn_self
  case readCounters =>
    refine answerLeaves_checked (answerLeaves_data _ ?_)
    split
    · exact s.keepsOwn_self
    · exact zeroScope_keepsOwn _ _ _ s
  case linkStop =>
    refine answerLeaves_checked (answerLeaves_done ?_)
    unfold stopLink
    split
    · exact drainLink_keepsOwn _ _ s
    · exact stopLinkNow_keepsOwn _ _ s
  case streamOpen =>
    refine answerLeaves_checked (answerLeaves_done ?_)
    unfold openStream
    split <;> exact s.keepsOwn_self
  case streamClose => exact answerLeaves_checked (answerLeaves_done (closeStream_keepsOwn _ _ s))
  case keyLoad => exact answerLeaves_checked (answerLeaves_done (startLoad_keepsOwn _ s))
  case keyRetire =>
    obtain ⟨_, _, _, _, _, h⟩ := retireKey_touches (dirAt ps 0) (streamAt ps 1) (slotAt ps 2) s
    refine answerLeaves_checked (answerLeaves_done ?_)
    rw [h]
    exact s.keepsOwn_self
  case keySwitch => exact answerLeaves_checked (judgeSwitch_keepsOwn _ s)
  case timeSet => exact answerLeaves_done (setTime_keepsOwn _ s)
  case zeroize => exact answerLeaves_done (zeroizeEffect_keepsOwn s)

/-- A request that is answered has passed its own judgement. -/
theorem judgement_keepsOwn {r : Request} (hr : r ∈ requestTable) (ps : List Byte) (s : State) :
    answerLeaves s.keepsOwn (judgement r ps s) := by
  intro content t hanswer
  obtain ⟨-, hjudged⟩ := answer_of_judgement hanswer
  exact requestTable_keepsOwn r hr ps s content t hjudged

/-! ### The line -/

theorem count16_le (c n : Nat) : count16 c n ≤ 65535 := Nat.min_le_right _ _

theorem Line.legal.counters {ln : Line} (h : ln.legal) : ln.countersFit := by
  obtain ⟨-, -, -, hcounters⟩ := h
  exact hcounters

/-- From `s` to `t` the waiting commands are as they were, and a legal line stays legal. -/
def State.keepsLine (s t : State) : Prop := t.pending = s.pending ∧ (s.line.legal → t.line.legal)

theorem State.keepsPort.keepsLine {s t : State} (h : s.keepsPort t) : s.keepsLine t := by
  obtain ⟨hqueue, hline⟩ := h
  exact ⟨hqueue, fun hs => by rwa [hline]⟩

theorem State.keepsLine_self (s : State) : s.keepsLine s := (self s).keepsLine

/-- Where no reply is owed the line may take any assembly of Table 10-1 and any counters within 16 bits. -/
theorem Line.legal.assembled {ln : Line} {a : Assembly} (hs : ln.legal) (hreply : ln.reply = none) (ha : a.fits)
    {b f c o : Nat} (hb : b ≤ 65535) (hf : f ≤ 65535) (hc : c ≤ 65535) (ho : o ≤ 65535) :
    Line.legal { ln with assembly := a, broken := b, framing := f, check := c, overlap := o } := by
  obtain ⟨-, -, hrestart, -⟩ := hs
  exact ⟨ha, fun h => absurd hreply h, hrestart, hb, hf, hc, ho⟩

/-- The assembly may always go to HUNT, with any counters within 16 bits. -/
theorem Line.legal.hunted {ln : Line} (hs : ln.legal) {b f c o : Nat} (hb : b ≤ 65535) (hf : f ≤ 65535)
    (hc : c ≤ 65535) (ho : o ≤ 65535) :
    Line.legal { ln with assembly := .hunt, broken := b, framing := f, check := c, overlap := o } := by
  obtain ⟨-, -, hrestart, -⟩ := hs
  exact ⟨trivial, fun _ => rfl, hrestart, hb, hf, hc, ho⟩

theorem countOverlap_keepsLine (n : Nat) (s : State) : s.keepsLine (countOverlap n s) := by
  refine ⟨rfl, fun hs => ?_⟩
  obtain ⟨hfits, hhunt, hrestart, hb, hf, hc, -⟩ := hs
  exact ⟨hfits, hhunt, hrestart, hb, hf, hc, count16_le _ _⟩

theorem toHunt_keepsLine (s : State) : s.keepsLine (toHunt s) := by
  refine ⟨rfl, fun hs => ?_⟩
  obtain ⟨hb, hf, hc, ho⟩ := hs.counters
  exact hs.hunted hb hf hc ho

theorem abandonRecord_keepsLine (s : State) : s.keepsLine (abandonRecord s) := by
  refine ⟨rfl, fun hs => ?_⟩
  obtain ⟨-, hf, hc, ho⟩ := hs.counters
  exact hs.hunted (count16_le _ _) hf hc ho

/-- A reply owed in HUNT is legal whatever stood there before, a waiting RESTART included (R174, R181). -/
theorem setReply_line_legal (r : Reply) {s : State} (hs : s.line.countersFit) : (setReply r s).line.legal :=
  ⟨trivial, fun _ => rfl, fun _ => nofun, hs⟩

theorem answerRequest_keepsLine {r : Request} (hr : r ∈ requestTable) (ps : List Byte) (s : State) :
    s.keepsLine (answerRequest r ps s) := by
  cases hjudged : judgement r ps s with
  | error e =>
    rw [answerRequest_of_refused hjudged]
    exact ⟨rfl, fun hs => setReply_line_legal _ hs.counters⟩
  | ok answer =>
    obtain ⟨hqueue, -, hcounters⟩ := judgement_keepsOwn hr ps s answer.1 answer.2 hjudged
    rw [answerRequest_of_answered hjudged]
    exact ⟨hqueue, fun hs => setReply_line_legal _ (hcounters hs.counters)⟩

theorem recordArrives_keepsLine (len : Nat) {f : State → State} {s : State} (hf : s.keepsLine (f s)) :
    s.keepsLine (recordArrives len f s) := by
  unfold recordArrives
  split
  · exact s.keepsLine_self
  · split
    · exact countOverlap_keepsLine _ s
    · exact hf

theorem takeRecord_keepsLine (body : List Byte) (s : State) : s.keepsLine (takeRecord body s) := by
  unfold takeRecord
  split
  · exact toHunt_keepsLine s
  · split
    next hrequest => exact answerRequest_keepsLine (List.mem_of_find?_eq_some hrequest) _ s
    next => exact ⟨rfl, fun hs => setReply_line_legal _ hs.counters⟩

theorem judgeRecord_keepsLine (head : Byte) (body : List Byte) (check : Byte) (s : State) :
    s.keepsLine (judgeRecord head body check s) := by
  unfold judgeRecord
  split
  · refine ⟨rfl, fun hs => ?_⟩
    obtain ⟨hb, hf, -, ho⟩ := hs.counters
    exact hs.hunted hb hf (count16_le _ _) ho
  · split
    · exact takeRecord_keepsLine body s
    · exact toHunt_keepsLine s

/-- A byte taken where no reply is owed moves the assembly within Table 10-1 (R179). -/
theorem assembleByte_keepsLine (byte : Byte) {s : State} (hreply : s.line.reply = none) :
    s.keepsLine (assembleByte byte s) := by
  have hmoves : ∀ a : Assembly, (s.line.legal → a.fits) →
      s.keepsLine (s.modLine fun ln => { ln with assembly := a }) := by
    refine fun a ha => ⟨rfl, fun hs => ?_⟩
    obtain ⟨hb, hf, hc, ho⟩ := hs.counters
    exact hs.assembled hreply (ha hs) hb hf hc ho
  unfold assembleByte
  split
  case h_1 =>
    split
    · exact hmoves .head fun _ => trivial
    · exact s.keepsLine_self
  case h_2 => exact hmoves (.len byte) fun _ => trivial
  case h_3 =>
    split
    next hvalid =>
      obtain ⟨hpos, hmax⟩ := Bool.and_eq_true_iff.1 hvalid
      exact hmoves (.body _ byte.toNat []) fun _ => ⟨of_decide_eq_true hpos, by simpa using hmax⟩
    next => exact abandonRecord_keepsLine s
  case h_4 head left got hbody =>
    have hfits : s.line.legal → 1 ≤ left ∧ got.length + left ≤ 120 := fun hs => by
      obtain ⟨hfits, -⟩ := hs
      rwa [hbody] at hfits
    split
    next hlast =>
      refine hmoves (.check head (got ++ [byte])) fun hs => ?_
      obtain ⟨hpos, hmax⟩ := hfits hs
      rw [Assembly.fits, List.length_append, List.length_singleton]
      omega
    next hmore =>
      refine hmoves (.body head (left - 1) (got ++ [byte])) fun hs => ?_
      obtain ⟨hpos, hmax⟩ := hfits hs
      rw [Assembly.fits, List.length_append, List.length_singleton]
      omega
  case h_5 => exact judgeRecord_keepsLine _ _ byte s

theorem receiveByte_keepsLine (byte : Byte) (s : State) : s.keepsLine (receiveByte byte s) := by
  unfold receiveByte
  split
  · exact countOverlap_keepsLine 1 s
  next hreply => exact assembleByte_keepsLine byte (Option.not_isSome_iff_eq_none.1 hreply)

/-- A held reset leaves no reply, and no RESTART waits (R166, R174). -/
theorem holdReset_keepsLine (kind : ResetKind) (s : State) : s.keepsLine (holdReset kind s) := by
  refine ⟨rfl, fun hs => ?_⟩
  obtain ⟨hfits, -, -, hcounters⟩ := hs
  exact ⟨hfits, fun h => absurd rfl h, nofun, hcounters⟩

theorem endReply_keepsLine (s : State) : s.keepsLine (endReply s) := by
  refine ⟨by unfold endReply; dsimp only; split <;> rfl, fun hs => ?_⟩
  have hcounters := hs.counters
  unfold endReply
  dsimp only
  split
  · exact ⟨trivial, fun h => absurd rfl h, nofun, hcounters⟩
  next hrestart => exact ⟨trivial, fun h => absurd rfl h, fun h => absurd h hrestart, hcounters⟩

theorem badStopBit_keepsLine (s : State) : s.keepsLine (badStopBit s) := by
  unfold badStopBit
  split
  · exact s.keepsLine_self
  · refine ⟨rfl, fun hs => ?_⟩
    obtain ⟨hb, -, hc, ho⟩ := hs.counters
    exact hs.hunted hb (count16_le _ _) hc ho

/-- After a release the line has its reset values (R179, R182). -/
theorem released_keepsLine (kind : ResetKind) (address : BitVec 3) (rateHigh : Bool) (s : State) :
    s.keepsLine (released kind address rateHigh s) :=
  ⟨rfl, fun _ => ⟨trivial, fun _ => rfl, nofun, Nat.zero_le _, Nat.zero_le _, Nat.zero_le _, Nat.zero_le _⟩⟩

/-! ### Every command -/

/-- The command completes, keeping the waiting commands and a legal line. -/
def commandCompletes (c : Instr) (s : State) : Prop := ∃ t, exec c s = .next t ∧ s.keepsLine t

theorem completes_of_next {c : Instr} {s t : State} (h : exec c s = .next t) (ht : s.keepsLine t) :
    commandCompletes c s :=
  ⟨t, h, ht⟩

/-- A command that does nothing while a reset is held (R166). -/
theorem completes_of_unlessHeld {c : Instr} {s : State} {f : State → State} (h : exec c s = .next (unlessHeld f s))
    (hf : s.keepsLine (f s)) : commandCompletes c s := by
  refine ⟨_, h, ?_⟩
  unfold unlessHeld
  split
  · exact s.keepsLine_self
  · exact hf

/-- An event beside the line. -/
theorem completes_of_event {c : Instr} {s : State} {f : State → State} (h : exec c s = .next (unlessHeld f s))
    (hf : s.keepsPort (f s)) : commandCompletes c s :=
  completes_of_unlessHeld h hf.keepsLine

theorem completes_of_request {c : Instr} {s : State} {r : Request} {ps : List Byte}
    (h : exec c s = .next (takeRequest r ps s)) (hr : r ∈ requestTable) : commandCompletes c s :=
  ⟨_, h, recordArrives_keepsLine _ (answerRequest_keepsLine hr ps s)⟩

theorem exec_completes (c : Instr) (s : State) : commandCompletes c s := by
  cases c with
  | poll | identify | readStatus | readNotices | noticeSetup | readCounters | deviceSetup | linkSetup | rampSet
  | linkStart | linkStop | readLink | readLinkChanges | rulePut | ruleDrop | readRule | streamOpen | streamClose
  | readStream | keyLoad | keyRetire | keySwitch | kwkLoad | kwkErase | timeSet | timeTrim | timeRead
  | triggerArm | triggerCancel | triggerRelease | readTrigger | restart | zeroize | alarmClear | readRetained =>
    exact completes_of_request rfl (by simp [requestTable])
  | unknownRequest code ps => exact completes_of_next rfl (recordArrives_keepsLine _ (takeRecord_keepsLine _ s))
  | recordCheckFailed head body check =>
    exact completes_of_next rfl (recordArrives_keepsLine _ (judgeRecord_keepsLine _ _ _ s))
  | recordIgnored head body check =>
    exact completes_of_next rfl (recordArrives_keepsLine _ (judgeRecord_keepsLine _ _ _ s))
  | byteReceived byte => exact completes_of_unlessHeld rfl (receiveByte_keepsLine byte s)
  | recordLenInvalid len =>
    refine completes_of_unlessHeld rfl ?_
    split
    · split
      · exact s.keepsLine_self
      · exact abandonRecord_keepsLine s
    · exact s.keepsLine_self
  | framingError =>
    refine completes_of_unlessHeld rfl ?_
    split
    · exact countOverlap_keepsLine 1 s
    · exact badStopBit_keepsLine s
  | recordGapTimeout =>
    refine completes_of_unlessHeld rfl ?_
    split
    · exact s.keepsLine_self
    · exact abandonRecord_keepsLine s
  | overlapByte byte =>
    refine completes_of_unlessHeld rfl ?_
    split
    · exact countOverlap_keepsLine 1 s
    · exact s.keepsLine_self
  | replyEnd =>
    refine completes_of_unlessHeld rfl ?_
    split
    · exact endReply_keepsLine s
    · exact s.keepsLine_self
  | powerOn => exact completes_of_next rfl (holdReset_keepsLine .powerOn s)
  | pinReset => exact completes_of_next rfl (holdReset_keepsLine _ s)
  | resetRelease address rateHigh =>
    refine completes_of_next rfl ?_
    split
    · exact released_keepsLine _ _ _ s
    · exact s.keepsLine_self
  | tamperAssert =>
    refine completes_of_next rfl
      (State.keepsPort.keepsLine (.ite (fun _ => self s) fun _ => .ite (fun _ => self s) fun _ => ?_))
    exact tamperByMode_keepsPort { s with tamperAsserted := true, kwk := none }
  | tamperDeassert => exact completes_of_next rfl s.keepsLine_self
  | selfTestComplete passed =>
    exact completes_of_event rfl (.ite (fun _ => completeSelfTest_keepsPort passed s) (fun _ => self s))
  | referenceTick => exact completes_of_event rfl (tick_keepsPort s)
  | rampStageEnd link =>
    refine completes_of_event rfl ?_
    split
    · exact .ite (fun _ => self s) (fun _ => self s)
    · exact self s
  | pauseRefresh link =>
    refine completes_of_event rfl ?_
    split
    · exact .ite (fun _ => self s) (fun _ => self s)
    · exact self s
  | graceExpiry stream slot =>
    exact completes_of_event rfl (.ite (fun _ => leaveInSlot_keepsPort _ _ s) (fun _ => self s))
  | lifetimeExpiry stream =>
    refine completes_of_event rfl ?_
    split
    next a _ =>
      obtain ⟨_, _, h⟩ := secondAtSlot_touches stream a s
      rw [h]
      exact .ite (fun _ => self s) (fun _ => self s)
    next => exact self s
  | pulseEdge => exact completes_of_event rfl (edge_keepsPort s)
  | triggerFire slot event =>
    refine completes_of_event rfl ?_
    split
    next c a _ =>
      obtain ⟨_, _, _, _, _, _, h⟩ := fireTrigger_touches slot (c.after event) a s
      rw [h]
      exact .ite (fun _ => self s) (fun _ => self s)
    next => exact self s
  | faceUp link side =>
    refine completes_of_event rfl (.ite (fun _ => self s) fun _ => ?_)
    exact noteChange_keepsPort link side (s.modLink link fun k => k.wentUp side)
  | faceDown link side =>
    refine completes_of_event rfl (.ite (fun _ => ?_) fun _ => self s)
    exact noteChange_keepsPort link side (s.modLink link fun k => k.wentDown side)
  | frameReceived link side frame => exact completes_of_event rfl (.ite (fun _ => self s) (fun _ => self s))
  | pauseSend link => exact completes_of_event rfl (.ite (fun _ => self s) (fun _ => self s))
  | transmissionEnd link side => exact completes_of_event rfl (self s)
  | outboundGrant read =>
    refine completes_of_event rfl ?_
    split
    · exact .ite (fun _ => grantOutbound_keepsPort _ _ read (noteTrafficGrant _ s)) (fun _ => self s)
    · exact self s
  | inboundGrant read =>
    refine completes_of_event rfl ?_
    split
    · exact .ite (fun _ => self s) (fun _ => grantInbound_keepsPort _ _ read (noteTrafficGrant _ s))
    · exact self s
  | keyPreparationGrant =>
    refine completes_of_event rfl ?_
    split
    · exact grantKeyUnit_keepsPort _ (resetCount s)
    · exact self s
  | laneCompletion lane =>
    refine completes_of_event rfl ?_
    split <;> exact self s
  | keyJobCompletion =>
    refine completes_of_event rfl ?_
    split
    · exact completeJob_keepsPort _ _ s
    · exact self s
  | outboundRelease link => exact completes_of_event rfl (releaseOutbound_keepsPort link s)
  | inboundRelease link => exact completes_of_event rfl (releaseInbound_keepsPort link s)
  | drainComplete link => exact completes_of_event rfl (drainCheck_keepsPort link s)

/-- Settles O2: every arm of `exec` answers a next state, and none writes the queue. -/
theorem everyCommandCompletes : Obligations.EveryCommandCompletes := by
  intro c s
  obtain ⟨t, hexec, hqueue, -⟩ := exec_completes c s
  exact ⟨t, hexec, hqueue⟩

/-- Settles O10: events beside the line leave it, a reply is owed only in HUNT, and every counter saturates at
65,535. -/
theorem lineStaysLegal : Obligations.LineStaysLegal := by
  intro s t hs hstep
  unfold step at hstep
  split at hstep
  · cases hstep
    exact hs
  next c rest _ =>
    obtain ⟨u, hexec, -, hlegal⟩ := exec_completes c { s with pending := rest }
    cases hexec.symm.trans hstep
    exact hlegal hs

end Sys2Proof.Machine
end

section
/-! SUPPORT. Records and bytes on the management line (R179 to R183): when a check passes and when a record is for this
part, what a record and a byte come to, and the events of a line that goes wrong. -/

namespace Sys2Proof.Machine

/-! ### Records (R180, R183) -/

theorem requestHead_toNat (address : BitVec 3) : (requestHead address).toNat = 32 + address.toNat := by
  revert address
  decide

/-- A record is a request to this part where HEAD has kind 001, bits 4–3 zero and the part's address. -/
theorem addressedHere_iff {s : State} {head : Byte} :
    addressedHere s head = true ↔ head.toNat = 32 + s.address.toNat := by
  rw [addressedHere, beq_iff_eq, ← requestHead_toNat, BitVec.toNat_inj]

/-- The check passes where HEAD, LEN, BODY and CHECK sum to a multiple of 256. -/
theorem checkPasses_iff {head check : Byte} {body : List Byte} :
    checkPasses head body check = true ↔
      (head.toNat + body.length + (body.map BitVec.toNat).sum + check.toNat) % 256 = 0 := by
  rw [checkPasses, beq_iff_eq, ← BitVec.toNat_inj, BitVec.toNat_add, recordSum_toNat]
  change _ % 256 = 0 ↔ _
  omega

theorem judgeRecord_of_checkFails {head check : Byte} {body : List Byte} (s : State)
    (h : (head.toNat + body.length + (body.map BitVec.toNat).sum + check.toNat) % 256 ≠ 0) :
    judgeRecord head body check s =
      { s with line := { s.line with assembly := .hunt, check := min (s.line.check + 1) 65535 } } :=
  if_pos (mt checkPasses_iff.1 h)

theorem judgeRecord_of_checkPasses {head check : Byte} {body : List Byte} (s : State)
    (h : (head.toNat + body.length + (body.map BitVec.toNat).sum + check.toNat) % 256 = 0) :
    judgeRecord head body check s = if addressedHere s head then takeRecord body s else toHunt s :=
  if_neg (not_not.2 (checkPasses_iff.2 h))

theorem judgeRecord_of_foreign {head check : Byte} {body : List Byte} {s : State}
    (h : (head.toNat + body.length + (body.map BitVec.toNat).sum + check.toNat) % 256 = 0)
    (hhead : head.toNat ≠ 32 + s.address.toNat) :
    judgeRecord head body check s = { s with line := { s.line with assembly := .hunt } } := by
  rw [judgeRecord_of_checkPasses s h]
  exact if_neg (mt addressedHere_iff.1 hhead)

theorem judgeRecord_of_request {head check : Byte} {body : List Byte} {s : State}
    (h : (head.toNat + body.length + (body.map BitVec.toNat).sum + check.toNat) % 256 = 0)
    (hhead : head.toNat = 32 + s.address.toNat) : judgeRecord head body check s = takeRecord body s := by
  rw [judgeRecord_of_checkPasses s h]
  exact if_pos (addressedHere_iff.2 hhead)

theorem takeRecord_of_unknown {code : Byte} (ps : List Byte) (s : State) (h : ∀ p ∈ requestCommands, p.1 ≠ code) :
    takeRecord (code :: ps) s = answersRefused code 0x02 0x00 s := by
  simp only [takeRecord, requestOf_eq_none_iff.2 h]
  rfl

theorem takeRecord_of_row {r : Request} (hr : r ∈ requestTable) (ps : List Byte) (s : State) :
    takeRecord (r.code :: ps) s = answerRequest r ps s := by
  simp only [takeRecord, requestOf_code r hr]

/-- Settles O38: the three steps of R180 in their order. -/
theorem recordsAreJudged : Obligations.RecordsAreJudged := by
  intro head check code body ps s hs sum
  refine ⟨fun hcode => congrArg Host.Outcome.next ?unknown,
    fun _ _ hsum => congrArg Host.Outcome.next ?fails,
    fun _ _ hsum hhead => congrArg Host.Outcome.next ?foreign⟩
  all_goals rw [recordArrives_of_listens hs]
  case unknown => exact takeRecord_of_unknown ps s hcode
  case fails => exact judgeRecord_of_checkFails s hsum
  case foreign =>
    have haddress : s.address.toNat < 8 := s.address.isLt
    exact judgeRecord_of_foreign hsum (by omega)

/-! ### Bytes and line errors (R179, R181, R182) -/

theorem exec_byteReceived_of_owed {s : State} (byte : Byte) (hreset : s.resetHeld = none)
    (hreply : s.line.reply ≠ none) :
    exec (.byteReceived byte) s = .next (countOverlap 1 s) := by
  refine congrArg Host.Outcome.next ((unlessHeld_of_not_held hreset).trans ?_)
  exact if_pos (Option.isSome_iff_ne_none.2 hreply)

theorem exec_byteReceived_of_listens {s : State} (byte : Byte) (hs : s.listens) :
    exec (.byteReceived byte) s = .next (assembleByte byte s) := by
  obtain ⟨hreset, hreply⟩ := hs
  refine congrArg Host.Outcome.next ((unlessHeld_of_not_held hreset).trans ?_)
  exact if_neg (by rw [hreply]; exact nofun)

theorem lenValid_iff {len : Byte} : lenValid len = true ↔ 1 ≤ len.toNat ∧ len.toNat ≤ 120 := by
  simp [lenValid]

theorem badStopBit_of_record {s : State} (h : s.line.assembly ≠ .hunt) :
    badStopBit s = { s with line := { s.line with assembly := .hunt, framing := min (s.line.framing + 1) 65535 } } := by
  unfold badStopBit
  split
  next hhunt => exact absurd hhunt h
  next => rfl

/-- Settles O39: each event's arm, in HUNT or in a record, with a reply owed or without. -/
theorem lineErrorsAreCounted : Obligations.LineErrorsAreCounted := by
  intro len byte head s hreset
  have hevent : ∀ f : State → State, (.next (unlessHeld f s) : Host.Outcome State Fault Refusal) = .next (f s) :=
    fun _ => congrArg Host.Outcome.next (unlessHeld_of_not_held hreset)
  have howed : s.line.reply ≠ none → s.line.reply.isSome = true := Option.isSome_iff_ne_none.2
  refine ⟨fun hreply hlen hbad => ?len, fun hreply hrecord => ?stopBit, fun hreply hhunt => ?stopBitOutside,
    fun hrecord => ?gap, fun hhunt => ?gapOutside, fun hreply => ⟨?overlap, ?byteOverlap⟩, fun hreply hrestart => ?ends,
    fun hreply hrestart => ?restarts⟩
  case len =>
    have hinvalid : lenValid len = false := Bool.eq_false_iff.2 (mt lenValid_iff.1 (by omega))
    refine (hevent _).trans (congrArg Host.Outcome.next ?_)
    simp only [hlen]
    exact if_neg (by simp [hreply, hinvalid])
  case stopBit =>
    refine (hevent _).trans (congrArg Host.Outcome.next ?_)
    exact (if_neg (by simp [hreply])).trans (badStopBit_of_record hrecord)
  case stopBitOutside =>
    refine (hevent _).trans (congrArg Host.Outcome.next ?_)
    refine (if_neg (by simp [hreply])).trans ?_
    simp only [badStopBit, hhunt]
  case gap =>
    refine (hevent _).trans (congrArg Host.Outcome.next ?_)
    dsimp only
    split
    next hhunt => exact absurd hhunt hrecord
    next => rfl
  case gapOutside =>
    refine (hevent _).trans (congrArg Host.Outcome.next ?_)
    simp only [hhunt]
  case overlap => exact (hevent _).trans (congrArg Host.Outcome.next (if_pos (howed hreply)))
  case byteOverlap => exact exec_byteReceived_of_owed byte hreset hreply
  case ends =>
    refine (hevent _).trans (congrArg Host.Outcome.next ((if_pos (howed hreply)).trans ?_))
    exact if_neg (Bool.eq_false_iff.1 hrestart)
  case restarts =>
    refine (hevent _).trans (congrArg Host.Outcome.next ((if_pos (howed hreply)).trans ?_))
    exact if_pos hrestart

end Sys2Proof.Machine
end

section
/-! SUPPORT. Requests do not read the receive assembly (R179, R180): what a request comes to with another assembly is
what it comes to, with that assembly; so the CHECK byte that completes a record does what the request's own command
does, and the bytes of a record, one after the other, are that command. -/

namespace Sys2Proof.Machine

/-! ### Operations that do not read the assembly -/

/-- The state with the receive assembly given. -/
def State.withAssembly (a : Assembly) (s : State) : State := s.modLine fun ln => { ln with assembly := a }

/-- An operation neither reads nor writes the receive assembly. -/
def ignoresAssembly (f : State → State) : Prop := ∀ a, Function.Commute f (State.withAssembly a)

namespace ignoresAssembly

theorem self : ignoresAssembly fun s => s := fun _ _ => rfl

theorem comp {f g : State → State} (hf : ignoresAssembly f) (hg : ignoresAssembly g) :
    ignoresAssembly fun s => f (g s) :=
  fun a => (hf a).comp_left (hg a)

theorem raised {f : State → State} (hf : ignoresAssembly f) (k : NoticeKind) (m : NoticeMember) :
    ignoresAssembly fun s => raise k m (f s) :=
  comp (f := raise k m) (fun _ _ => rfl) hf

theorem ite {c : State → Prop} [DecidablePred c] {f g : State → State} (hc : ∀ a s, c (s.withAssembly a) ↔ c s)
    (hf : ignoresAssembly f) (hg : ignoresAssembly g) : ignoresAssembly fun s => if c s then f s else g s := by
  intro a s
  by_cases h : c s
  · exact (if_pos ((hc a s).2 h)).trans ((hf a s).trans (congrArg (State.withAssembly a) (if_pos h).symm))
  · exact (if_neg (mt (hc a s).1 h)).trans ((hg a s).trans (congrArg (State.withAssembly a) (if_neg h).symm))

/-- An operation that first reads something else of the state. -/
theorem reading {α : Type} {r : State → α} {f : α → State → State} (hr : ∀ a s, r (s.withAssembly a) = r s)
    (hf : ∀ x, ignoresAssembly (f x)) : ignoresAssembly fun s => f (r s) s :=
  fun a s => (congrArg (f · (s.withAssembly a)) (hr a s)).trans (hf (r s) a s)

theorem foldl {α : Type} {f : State → α → State} (hf : ∀ x, ignoresAssembly fun s => f s x) (xs : List α) :
    ignoresAssembly fun s => xs.foldl f s := by
  induction xs with
  | nil => exact self
  | cons x xs ih => exact ih.comp (hf x)

/-! ### Slots and streams -/

theorem leaveOutSlot (i : StreamNo) (k : SlotNo) : ignoresAssembly (leaveOutSlot i k) :=
  ite (fun _ _ => Iff.rfl) (fun _ _ => rfl) fun _ _ => rfl

theorem leaveInSlot (i : StreamNo) (k : SlotNo) : ignoresAssembly (leaveInSlot i k) :=
  ite (fun _ _ => Iff.rfl) (fun _ _ => rfl) fun _ _ => rfl

theorem switchStream (i : StreamNo) (a : SlotNo) : ignoresAssembly (switchStream i a) :=
  raised ((leaveOutSlot i a).comp
    (g := fun s => (s.modOutSlot i (otherSlot a) fun sl => { sl with state := .active }).modOut i fun st =>
      { st with state := .active (otherSlot a), pendingSwitch := none }) fun _ _ => rfl) _ _

theorem leaveActive (i : StreamNo) (a : SlotNo) : ignoresAssembly (leaveActive i a) :=
  ite (fun _ _ => Iff.rfl) (switchStream i a)
    (raised (comp (f := fun s => s.modOut i fun st => { st with state := .stalled, pendingSwitch := none })
      (fun _ _ => rfl) (leaveOutSlot i a)) _ _)

theorem requestSwitch (i : StreamNo) (a : SlotNo) : ignoresAssembly (requestSwitch i a) := by
  intro b s
  have hread : ((s.withAssembly b).outSlot i (otherSlot a)).state = (s.outSlot i (otherSlot a)).state := rfl
  unfold Machine.requestSwitch
  rw [hread]
  cases (s.outSlot i (otherSlot a)).state with
  | ready => exact switchStream i a b s
  | loading => rfl
  | empty | active | draining => rfl

theorem openStream (ps : List Byte) : ignoresAssembly (openStream ps) := by
  unfold Machine.openStream
  cases dirAt ps 0 <;> exact fun _ _ => rfl

theorem closeStream (d : Dir) (i : StreamNo) : ignoresAssembly (closeStream d i) := by
  unfold Machine.closeStream
  cases d with
  | out => exact ite (fun _ _ => Iff.rfl) (fun _ _ => rfl) fun _ _ => rfl
  | inn => exact ite (fun _ _ => Iff.rfl) (fun _ _ => rfl) fun _ _ => rfl

/-! ### Load jobs -/

theorem appendJob (j : Job) : ignoresAssembly (appendJob j) :=
  ite (fun _ _ => Iff.rfl) (fun _ _ => rfl) fun _ _ => rfl

theorem beginLoading (j : Job) : ignoresAssembly (beginLoading j) := by
  unfold Machine.beginLoading
  cases j.range.dir <;> exact fun _ _ => rfl

theorem removeJob (d : Dir) (i : StreamNo) (k : SlotNo) : ignoresAssembly (removeJob d i k) :=
  ite (fun _ _ => Iff.rfl) (fun _ _ => rfl) fun _ _ => rfl

theorem cancelOutLoad (i : StreamNo) (k : SlotNo) : ignoresAssembly (cancelOutLoad i k) :=
  comp (f := clearPendingTo i k) (fun _ _ => rfl)
    (ite (fun _ _ => Iff.rfl) (fun _ _ => rfl)
      (comp (f := fun s => s.modOutSlot i k fun _ => OutSlot.empty .cancelled) (fun _ _ => rfl) (removeJob .out i k)))

theorem cancelInLoad (i : StreamNo) (k : SlotNo) : ignoresAssembly (cancelInLoad i k) :=
  ite (fun _ _ => Iff.rfl) (fun _ _ => rfl)
    (comp (f := fun s => s.modInSlot i k fun _ => InSlot.empty .cancelled) (fun _ _ => rfl) (removeJob .inn i k))

theorem retireOut (i : StreamNo) (k : SlotNo) : ignoresAssembly (retireOut i k) := by
  intro a s
  have hread : ((s.withAssembly a).outSlot i k).state = (s.outSlot i k).state := rfl
  unfold Machine.retireOut
  rw [hread]
  cases (s.outSlot i k).state with
  | loading => exact cancelOutLoad i k a s
  | ready => exact leaveOutSlot i k a s
  | active => exact leaveActive i k a s
  | empty | draining => rfl

theorem retireIn (i : StreamNo) (k : SlotNo) : ignoresAssembly (retireIn i k) := by
  intro a s
  have hread : ((s.withAssembly a).inSlot i k).state = (s.inSlot i k).state := rfl
  unfold Machine.retireIn
  rw [hread]
  cases (s.inSlot i k).state with
  | loading => exact cancelInLoad i k a s
  | ready | active | grace => exact leaveInSlot i k a s
  | empty | draining => rfl

theorem retireKey (d : Dir) (i : StreamNo) (k : SlotNo) : ignoresAssembly (retireKey d i k) := by
  cases d with
  | out => exact retireOut i k
  | inn => exact retireIn i k

/-! ### Links -/

theorem itemLeft (it : Item) : ignoresAssembly (itemLeft it) := by
  unfold Machine.itemLeft
  cases it.body with
  | pass f => exact self
  | protect ref aad text tag => exact ite (fun _ _ => Iff.rfl) (fun _ _ => rfl) fun _ _ => rfl
  | verify ref aad text tag ok => exact ite (fun _ _ => Iff.rfl) (fun _ _ => rfl) fun _ _ => rfl

theorem freeItemLane (it : Item) : ignoresAssembly (freeItemLane it) := by
  unfold Machine.freeItemLane
  cases it.state with
  | onLane n => exact fun _ _ => rfl
  | done => exact self

theorem stopLinkNow (l : LinkNo) (cause : StopCause) : ignoresAssembly (stopLinkNow l cause) := by
  refine ite (fun _ _ => Iff.rfl) self ?_
  refine reading (r := fun s => (s.link l).outList ++ (s.link l).inList)
    (f := fun items s => enterOff l cause ((cancelItems items s).modLink l Link.flushed)) (fun _ _ => rfl)
    fun items => ?_
  exact comp (f := fun s => enterOff l cause (s.modLink l Link.flushed)) (fun _ _ => rfl)
    (foldl (fun it => (itemLeft it).comp (freeItemLane it)) items)

theorem drainLink (l : LinkNo) (cause : StopCause) : ignoresAssembly (drainLink l cause) :=
  ite (fun _ _ => Iff.rfl)
    (comp (f := drainCheck l) (g := fun s => s.modLink l fun k => { k with state := .draining, stopCause := cause })
      (ite (fun _ _ => Iff.rfl) (fun _ _ => rfl) self) fun _ _ => rfl)
    self

theorem stopLink (l : LinkNo) (action : Nat) : ignoresAssembly (stopLink l action) := by
  unfold Machine.stopLink
  exact ite (c := fun _ => action = 0) (fun _ _ => Iff.rfl) (drainLink l _) (stopLinkNow l _)

/-! ### Triggers and time -/

theorem switchListed (i : StreamNo) : ignoresAssembly fun s => switchListed s i := by
  intro b s
  have hread : ((s.withAssembly b).outStream i).state = (s.outStream i).state := rfl
  unfold Machine.switchListed
  dsimp only
  rw [hread]
  cases (s.outStream i).state with
  | active a => exact requestSwitch i a b s
  | unused | opened | stalled => rfl

theorem doAction (a : TriggerAction) : ignoresAssembly fun s => doAction s a := by
  cases a with
  | switch streams => exact foldl switchListed streams
  | start l => exact fun _ _ => rfl
  | stopDrain l => exact drainLink l .triggerDrain
  | stopNow l => exact stopLinkNow l .triggerNow

end ignoresAssembly

theorem actionFault_withAssembly (b : Assembly) (s : State) (a : TriggerAction) :
    actionFault (s.withAssembly b) a = actionFault s a := by
  have hswitch : ∀ streams, firstSwitchFault (s.withAssembly b) streams = firstSwitchFault s streams := by
    intro streams
    induction streams with
    | nil => rfl
    | cons i streams ih => rw [firstSwitchFault, firstSwitchFault, ih]; rfl
  cases a with
  | switch streams => exact hswitch streams
  | start l => rfl
  | stopDrain l => rfl
  | stopNow l => rfl

namespace ignoresAssembly

theorem fireTrigger (j : TriggerNo) (c : TriggerCond) (a : TriggerAction) : ignoresAssembly (fireTrigger j c a) := by
  intro b s
  unfold Machine.fireTrigger
  rw [actionFault_withAssembly]
  cases actionFault s a with
  | some fault => rfl
  | none => exact congrArg (raise .triggerFired (.trigger j)) (doAction a b (s.setTrigger j .empty))

theorem triggerEvent (e : FireEvent) (j : TriggerNo) : ignoresAssembly fun s => triggerEvent e s j := by
  intro b s
  have hread : (s.withAssembly b).triggers.get j = s.triggers.get j := rfl
  unfold Machine.triggerEvent
  dsimp only
  rw [hread]
  cases s.triggers.get j with
  | armed c a =>
    exact ite (c := fun _ => c.comesTrue e = true) (g := fun s => s.setTrigger j (.armed (c.after e) a))
      (fun _ _ => Iff.rfl) (fireTrigger j (c.after e) a) (fun _ _ => rfl) b s
  | empty => rfl
  | faulted c a f r => rfl

theorem setTime (seconds : Nat) : ignoresAssembly (setTime seconds) :=
  comp (f := triggersEvent (.timeSet seconds))
    (g := fun s => { s with time := { s.time with seconds := seconds, micros := 0, valid := true } })
    (foldl (triggerEvent (.timeSet seconds)) _) fun _ _ => rfl

/-! ### ALARM entry and counters -/

theorem alarmEntry (cause : AlarmCause) : ignoresAssembly (alarmEntry cause) := by
  have hstopped : ∀ before : Vector Link 4, ignoresAssembly fun s =>
      (List.finRange 4).foldl (fun s l => if (before.get l).state = .off then s else raise .linkStopped (.link l) s)
        s :=
    fun before => foldl (fun l => ite (c := fun _ => (before.get l).state = .off) (fun _ _ => Iff.rfl) self
      (raised self _ _)) _
  exact raised (reading (r := fun s => s.links)
    (f := fun before s => (List.finRange 4).foldl
      (fun s l => if (before.get l).state = .off then s else raise .linkStopped (.link l) s) (s.alarmed cause))
    (fun _ _ => rfl) fun before => (hstopped before).comp (g := State.alarmed cause) fun _ _ => rfl) _ _

theorem zeroizeEffect : ignoresAssembly zeroizeEffect :=
  ite (fun _ _ => Iff.rfl) (alarmEntry .request) fun _ _ => rfl

theorem zeroScope (scope : Nat) (l : LinkNo) (i : StreamNo) : ignoresAssembly (zeroScope scope l i) := by
  rcases scope with _ | _ | _ | _ | _ | _ <;> exact fun _ _ => rfl

end ignoresAssembly

/-! ### Requests -/

/-- What an answer is with another assembly in the state it leaves. -/
def Answer.withAssembly (a : Assembly) (answer : Answer) : Answer :=
  answer.map fun ⟨content, t⟩ => (content, t.withAssembly a)

theorem checked_withAssembly (a : Assembly) (checks : List (Bool × ReqRefusal)) (answer : Answer) :
    (checked checks answer).withAssembly a = checked checks (answer.withAssembly a) := by
  unfold checked
  split <;> rfl

/-- Checks that do not read the assembly, before an effect that ignores it. -/
theorem checked_done_withAssembly {f : State → State} (hf : ignoresAssembly f) (checks : List (Bool × ReqRefusal))
    (a : Assembly) (s : State) :
    checked checks (answerDone (f (s.withAssembly a))) = (checked checks (answerDone (f s))).withAssembly a := by
  rw [checked_withAssembly, hf a s]
  rfl

theorem judgeSwitch_withAssembly (i : StreamNo) (a : Assembly) (s : State) :
    judgeSwitch i (s.withAssembly a) = (judgeSwitch i s).withAssembly a := by
  have hrequested : ∀ k, answerDone (requestSwitch i k (s.withAssembly a)) =
      Answer.withAssembly a (answerDone (requestSwitch i k s)) := fun k =>
    congrArg answerDone (ignoresAssembly.requestSwitch i k a s)
  have hstream : (s.withAssembly a).outStream i = s.outStream i := rfl
  have hslot : ∀ k, (s.withAssembly a).outSlot i k = s.outSlot i k := fun _ => rfl
  unfold judgeSwitch
  rw [hstream]
  cases (s.outStream i).state with
  | unused | opened | stalled => rfl
  | active k =>
    simp only [hslot]
    cases (s.outSlot i (otherSlot k)).state with
    | ready | loading => exact hrequested k
    | empty | active | draining => rfl

/-- Every request of Table 10-4 judges and acts without reading the assembly. -/
theorem requestTable_withAssembly :
    ∀ r ∈ requestTable, ∀ (ps : List Byte) (a : Assembly) (s : State),
      r.judge ps (s.withAssembly a) = (r.judge ps s).withAssembly a := by
  simp only [requestTable, List.forall_mem_append, List.forall_mem_cons]
  refine ⟨⟨⟨⟨⟨⟨?poll, ?identify, ?readStatus, ?readNotices, ?noticeSetup, ?readCounters, ?deviceSetup, nofun⟩,
    ?linkSetup, ?rampSet, ?linkStart, ?linkStop, ?readLink, ?readLinkChanges, nofun⟩,
    ?rulePut, ?ruleDrop, ?readRule, nofun⟩,
    ?streamOpen, ?streamClose, ?readStream, ?keyLoad, ?keyRetire, ?keySwitch, ?kwkLoad, ?kwkErase, nofun⟩,
    ?timeSet, ?timeTrim, ?timeRead, ?triggerArm, ?triggerCancel, ?triggerRelease, ?readTrigger, nofun⟩,
    ?restart, ?zeroize, ?alarmClear, ?readRetained, nofun⟩
  all_goals intro ps a s
  -- requests that read alone, or write one record
  case poll | identify | readStatus | readLinkChanges | timeRead | readRetained | restart => rfl
  case readNotices | noticeSetup | deviceSetup | linkSetup | rampSet | linkStart | readLink | rulePut | ruleDrop
    | readRule
    | readStream | kwkLoad | kwkErase | timeTrim | triggerArm | triggerCancel | triggerRelease | readTrigger
    | alarmClear =>
    refine Eq.trans ?_ (checked_withAssembly a _ _).symm
    rfl
  -- requests whose effects are operations of their own
  case readCounters =>
    refine Eq.trans ?_ (checked_withAssembly a _ _).symm
    refine congrArg (fun t => checked _ (answerBytes _ t)) ?_
    exact ignoresAssembly.ite (c := fun _ => byteAt ps 2 = 0) (fun _ _ => Iff.rfl) .self
      (.zeroScope (byteAt ps 0) (linkAt ps 1) (streamAt ps 1)) a s
  case linkStop => exact checked_done_withAssembly (.stopLink _ _) _ a s
  case streamOpen => exact checked_done_withAssembly (.openStream ps) _ a s
  case streamClose => exact checked_done_withAssembly (.closeStream _ _) _ a s
  case keyLoad => exact checked_done_withAssembly ((ignoresAssembly.beginLoading _).comp (.appendJob _)) _ a s
  case keyRetire => exact checked_done_withAssembly (.retireKey _ _ _) _ a s
  case keySwitch =>
    refine Eq.trans ?_ (checked_withAssembly a _ _).symm
    exact congrArg (checked _) (judgeSwitch_withAssembly _ a s)
  case timeSet => exact checked_done_withAssembly (.setTime _) [] a s
  case zeroize => exact checked_done_withAssembly .zeroizeEffect [] a s

theorem judgement_withAssembly {r : Request} (hr : r ∈ requestTable) (ps : List Byte) (a : Assembly) (s : State) :
    judgement r ps (s.withAssembly a) = (judgement r ps s).withAssembly a := by
  have hmode : (s.withAssembly a).mode = s.mode := rfl
  unfold judgement
  rw [hmode]
  split
  · rfl
  · split
    · rfl
    · exact requestTable_withAssembly r hr ps a s

/-- A reply is owed in HUNT, whatever the assembly was (R179, R181). -/
theorem setReply_withAssembly (reply : Reply) (a : Assembly) (s : State) :
    setReply reply (s.withAssembly a) = setReply reply s := rfl

/-- What a request is answered does not depend on the assembly that held its bytes. -/
theorem answerRequest_withAssembly {r : Request} (hr : r ∈ requestTable) (ps : List Byte) (a : Assembly) (s : State) :
    answerRequest r ps (s.withAssembly a) = answerRequest r ps s := by
  have hjudged := judgement_withAssembly hr ps a s
  cases hbefore : judgement r ps s with
  | error e =>
    rw [hbefore] at hjudged
    rw [answerRequest_of_refused hjudged, answerRequest_of_refused hbefore, setReply_withAssembly]
  | ok answer =>
    rw [hbefore] at hjudged
    rw [answerRequest_of_answered hjudged, answerRequest_of_answered hbefore, setReply_withAssembly]

end Sys2Proof.Machine
end

section
/-! SUPPORT. Bytes into records and records into requests (R179, R180): each row of R179's table, and a whole record
sent byte by byte. -/

namespace Sys2Proof.Machine

/-! ### The table of R179 -/

section Rows

variable {s : State} {head byte : Byte}

theorem assembleByte_of_lead (h : s.line.assembly = .hunt) (hlead : byte = leadByte) :
    assembleByte byte s = s.withAssembly .head := by
  simp only [assembleByte, h]
  exact if_pos hlead

theorem assembleByte_of_head (h : s.line.assembly = .head) : assembleByte byte s = s.withAssembly (.len byte) := by
  simp only [assembleByte, h]
  rfl

theorem assembleByte_of_len (h : s.line.assembly = .len head) (hlow : 1 ≤ byte.toNat) (hhigh : byte.toNat ≤ 120) :
    assembleByte byte s = s.withAssembly (.body head byte.toNat []) := by
  simp only [assembleByte, h]
  exact if_pos (lenValid_iff.2 ⟨hlow, hhigh⟩)

theorem assembleByte_of_body {left : Nat} {got : List Byte} (h : s.line.assembly = .body head left got)
    (hmore : 2 ≤ left) :
    assembleByte byte s = s.withAssembly (.body head (left - 1) (got ++ [byte])) := by
  simp only [assembleByte, h]
  exact if_neg (by omega)

theorem assembleByte_of_lastBody {left : Nat} {got : List Byte} (h : s.line.assembly = .body head left got)
    (hlast : left = 1) : assembleByte byte s = s.withAssembly (.check head (got ++ [byte])) := by
  simp only [assembleByte, h]
  exact if_pos (by omega)

/-- CHECK in a request record to this part, of a code of Table 10-4, is the request. -/
theorem assembleByte_of_request {r : Request} (hr : r ∈ requestTable) {ps : List Byte}
    (h : s.line.assembly = .check head (r.code :: ps))
    (hsum : (head.toNat + (ps.length + 1) + ((r.code :: ps).map BitVec.toNat).sum + byte.toNat) % 256 = 0)
    (hhead : head.toNat = 32 + s.address.toNat) : assembleByte byte s = answerRequest r ps s := by
  simp only [assembleByte, h]
  rw [judgeRecord_of_request hsum hhead, takeRecord_of_row hr]

end Rows

/-- Settles O40: the rows of `assembleByte`, and at CHECK the three steps of `judgeRecord`. -/
theorem bytesAssembleIntoRecords : Obligations.BytesAssembleIntoRecords := by
  intro byte s hs inState
  rw [exec_byteReceived_of_listens byte hs]
  refine ⟨fun h hlead => congrArg Host.Outcome.next (assembleByte_of_lead h hlead),
    fun h hlead => congrArg Host.Outcome.next ?noise, fun h => congrArg Host.Outcome.next (assembleByte_of_head h),
    fun head h => ⟨fun hlow hhigh => congrArg Host.Outcome.next (assembleByte_of_len h hlow hhigh),
      fun hbad => congrArg Host.Outcome.next ?badLen⟩,
    fun head left got h => ⟨fun hmore => congrArg Host.Outcome.next (assembleByte_of_body h hmore),
      fun hlast => congrArg Host.Outcome.next (assembleByte_of_lastBody h hlast)⟩,
    fun head code ps mk h hcommand hsum _ hhead => ?request,
    fun head code ps h _ => ⟨fun hsum => congrArg Host.Outcome.next ?checkFails,
      fun hsum hhead => congrArg Host.Outcome.next ?foreign,
      fun hsum hhead hcode => congrArg Host.Outcome.next ?unknown⟩⟩
  case request =>
    obtain ⟨r, hr, rfl, htaken⟩ := exists_request_of_command hcommand
    rw [htaken, takeRequest_of_listens hs, assembleByte_of_request hr h hsum hhead]
  all_goals simp only [assembleByte, h]
  case noise => exact if_neg hlead
  case badLen => exact if_neg (mt lenValid_iff.1 (by omega))
  case checkFails => exact judgeRecord_of_checkFails s hsum
  case foreign => exact judgeRecord_of_foreign hsum hhead
  case unknown =>
    rw [judgeRecord_of_request hsum hhead]
    exact takeRecord_of_unknown ps s hcode

/-! ### A record byte by byte -/

/-- The part in the middle of a record: the assembly as the bytes so far leave it, and the commands that wait. -/
def State.midRecord (a : Assembly) (p : List Instr) (s : State) : State := (s.withAssembly a).withPending p

section Run

variable {s : State} (hs : s.listens)
include hs

/-- A byte of the queue that moves the assembly from `a` to `b`. -/
theorem run_byteReceived {a b : Assembly} {byte : Byte} {p : List Instr}
    (hmoves : assembleByte byte (s.midRecord a p) = (s.midRecord a p).withAssembly b) (k : Nat) :
    Host.Core.run core (k + 1) (s.midRecord a (.byteReceived byte :: p)) = Host.Core.run core k (s.midRecord b p) := by
  have hstep : step (s.midRecord a (.byteReceived byte :: p)) = .next ((s.midRecord a p).withAssembly b) :=
    hmoves ▸ exec_byteReceived_of_listens (s := s.midRecord a p) byte hs
  exact coreRun_succ hstep k

/-- The bytes of BODY are held until LEN of them are in. -/
theorem run_body (head : Byte) (p : List Instr) (k : Nat) (bs : List Byte) (hbs : bs ≠ []) (got : List Byte) :
    Host.Core.run core (k + bs.length) (s.midRecord (.body head bs.length got) (bs.map Instr.byteReceived ++ p)) =
      Host.Core.run core k (s.midRecord (.check head (got ++ bs)) p) := by
  induction bs generalizing got with
  | nil => exact absurd rfl hbs
  | cons b bs ih =>
    cases bs with
    | nil => exact run_byteReceived hs (assembleByte_of_lastBody rfl rfl) k
    | cons b' bs' =>
      have hrest := ih nofun (got ++ [b])
      rw [List.append_assoc, List.singleton_append] at hrest
      exact (run_byteReceived hs (assembleByte_of_body rfl (by simp)) (k + (b' :: bs').length)).trans hrest

end Run

/-- LEAD, HEAD, LEN and BODY of a record only move the assembly. -/
theorem run_upToCheck {s : State} (hs : s.listens) (head : Byte) {body : List Byte} (hlow : 1 ≤ body.length)
    (hhigh : body.length ≤ 120) (p : List Instr) :
    Host.Core.run core (body.length + 4)
        (s.midRecord .hunt ((recordBytes head body).map Instr.byteReceived ++ p)) =
      Host.Core.run core 1 (s.midRecord (.check head body) (.byteReceived (recordCheck head body) :: p)) := by
  have hlen : (BitVec.ofNat 8 body.length).toNat = body.length := by
    rw [BitVec.toNat_ofNat, Nat.mod_eq_of_lt (by omega)]
  have hbytes : (recordBytes head body).map Instr.byteReceived ++ p =
      .byteReceived leadByte :: .byteReceived head :: .byteReceived (BitVec.ofNat 8 body.length) ::
        (body.map Instr.byteReceived ++ .byteReceived (recordCheck head body) :: p) := by
    simp [recordBytes]
  have hlenMoves : ∀ q, assembleByte (BitVec.ofNat 8 body.length) (s.midRecord (.len head) q) =
      (s.midRecord (.len head) q).withAssembly (.body head body.length []) := fun q => by
    rw [assembleByte_of_len (head := head) rfl (by omega) (by omega), hlen]
  rw [hbytes, run_byteReceived hs (assembleByte_of_lead rfl rfl), run_byteReceived hs (assembleByte_of_head rfl),
    run_byteReceived hs (hlenMoves _), Nat.add_comm,
    run_body hs head _ 1 body (List.length_pos_iff.1 hlow), List.nil_append]

/-- Settles O3: the bytes before CHECK only move the assembly, and CHECK takes the request, which does not read it. -/
theorem bytesMakeRequests : Obligations.BytesMakeRequests := by
  intro code mk ps s hcommand hlength hs hhunt
  obtain ⟨r, hr, rfl, htaken⟩ := exists_request_of_command hcommand
  have hstart : ∀ p, { s with pending := p } = s.midRecord .hunt p := fun p => by
    rw [State.midRecord, State.withAssembly, ← hhunt]
    rfl
  have hcheck := assembleByte_of_request (s := s.withAssembly (.check (requestHead s.address) (r.code :: ps))) hr rfl
    (recordCheck_sum (requestHead s.address) (r.code :: ps)) (requestHead_toNat s.address)
  have hlast : step (s.midRecord (.check (requestHead s.address) (r.code :: ps))
      (.byteReceived (recordCheck (requestHead s.address) (r.code :: ps)) :: s.pending)) =
        .next (answerRequest r ps s) := by
    rw [← answerRequest_withAssembly hr ps (.check (requestHead s.address) (r.code :: ps)) s, ← hcheck]
    exact exec_byteReceived_of_listens (s := s.withAssembly (.check (requestHead s.address) (r.code :: ps))) _ hs
  rw [hstart, htaken, takeRequest_of_listens hs]
  refine (run_upToCheck (body := r.code :: ps) hs _ (by simp) hlength s.pending).trans ?_
  exact coreRun_succ hlast 0

end Sys2Proof.Machine
end

section
/-! SUPPORT. The notice block and the status requests (R186 to R193): what a raising adds, what READ_NOTICES and
NOTICE_SETUP write, the pending-kind set and the byte layouts of POLL, IDENTIFY, READ_STATUS and READ_COUNTERS. -/

namespace Sys2Proof.Machine

/-! ### Raising (R190) -/

/-- A disabled kind is not raised. -/
theorem raise_of_disabled {k : NoticeKind} {s : State} (m : NoticeMember)
    (h : (s.notices.get k.number).enabled = false) : raise k m s = s := by
  have hkept : (s.notices.get k.number).raised m = s.notices.get k.number := if_neg (Bool.eq_false_iff.1 h)
  rw [raise, hkept, putAt_get]

/-- Settles O20: an enabled kind is raised for exactly the member named, which is `Notice.raised_raisedFor`. -/
theorem raisingSetsFlagAndMember : Obligations.RaisingSetsFlagAndMember := by
  intro k m s
  refine ⟨raise_of_disabled m, fun henabled => ?_⟩
  obtain ⟨henabled', hattention, hpending, houts, hins, htriggers, hlinks⟩ :=
    Notice.raised_raisedFor (s.notices.get k.number) m
  have hset : ∀ {b b' : Bool} {x : NoticeMember},
      (b = true ↔ b' = true ∨ (s.notices.get k.number).enabled = true ∧ x = m) → b = (b' || m == x) := by
    intro b b' x h
    rw [Bool.eq_iff_iff, h, Bool.or_eq_true, beq_iff_eq, and_iff_right henabled, eq_comm (a := x)]
  exact ⟨_, rfl, hpending.2 (.inr ⟨henabled, m, rfl⟩), henabled'.trans henabled, hattention,
    fun i => hset (houts i), fun i => hset (hins i), fun j => hset (htriggers j), fun l => hset (hlinks l)⟩

/-! ### READ_NOTICES and NOTICE_SETUP (R192, R193) -/

/-- A kind with its enable and attention mask written. -/
def Notice.masked (enables attention : Nat) (k : Fin 15) (n : Notice) : Notice :=
  { n with enabled := enables.testBit k.1, attention := attention.testBit k.1 }

/-- Kinds written one after the other: those of the list are written and the others are as they were. -/
theorem get_foldl_masked (enables attention : Nat) (ks : List (Fin 15)) (v : Vector Notice 15) (m : Fin 15) :
    (ks.foldl (fun v k => putAt v k ((v.get k).masked enables attention k)) v).get m =
      if m ∈ ks then (v.get m).masked enables attention m else v.get m := by
  induction ks generalizing v with
  | nil => rfl
  | cons k ks ih =>
    rw [List.foldl_cons, ih, get_putAt]
    by_cases hm : m = k
    · subst hm
      simp [Notice.masked]
    · simp [hm]

theorem setupNotices_get (enables attention : Nat) (v : Vector Notice 15) (k : Fin 15) :
    (setupNotices enables attention v).get k = (v.get k).masked enables attention k :=
  (get_foldl_masked enables attention (List.finRange 15) v k).trans (if_pos (List.mem_finRange k))

theorem exec_readNotices (k : Fin 15) {s : State} (hs : s.reads) :
    exec (.readNotices (bytesOfNat 1 k.1)) s =
      .next (answersData 0x04 (noticeData k (s.notices.get k)) (clearNotice k s)) := by
  have hkind : byteAt (bytesOfNat 1 k.1) 0 = k.1 := byteAt_whole _ (by omega)
  have hnumber : Fin.ofNat 15 (byteAt (bytesOfNat 1 k.1) 0) = k := by
    rw [hkind]
    exact Fin.ofNat_val_eq_self k
  have hjudge : reqReadNotices.judge (bytesOfNat 1 k.1) s =
      answerBytes (noticeData k (s.notices.get k)) (clearNotice k s) := by
    dsimp only [reqReadNotices]
    rw [checked_cons_of_passes _ _ _ (by rw [hkind]; simp), checked_nil, hnumber]
  exact congrArg Host.Outcome.next (takeRequest_data hs (by decide) (by simp [reqReadNotices]) hjudge)

/-- ATTN_N is asserted while a kind is pending and unmasked (R191). -/
theorem attnAsserted_iff (s : State) :
    attnAsserted s = true ↔
      s.resetHeld = none ∧ ∃ k : Fin 15, (s.notices.get k).pending = true ∧ (s.notices.get k).attention = true := by
  simp only [attnAsserted, Bool.and_eq_true, Option.isNone_iff_eq_none, List.any_eq_true, mem_toList_iff,
    exists_exists_eq_and]

/-- Settles O19: the two requests write what `clearNotice` and `setupNotices` write, kind by kind. -/
theorem noticeRequestsAct : Obligations.NoticeRequestsAct := by
  refine ⟨fun ps s hs => ⟨?read, fun hlen henables hattention => ?setup⟩, attnAsserted_iff⟩
  case read =>
    rintro k rfl
    exact exec_readNotices k hs
  case setup =>
    refine ⟨setupNotices (numAt ps 0 2) (numAt ps 2 2) s.notices, ?_, setupNotices_get _ _ _⟩
    refine congrArg Host.Outcome.next (takeRequest_done_of_reads (r := reqNoticeSetup) hs (by decide)
      (by simp [reqNoticeSetup, hlen]) ?_)
    dsimp only [reqNoticeSetup]
    rw [checked_cons_of_passes _ _ _ (by rw [henables, hattention]; rfl), checked_nil]

/-! ### Bits of a list (R186, R187) -/

theorem testBit_bitsOfList (bs : List Bool) (k : Nat) : (bitsOfList bs).testBit k = bs.getD k false := by
  induction bs generalizing k with
  | nil => simp [bitsOfList]
  | cons b bs ih =>
    cases k with
    | zero => cases b <;> simp [bitsOfList]
    | succ k =>
      have hhalf : bitsOfList (b :: bs) / 2 = bitsOfList bs := by
        rw [bitsOfList]
        split <;> omega
      rw [Nat.testBit_succ, hhalf, ih, List.getD_cons_succ]

theorem bitsOfList_lt (bs : List Bool) : bitsOfList bs < 2 ^ bs.length := by
  induction bs with
  | nil => simp [bitsOfList]
  | cons b bs ih =>
    rw [List.length_cons, pow_succ, bitsOfList]
    split <;> omega

/-- Bit k of the pending-kind set is kind k's flag. -/
theorem testBit_pendingKinds (s : State) (k : Fin 15) : (pendingKinds s).testBit k.1 = (s.notices.get k).pending := by
  have hlt : k.1 < s.notices.toList.length := by simp
  rw [pendingKinds, testBit_bitsOfList, List.getD_eq_getElem?_getD, List.getElem?_map, List.getElem?_eq_getElem hlt]
  simp [Vector.get_eq_getElem]

/-- Bit 15 is 0. -/
theorem pendingKinds_lt (s : State) : pendingKinds s < 2 ^ 15 := by
  have h := bitsOfList_lt (s.notices.toList.map Notice.pending)
  simpa [pendingKinds] using h

/-- Two bits for each link, link 0 lowest. -/
theorem linkStateByte_eq (s : State) :
    linkStateByte s = linkStateCode (s.link 0).state + 4 * linkStateCode (s.link 1).state +
      16 * linkStateCode (s.link 2).state + 64 * linkStateCode (s.link 3).state := by
  have hlinks : s.links.toList = [s.link 0, s.link 1, s.link 2, s.link 3] := by
    apply List.ext_getElem
    · simp
    · intro i hi _
      have hlt : i < 4 := by simpa using hi
      interval_cases i <;> simp [State.link, Vector.get_eq_getElem]
  rw [linkStateByte, hlinks]
  simp only [List.foldr_cons, List.foldr_nil]
  ring

/-! ### POLL, IDENTIFY and READ_STATUS (R186, R187) -/

/-- A request that every mode admits, and that has no checks of its own, is answered. -/
theorem takeRequest_of_unchecked {r : Request} {s t : State} {data : List Byte} (hs : s.listens)
    (hcode : r.code ∈ ([0x01, 0x02, 0x03] : List Byte)) (hfits : r.fits [] = true)
    (hjudge : r.judge [] s = answerBytes data t) : takeRequest r [] s = answersData r.code data t := by
  have hadmitted : modeRefusal s.mode r.code = none := by
    revert hcode
    generalize r.code = code
    generalize s.mode = m
    simp only [List.mem_cons, List.not_mem_nil, or_false]
    rintro (rfl | rfl | rfl) <;> cases m <;> rfl
  exact takeRequest_answered hs hfits hadmitted hjudge

/-- IDENTIFY's 14 bytes. -/
theorem identifyData_eq (s : State) :
    identifyData s = [0x0F, 0x31, 0x04, 0x60, 0x01, s.address.setWidth 8, if s.rateHigh then 1 else 0, 4, 8, 64, 128,
      8, 4, 15] := by
  have haddress : bytesOfBits 1 s.address = [s.address.setWidth 8] := by
    simp [bytesOfBits, bytesOfNat]
  rw [identifyData, haddress]
  rfl

/-- Settles O18: the three contents, and the two sets of bits in them. -/
theorem statusRequestsAnswer : Obligations.StatusRequestsAnswer := by
  intro s hs
  refine ⟨?poll, testBit_pendingKinds s, pendingKinds_lt s, ?identify, ?readStatus⟩ <;>
    refine congrArg Host.Outcome.next ?_
  case poll => exact takeRequest_of_unchecked (r := reqPoll) hs (by decide) rfl rfl
  case identify =>
    rw [← identifyData_eq s]
    exact takeRequest_of_unchecked (r := reqIdentify) hs (by decide) rfl rfl
  case readStatus =>
    rw [← linkStateByte_eq s]
    exact takeRequest_of_unchecked (r := reqReadStatus) hs (by decide) rfl rfl

/-! ### READ_COUNTERS (R188) -/

/-- READ_COUNTERS of a scope of R188 with an index of that scope. -/
theorem exec_readCounters {scope index : Byte} (zero : Byte) {s : State} (hs : s.reads) (hscope : scope.toNat ≤ 5)
    (hlink : 1 ≤ scope.toNat → scope.toNat ≤ 3 → index.toNat < 4) (hstream : 4 ≤ scope.toNat → index.toNat < 64) :
    exec (.readCounters [scope, index, zero]) s =
      .next (answersData 0x06
        ([scope, index] ++
          scopeBytes s scope.toNat (linkAt [scope, index, zero] 1) (streamAt [scope, index, zero] 1))
        (if zero = 0 then s
         else zeroScope scope.toNat (linkAt [scope, index, zero] 1) (streamAt [scope, index, zero] 1) s)) := by
  have hbyte : ∀ b : Byte, bytesOfNat 1 b.toNat = [b] := fun b => by simp [bytesOfNat]
  have hzero : byteAt [scope, index, zero] 2 = 0 ↔ zero = 0 := BitVec.toNat_inj (y := 0)
  have hjudge : reqReadCounters.judge [scope, index, zero] s =
      answerBytes (bytesOfNat 1 scope.toNat ++ bytesOfNat 1 index.toNat ++
          scopeBytes s scope.toNat (linkAt [scope, index, zero] 1) (streamAt [scope, index, zero] 1))
        (if byteAt [scope, index, zero] 2 = 0 then s
         else zeroScope scope.toNat (linkAt [scope, index, zero] 1) (streamAt [scope, index, zero] 1) s) := by
    refine checked_of_passes _ (firstFailing_eq_none_iff.2 ?_)
    simp only [List.forall_mem_cons, Bool.and_eq_false_iff, decide_eq_false_iff_not, byteAt, List.getD_cons_zero,
      List.getD_cons_succ]
    exact ⟨by omega, by omega, by omega, nofun⟩
  simp only [hzero, hbyte] at hjudge
  exact congrArg Host.Outcome.next (takeRequest_data (r := reqReadCounters) hs (by decide) rfl hjudge)

/-- Settles O21: scope by scope the counters of `scopeBytes` are read and `zeroScope` zeroes them. -/
theorem countersReadAndZero : Obligations.CountersReadAndZero := by
  intro index zero s hs
  have hindex : ∀ {n : Nat}, n < 256 → index = BitVec.ofNat 8 n → index.toNat = n := by
    rintro n hn rfl
    exact (BitVec.toNat_ofNat n 8).trans (Nat.mod_eq_of_lt hn)
  refine ⟨?device, fun l hl => ?links, fun i hi => ?streams⟩
  case device =>
    exact exec_readCounters (scope := 0) zero hs (by decide) (fun h => absurd h (by decide))
      (fun h => absurd h (by decide))
  case links =>
    have hl' : index.toNat = l.1 := hindex (by omega) hl
    have hread : ∀ scope : Byte, linkAt [scope, index, zero] 1 = l := fun _ => linkAt_of_byteAt hl'
    have hanswer : ∀ scope : Byte, 1 ≤ scope.toNat → scope.toNat ≤ 3 → _ := fun scope _ hle =>
      exec_readCounters (scope := scope) (index := index) zero hs (by omega) (fun _ _ => by omega) (by omega)
    simp only [hread] at hanswer
    exact ⟨hanswer 1 (by decide) (by decide), hanswer 2 (by decide) (by decide), hanswer 3 (by decide) (by decide)⟩
  case streams =>
    have hi' : index.toNat = i.1 := hindex (by omega) hi
    have hread : ∀ scope : Byte, streamAt [scope, index, zero] 1 = i := fun _ => streamAt_of_byteAt hi'
    have hanswer : ∀ scope : Byte, 4 ≤ scope.toNat → scope.toNat ≤ 5 → _ := fun scope _ hle =>
      exec_readCounters (scope := scope) (index := index) zero hs hle (by omega) (fun _ => by omega)
    simp only [hread] at hanswer
    exact ⟨hanswer 4 (by decide) (by decide), hanswer 5 (by decide) (by decide)⟩

end Sys2Proof.Machine
end

section
/-! SUPPORT. Replies as records (Table 10-1, R181): how long the content of each request's reply is, and the record that
carries a reply. -/

namespace Sys2Proof.Machine

/-! ### Lengths of the contents -/

@[simp] theorem length_flagByte (b : Bool) : (flagByte b).length = 1 := rfl

@[simp] theorem length_bytesOfInt (n : Nat) (v : Int) : (bytesOfInt n v).length = n := length_bytesOfNat _ _

@[simp] theorem length_counterBytes (cs : List Nat) : (counterBytes cs).length = 6 * cs.length := by
  simp [counterBytes, Nat.mul_comm]

theorem length_storeErrorData (e : Option (Dir × StreamNo × SlotNo)) : (storeErrorData e).length = 4 := by
  unfold storeErrorData
  split <;> simp

theorem length_scopeBytes_le (s : State) (scope : Nat) (l : LinkNo) (i : StreamNo) :
    (scopeBytes s scope l i).length ≤ 60 := by
  unfold scopeBytes
  split <;> simp [OutCounters.inOrder, InCounters.inOrder, FaceCounters.inOrder]

theorem length_encoded_pacerPhase (p : PacerPhase) : p.encoded.length = 5 := by
  cases p <;> simp [PacerPhase.encoded]

theorem length_linkData (l : LinkNo) (k : Link) : (linkData l k).length = 41 := by
  simp [linkData, LinkSettings.encoded, length_encoded_pacerPhase]

theorem length_rampData (l : LinkNo) (k : Link) : (rampData l k).length = 3 + 6 * k.ramp.length := by
  simp [rampData, Nat.mul_comm]
  omega

theorem length_linkChangesData (s : State) : (linkChangesData s).length = 2 + 11 * s.linkChanges.length := by
  simp [linkChangesData, LinkChange.encoded, Nat.mul_comm]
  omega

theorem length_encoded_triggerCond (c : TriggerCond) : c.encoded.length = 8 := by
  cases c <;> simp [TriggerCond.encoded]

theorem length_encoded_triggerAction_le (a : TriggerAction) : a.encoded.length ≤ 3 + a.streams.length := by
  cases a <;> simp [TriggerAction.encoded, TriggerAction.streams]

theorem length_encoded_triggerSlot_le (t : TriggerSlot) : t.encoded.length ≤ 14 + t.listed := by
  cases t with
  | empty => simp [TriggerSlot.encoded, TriggerSlot.listed]
  | armed c a | faulted c a =>
    have := length_encoded_triggerAction_le a
    simp [TriggerSlot.encoded, TriggerSlot.listed, length_encoded_triggerCond]
    omega

theorem length_streamContent_data_le (s : State) (d : Dir) (i : StreamNo) :
    (streamContent s d i).data.length ≤ 119 := by
  cases d with
  | out =>
    have := (Config.outStreamLayout (s.outStream i).view).1.isLt
    simp only [streamContent, ReplyContent.data, Vector.length_toList]
    omega
  | inn =>
    have := (Config.inStreamLayout (s.inStream i).view).1.isLt
    simp only [streamContent, ReplyContent.data, Vector.length_toList]
    omega

/-! ### Contents within a record -/

/-- What an answer carries, if it carries anything, leaves LEN at 120 or less. -/
def answerFits (a : Answer) : Prop := ∀ content t, a = .ok (some content, t) → content.data.length ≤ 119

theorem answerFits_done (t : State) : answerFits (answerDone t) := fun _ _ h => nomatch h

theorem answerFits_data {data : List Byte} (t : State) (h : data.length ≤ 119) : answerFits (answerBytes data t) := by
  rintro _ _ ⟨⟩
  exact h

theorem answerFits_refuse (e : ReqRefusal) : answerFits (refuse e) := fun _ _ h => nomatch h

theorem answerFits_checked {checks : List (Bool × ReqRefusal)} {a : Answer} (h : answerFits a) :
    answerFits (checked checks a) := by
  unfold checked
  split
  · exact answerFits_refuse _
  · exact h

theorem answerFits_judgeSwitch (i : StreamNo) (s : State) : answerFits (judgeSwitch i s) := by
  unfold judgeSwitch
  split
  · exact answerFits_refuse _
  · exact answerFits_refuse _
  · exact answerFits_refuse _
  · split
    · exact answerFits_done _
    · exact answerFits_done _
    · exact answerFits_refuse _

/-- The contents of Table 10-4's replies, with at most 16 ramp stages, 2 link changes and 8 listed streams. -/
theorem requestTable_fits :
    ∀ r ∈ requestTable, ∀ (ps : List Byte) (s : State), s.linksLegal → s.triggersLegal → answerFits (r.judge ps s) := by
  simp only [requestTable, List.forall_mem_append, List.forall_mem_cons]
  refine ⟨⟨⟨⟨⟨⟨?poll, ?identify, ?readStatus, ?readNotices, ?noticeSetup, ?readCounters, ?deviceSetup, nofun⟩,
    ?linkSetup, ?rampSet, ?linkStart, ?linkStop, ?readLink, ?readLinkChanges, nofun⟩,
    ?rulePut, ?ruleDrop, ?readRule, nofun⟩,
    ?streamOpen, ?streamClose, ?readStream, ?keyLoad, ?keyRetire, ?keySwitch, ?kwkLoad, ?kwkErase, nofun⟩,
    ?timeSet, ?timeTrim, ?timeRead, ?triggerArm, ?triggerCancel, ?triggerRelease, ?readTrigger, nofun⟩,
    ?restart, ?zeroize, ?alarmClear, ?readRetained, nofun⟩
  all_goals intro ps s hlinks htriggers
  -- requests answered DONE
  case restart | zeroize | timeSet => exact answerFits_done _
  case noticeSetup | deviceSetup | linkSetup | rampSet | linkStart | linkStop | rulePut | ruleDrop | streamOpen
    | streamClose | keyLoad | keyRetire | kwkLoad | kwkErase | timeTrim | triggerArm | triggerCancel | triggerRelease
    | alarmClear => exact answerFits_checked (answerFits_done _)
  case keySwitch => exact answerFits_checked (answerFits_judgeSwitch _ s)
  -- requests that read
  case poll => exact answerFits_data _ (by simp [pollData])
  case identify => exact answerFits_data _ (by rw [identifyData_eq]; simp)
  case readStatus => exact answerFits_data _ (by simp [statusData, length_storeErrorData])
  case readNotices => exact answerFits_checked (answerFits_data _ (by simp [noticeData]))
  case readCounters =>
    have := length_scopeBytes_le s (byteAt ps 0) (linkAt ps 1) (streamAt ps 1)
    refine answerFits_checked (answerFits_data _ ?_)
    simp only [List.length_append, length_bytesOfNat]
    omega
  case readLink =>
    obtain ⟨hlegal, -⟩ := hlinks
    obtain ⟨-, hramp, -⟩ := hlegal (linkAt ps 0)
    refine answerFits_checked (answerFits_data _ ?_)
    split
    · rw [length_linkData]
      omega
    · rw [length_rampData]
      omega
  case readLinkChanges =>
    obtain ⟨-, hchanges⟩ := hlinks
    refine answerFits_data _ ?_
    rw [length_linkChangesData]
    omega
  case readRule => exact answerFits_checked (answerFits_data _ (by simp [ruleData]))
  case readStream =>
    refine answerFits_checked ?_
    rintro _ _ ⟨⟩
    exact length_streamContent_data_le s _ _
  case timeRead => exact answerFits_data _ (by simp [timeData])
  case readTrigger =>
    obtain ⟨-, hlisted⟩ := htriggers
    have hslot := length_encoded_triggerSlot_le (s.triggers.get (triggerAt ps 0))
    have := hlisted (triggerAt ps 0)
    refine answerFits_checked (answerFits_data _ ?_)
    simp only [List.length_append, length_bytesOfNat]
    omega
  case readRetained => exact answerFits_data _ (by simp [retainedData])

/-! ### The record (Table 10-1) -/

/-- The number of a reply's kind in bits 7–5 of HEAD. -/
def ReplyKind.number : ReplyKind → Nat
  | .done => 4
  | .data => 5
  | .refused => 6

theorem replyHead_toNat (kind : ReplyKind) (address : BitVec 3) :
    (replyHead kind address).toNat = kind.number * 32 + address.toNat := by
  revert address
  cases kind <;> decide

/-- A reply is laid out as `Obligations.RepliesFitARecord` says: code, bound, kind by kind what follows the code. -/
structure Reply.wellLaid (code : Byte) (r : Reply) : Prop where
  code_eq : r.code = code
  length_le : r.body.length ≤ 120
  done : r.kind = .done → r.body = [code]
  refused : r.kind = .refused → ∃ classCode detail : Byte, r.body = [code, classCode, detail]

theorem refusedReply_wellLaid (code : Byte) (e : ReqRefusal) : (refusedReply code e).wellLaid code where
  code_eq := rfl
  length_le := by simp [refusedReply, Reply.body, ReplyContent.data]
  done := nofun
  refused _ := ⟨_, _, rfl⟩

theorem answerReply_wellLaid (code : Byte) {content : Option ReplyContent}
    (h : ∀ c, content = some c → c.data.length ≤ 119) : (answerReply code content).wellLaid code := by
  cases content with
  | none => exact ⟨rfl, by simp [answerReply, Reply.body, ReplyContent.data], fun _ => rfl, nofun⟩
  | some c => exact ⟨rfl, Nat.succ_le_succ (h c rfl), nofun, nofun⟩

/-- An answered request leaves a well laid reply and the address as it was. -/
theorem answerRequest_reply {r : Request} (hr : r ∈ requestTable) (ps : List Byte) {s : State} (hlinks : s.linksLegal)
    (htriggers : s.triggersLegal) :
    ∃ reply, (answerRequest r ps s).line.reply = some reply ∧ reply.wellLaid r.code ∧
      (answerRequest r ps s).address = s.address := by
  cases hjudged : judgement r ps s with
  | error e =>
    rw [answerRequest_of_refused hjudged]
    exact ⟨_, rfl, refusedReply_wellLaid r.code e, rfl⟩
  | ok answer =>
    obtain ⟨content, t⟩ := answer
    obtain ⟨-, haddress, -⟩ := judgement_keepsOwn hr ps s content t hjudged
    obtain ⟨-, hanswer⟩ := answer_of_judgement hjudged
    rw [answerRequest_of_answered hjudged]
    refine ⟨_, rfl, answerReply_wellLaid r.code ?_, haddress⟩
    rintro c rfl
    exact requestTable_fits r hr ps s hlinks htriggers c t hanswer

/-- Settles O7: every reply is well laid, and its record is `recordBytes`, which sums to a multiple of 256. -/
theorem repliesFitARecord : Obligations.RepliesFitARecord := by
  intro code mk ps s t r hcommand hlinks htriggers hreply hexec howes head
  obtain ⟨row, hrow, rfl, htaken⟩ := exists_request_of_command hcommand
  cases (htaken ps s).symm.trans hexec
  have hheld : s.resetHeld = none := by
    by_contra hheld
    rw [takeRequest, recordArrives_of_held hheld, hreply] at howes
    cases howes
  rw [takeRequest_of_listens ⟨hheld, hreply⟩] at howes ⊢
  obtain ⟨reply, howed, hlaid, haddress⟩ := answerRequest_reply hrow ps hlinks htriggers
  cases howed.symm.trans howes
  have hhead : head = (replyHead r.kind s.address).toNat := by
    rw [replyHead_toNat]
    cases hkind : r.kind <;> simp only [head, hkind, ReplyKind.number]
  refine ⟨hlaid.code_eq, congrArg some hlaid.code_eq, hlaid.length_le, hlaid.done, hlaid.refused,
    recordCheck (replyHead r.kind s.address) r.body, ?_, ?_⟩
  · rw [replyOnLine, howed, haddress, hhead, BitVec.ofNat_toNat, BitVec.setWidth_eq]
    rfl
  · rw [hhead]
    exact recordCheck_sum _ _

end Sys2Proof.Machine
end

section
/-! SUPPORT. Replies and secrets (R8, R29, R181): what a request shows of a state is what it shows of that state with
every key, salt and key-wrap key covered, because requests read whether a secret is present and never its value. -/

namespace Sys2Proof.Machine

/-! ### What a covered state shows -/

/-- An outbound stream with the hidden fields of its slots covered. -/
def OutStream.covered (st : OutStream) : OutStream := { st with slots := mapTable OutSlot.covered st.slots }

/-- An inbound stream with the hidden fields of its slots covered. -/
def InStream.covered (st : InStream) : InStream := { st with slots := mapTable InSlot.covered st.slots }

section Covered

variable (s : State)

@[simp] theorem outStream_covered (i : StreamNo) : s.covered.outStream i = (s.outStream i).covered :=
  get_mapTable _ s.outs i

@[simp] theorem inStream_covered (i : StreamNo) : s.covered.inStream i = (s.inStream i).covered :=
  get_mapTable _ s.ins i

@[simp] theorem outSlot_covered (i : StreamNo) (k : SlotNo) : s.covered.outSlot i k = (s.outSlot i k).covered := by
  rw [State.outSlot, outStream_covered]
  exact get_mapTable _ _ k

@[simp] theorem inSlot_covered (i : StreamNo) (k : SlotNo) : s.covered.inSlot i k = (s.inSlot i k).covered := by
  rw [State.inSlot, inStream_covered]
  exact get_mapTable _ _ k

@[simp] theorem isSome_kwk_covered : s.covered.kwk.isSome = s.kwk.isSome := Option.isSome_map

@[simp] theorem isNone_kwk_covered : s.covered.kwk.isNone = s.kwk.isNone := Option.isNone_map

end Covered

theorem toList_mapTable {α β : Type} {n : Nat} (f : α → β) (v : Vector α n) :
    (mapTable f v).toList = v.toList.map f := by
  simp [mapTable, Vector.toList]

/-- A property of every entry that covering does not change. -/
theorem any_mapTable {α : Type} {n : Nat} {f : α → α} {p : α → Bool} (h : ∀ x, p (f x) = p x) (v : Vector α n) :
    (mapTable f v).toList.any p = v.toList.any p := by
  rw [toList_mapTable, List.any_map]
  exact congrArg (v.toList.any ·) (funext h)

/-- Entry by entry, what is read of a covered table. -/
theorem mapTable_mapTable {α β : Type} {n : Nat} {f : α → α} {g : α → β} (h : ∀ x, g (f x) = g x) (v : Vector α n) :
    mapTable g (mapTable f v) = mapTable g v := by
  apply table_ext
  intro i
  rw [get_mapTable, get_mapTable, get_mapTable, h]

/-! ### Readings of the requests -/

section Readings

variable (s : State)

@[simp] theorem streamUnused_covered (d : Dir) (i : StreamNo) : streamUnused s.covered d i = streamUnused s d i := by
  cases d <;> simp only [streamUnused, outStream_covered, inStream_covered] <;> rfl

@[simp] theorem streamIdTaken_covered (d : Dir) (i : StreamNo) (l : LinkNo) (streamId : Nat) :
    streamIdTaken s.covered d i l streamId = streamIdTaken s d i l streamId := by
  unfold streamIdTaken
  simp only [outStream_covered, inStream_covered]
  rfl

@[simp] theorem streamBusy_covered (d : Dir) (i : StreamNo) : streamBusy s.covered d i = streamBusy s d i := by
  cases d with
  | out =>
    simp only [streamBusy, outStream_covered]
    exact any_mapTable (f := OutSlot.covered) (fun _ => rfl) (s.outStream i).slots
  | inn =>
    simp only [streamBusy, inStream_covered]
    exact any_mapTable (f := InSlot.covered) (fun _ => rfl) (s.inStream i).slots

@[simp] theorem slotTaken_covered (d : Dir) (i : StreamNo) (k : SlotNo) :
    slotTaken s.covered d i k = slotTaken s d i k := by
  cases d <;> simp only [slotTaken, outSlot_covered, inSlot_covered] <;> rfl

@[simp] theorem slotIdle_covered (d : Dir) (i : StreamNo) (k : SlotNo) :
    slotIdle s.covered d i k = slotIdle s d i k := by
  cases d <;> simp only [slotIdle, outSlot_covered, inSlot_covered] <;> rfl

@[simp] theorem armStreamUnused_covered (c : TriggerCond) (a : TriggerAction) :
    armStreamUnused s.covered c a = armStreamUnused s c a := by
  simp only [armStreamUnused, outStream_covered]
  rfl

@[simp] theorem numberPassed_covered (c : TriggerCond) : numberPassed s.covered c = numberPassed s c := by
  cases c with
  | onPulse n => rfl
  | atTime t => rfl
  | atNumber i v =>
    have hlast : lastAssigned s.covered i = lastAssigned s i := by
      simp only [lastAssigned, outStream_covered, outSlot_covered]
      rfl
    simp only [numberPassed, hlast]

/-- A stream record shows no hidden field (R8). -/
@[simp] theorem streamContent_covered (d : Dir) (i : StreamNo) : streamContent s.covered d i = streamContent s d i := by
  cases d with
  | out =>
    have hslots : mapTable OutSlot.view (mapTable OutSlot.covered (s.outStream i).slots) =
        mapTable OutSlot.view (s.outStream i).slots :=
      mapTable_mapTable (f := OutSlot.covered) (fun _ => rfl) _
    simp only [streamContent, outStream_covered, OutStream.view, OutStream.covered, hslots]
  | inn =>
    have hslots : mapTable InSlot.view (mapTable InSlot.covered (s.inStream i).slots) =
        mapTable InSlot.view (s.inStream i).slots :=
      mapTable_mapTable (f := InSlot.covered) (fun _ => rfl) _
    have hstate : (s.inStream i).covered.state = (s.inStream i).state := by
      have hany := any_mapTable (f := InSlot.covered) (p := fun sl => sl.state == .active) (fun _ => rfl)
        (s.inStream i).slots
      simp only [InStream.state, InStream.covered, hany]
    simp only [streamContent, inStream_covered, InStream.view, hstate]
    simp only [InStream.covered, hslots]

@[simp] theorem scopeBytes_covered (scope : Nat) (l : LinkNo) (i : StreamNo) :
    scopeBytes s.covered scope l i = scopeBytes s scope l i := by
  unfold scopeBytes
  simp only [outStream_covered, inStream_covered]
  rfl

@[simp] theorem statusData_covered : statusData s.covered = statusData s := by
  simp only [statusData, isSome_kwk_covered]
  rfl

end Readings

/-! ### What an answer shows -/

/-- What a request's judgement shows the host: the refusal, or the content. -/
def Answer.shown (a : Answer) : Except ReqRefusal (Option ReplyContent) := a.map Prod.fst

theorem shown_checked {checks checks' : List (Bool × ReqRefusal)} {a a' : Answer} (hchecks : checks = checks')
    (ha : a.shown = a'.shown) : (checked checks a).shown = (checked checks' a').shown := by
  subst hchecks
  unfold checked
  split
  · rfl
  · exact ha

/-- DONE shows nothing of the state it leaves. -/
theorem shown_done (t t' : State) : (answerDone t).shown = (answerDone t').shown := rfl

theorem shown_bytes {data data' : List Byte} (hdata : data = data') (t t' : State) :
    (answerBytes data t).shown = (answerBytes data' t').shown := by
  subst hdata
  rfl

theorem shown_judgeSwitch_covered (i : StreamNo) (s : State) :
    (judgeSwitch i s.covered).shown = (judgeSwitch i s).shown := by
  have hstate : (s.covered.outStream i).state = (s.outStream i).state := by rw [outStream_covered]; rfl
  have hslot : ∀ k, (s.covered.outSlot i k).state = (s.outSlot i k).state := fun k => by rw [outSlot_covered]; rfl
  unfold judgeSwitch
  rw [hstate]
  cases (s.outStream i).state with
  | unused | opened | stalled => rfl
  | active a =>
    simp only [hslot]
    cases (s.outSlot i (otherSlot a)).state <;> rfl

/-- Every request of Table 10-4 shows of a state what it shows of the covered state. -/
theorem requestTable_shown_covered :
    ∀ r ∈ requestTable, ∀ (ps : List Byte) (s : State), (r.judge ps s.covered).shown = (r.judge ps s).shown := by
  simp only [requestTable, List.forall_mem_append, List.forall_mem_cons]
  refine ⟨⟨⟨⟨⟨⟨?poll, ?identify, ?readStatus, ?readNotices, ?noticeSetup, ?readCounters, ?deviceSetup, nofun⟩,
    ?linkSetup, ?rampSet, ?linkStart, ?linkStop, ?readLink, ?readLinkChanges, nofun⟩,
    ?rulePut, ?ruleDrop, ?readRule, nofun⟩,
    ?streamOpen, ?streamClose, ?readStream, ?keyLoad, ?keyRetire, ?keySwitch, ?kwkLoad, ?kwkErase, nofun⟩,
    ?timeSet, ?timeTrim, ?timeRead, ?triggerArm, ?triggerCancel, ?triggerRelease, ?readTrigger, nofun⟩,
    ?restart, ?zeroize, ?alarmClear, ?readRetained, nofun⟩
  all_goals intro ps s
  -- requests that read no stream, no slot and no key store
  case poll | identify | readLinkChanges | timeRead | restart | zeroize | readRetained => rfl
  case timeSet => exact shown_done _ _
  case readNotices | noticeSetup | deviceSetup | linkSetup | rampSet | linkStart | linkStop | readLink | ruleDrop
    | readRule | timeTrim | triggerCancel | triggerRelease | readTrigger | alarmClear => exact shown_checked rfl rfl
  -- requests whose checks read streams, slots or the key store's presence
  case rulePut => exact shown_checked (by simp only [rulePutChecks, outStream_covered]; rfl) rfl
  case streamOpen =>
    exact shown_checked (by simp only [streamOpenChecks, streamIdTaken_covered, streamUnused_covered]) rfl
  case streamClose =>
    exact shown_checked (by simp only [streamCloseChecks, streamUnused_covered, streamBusy_covered]; rfl) rfl
  case keyLoad =>
    refine shown_checked ?_ rfl
    simp only [keyLoadChecks, streamUnused_covered, slotTaken_covered, isNone_kwk_covered]
    rfl
  case keyRetire => exact shown_checked (by simp only [keyRetireChecks, streamUnused_covered, slotIdle_covered]) rfl
  case kwkLoad => exact shown_checked (by simp only [isSome_kwk_covered]) rfl
  case kwkErase => exact shown_checked (by simp only [isNone_kwk_covered]) rfl
  case triggerArm =>
    exact shown_checked (by simp only [triggerArmChecks, armStreamUnused_covered, numberPassed_covered]; rfl) rfl
  -- requests whose contents do
  case keySwitch => exact shown_checked rfl (shown_judgeSwitch_covered _ s)
  case readStatus => exact shown_bytes (statusData_covered s) _ _
  case readCounters =>
    refine shown_checked rfl (shown_bytes ?_ _ _)
    rw [scopeBytes_covered]
  case readStream =>
    exact shown_checked rfl (congrArg (fun content => Except.ok (some content)) (streamContent_covered s _ _))

theorem shown_judgement_covered {r : Request} (hr : r ∈ requestTable) (ps : List Byte) (s : State) :
    (judgement r ps s.covered).shown = (judgement r ps s).shown := by
  have hmode : s.covered.mode = s.mode := rfl
  unfold judgement
  rw [hmode]
  split
  · rfl
  · split
    · rfl
    · exact requestTable_shown_covered r hr ps s

/-- The reply to what a judgement shows. -/
def replyTo (code : Byte) : Except ReqRefusal (Option ReplyContent) → Reply
  | .error e => refusedReply code e
  | .ok content => answerReply code content

theorem answerRequest_line_reply (r : Request) (ps : List Byte) (s : State) :
    (answerRequest r ps s).line.reply = some (replyTo r.code (judgement r ps s).shown) := by
  cases hjudged : judgement r ps s with
  | error e =>
    rw [answerRequest_of_refused hjudged]
    rfl
  | ok answer =>
    rw [answerRequest_of_answered hjudged]
    rfl

/-- The reply after a request arrives, from what a covered state shows. -/
theorem takeRequest_line_reply {r : Request} (hr : r ∈ requestTable) (ps : List Byte) (s : State) :
    (takeRequest r ps s).line.reply =
      if s.covered.resetHeld.isSome then s.covered.line.reply
      else if s.covered.line.reply.isSome then s.covered.line.reply
      else some (replyTo r.code (judgement r ps s.covered).shown) := by
  rw [shown_judgement_covered hr, ← answerRequest_line_reply, takeRequest]
  unfold recordArrives
  split
  next h => exact (if_pos h).symm
  next h =>
    refine Eq.trans ?_ (if_neg h).symm
    split
    next h' => exact (if_pos h').symm
    next h' => exact (if_neg h').symm

/-- Settles O8: the reply depends on the covered state alone. -/
theorem repliesShowNoSecret : Obligations.RepliesShowNoSecret := by
  intro code mk ps s s' t t' hcommand hcovered hexec hexec'
  obtain ⟨r, hr, rfl, htaken⟩ := exists_request_of_command hcommand
  cases (htaken ps s).symm.trans hexec
  cases (htaken ps s').symm.trans hexec'
  rw [takeRequest_line_reply hr, takeRequest_line_reply hr, hcovered]

end Sys2Proof.Machine
end

section
/-! SUPPORT. The order of the requests' checks (R183): the checks of each request, one by one, against the conditions
its rule states. -/

namespace Sys2Proof.Machine

/-! ### Stated checks -/

/-- A class and a detail code as the refusal of the model's checks. -/
def refusalOf (e : Byte × Byte) : ReqRefusal := ⟨e.1.toNat, e.2.toNat⟩

/-- Stated checks as checks of the model. -/
def asChecks (stated : List (Bool × Byte × Byte)) : List (Bool × ReqRefusal) := stated.map (Prod.map id refusalOf)

theorem firstFailing_asChecks (stated : List (Bool × Byte × Byte)) :
    firstFailing (asChecks stated) = (firstRefusal stated).map refusalOf := by
  induction stated with
  | nil => rfl
  | cons c stated ih =>
    obtain ⟨fails, e⟩ := c
    cases fails
    · exact ih
    · rfl

/-- An answer refuses by the first stated check that fails. -/
def Answer.refusesBy (a : Answer) (stated : List (Bool × Byte × Byte)) : Prop :=
  ∀ e, firstRefusal stated = some e → a = refuse (refusalOf e)

theorem refusesBy_nil (a : Answer) : a.refusesBy [] := nofun

/-- Check by check; what the check lets pass is known to the checks behind it. -/
theorem refusesBy_cons {fails fails' : Bool} {r : ReqRefusal} {e : Byte × Byte} {rest : List (Bool × ReqRefusal)}
    {stated : List (Bool × Byte × Byte)} {a : Answer} (hr : refusalOf e = r) (hfails : fails = fails')
    (hrest : fails' = false → (checked rest a).refusesBy stated) :
    (checked ((fails, r) :: rest) a).refusesBy ((fails', e) :: stated) := by
  subst hr hfails
  intro e' he'
  cases fails
  · exact hrest rfl e' he'
  · cases he'
    rfl

/-- An answer behind the stated checks. -/
theorem refusesBy_of_checks {checks : List (Bool × ReqRefusal)} {stated : List (Bool × Byte × Byte)} {a : Answer}
    (h : checks = asChecks stated) : (checked checks a).refusesBy stated := by
  intro e he
  rw [checked, h, firstFailing_asChecks, he]
  rfl

section Taken

variable (r : Request) {i : Instr} {ps : List Byte} {e : Byte × Byte} {s : State}
  {stated : List (Bool × Byte × Byte)}

theorem exec_refused_of_stated (hs : s.listens) (hadmitted : modeRefusal s.mode r.code = none)
    (hexec : exec i s = .next (takeRequest r ps s)) (hjudge : r.fits ps = true → (r.judge ps s).refusesBy stated)
    (hr : r ∈ requestTable) (hfits : lengthFits r.code ps = true) (he : firstRefusal stated = some e) :
    exec i s = .next (answersRefused r.code e.1 e.2 s) := by
  rw [lengthFits_code r hr] at hfits
  rw [hexec, takeRequest_refused_of_admitted hs hfits hadmitted (hjudge hfits e he), refusedReply_eq]
  simp [refusalOf]

/-- A request that RUNNING and ALARM admit. -/
theorem exec_refused_of_reads (hs : s.reads) (hcode : alarmAdmits.contains r.code = true)
    (hexec : exec i s = .next (takeRequest r ps s)) (hjudge : r.fits ps = true → (r.judge ps s).refusesBy stated)
    (hr : r ∈ requestTable := by simp [requestTable]) :
    lengthFits r.code ps = true → firstRefusal stated = some e →
      exec i s = .next (answersRefused r.code e.1 e.2 s) := by
  obtain ⟨hlistens, hmode⟩ := hs
  exact exec_refused_of_stated r hlistens (admitted_in_alarm hmode hcode) hexec hjudge hr

theorem exec_refused_of_serves (hs : s.serves) (hexec : exec i s = .next (takeRequest r ps s))
    (hjudge : r.fits ps = true → (r.judge ps s).refusesBy stated)
    (hr : r ∈ requestTable := by simp [requestTable]) :
    lengthFits r.code ps = true → firstRefusal stated = some e →
      exec i s = .next (answersRefused r.code e.1 e.2 s) := by
  obtain ⟨hlistens, hmode⟩ := hs
  exact exec_refused_of_stated r hlistens (by rw [hmode]; rfl) hexec hjudge hr

end Taken

/-! ### What the checks read -/

theorem dirBad_eq (ps : List Byte) : dirBad ps = decide (2 ≤ byteAt ps 0) := rfl

/-- A two-byte number, byte by byte. -/
theorem numAt_two {ps : List Byte} {i : Nat} (h : i + 1 < ps.length) :
    numAt ps i 2 = byteAt ps i * 256 + byteAt ps (i + 1) := by
  have hdrop : ps.drop i = ps[i] :: ps[i + 1] :: ps.drop (i + 2) := by
    rw [List.drop_eq_getElem_cons (by omega), List.drop_eq_getElem_cons h]
  rw [numAt, hdrop]
  simp only [natOfBytes, List.take_succ_cons, List.take_zero, List.foldl_cons, List.foldl_nil, byteAt,
    List.getD_eq_getElem _ _ h, List.getD_eq_getElem _ _ (Nat.lt_of_succ_lt h), Nat.zero_mul, Nat.zero_add]

/-- Bit 15 of a two-byte number is bit 7 of its first byte. -/
theorem testBit_numAt_two {ps : List Byte} {i : Nat} (h : i + 1 < ps.length) :
    (numAt ps i 2).testBit 15 = decide (128 ≤ byteAt ps i) := by
  have hfirst := byteAt_lt ps i
  have hsecond := byteAt_lt ps (i + 1)
  rw [numAt_two h, Nat.testBit_eq_decide_div_mod_eq, decide_eq_decide]
  omega

theorem any_toList_iff {α : Type} {n : Nat} {v : Vector α n} {p : α → Bool} :
    v.toList.any p = true ↔ ∃ i : Fin n, p (v.get i) = true := by
  simp only [List.any_eq_true, mem_toList_iff, exists_exists_eq_and]

section Readings

variable (s : State)

theorem streamUnused_dirAt (ps : List Byte) (i : StreamNo) :
    streamUnused s (dirAt ps 0) i =
      if decide (byteAt ps 0 = 0) then decide ((s.outStream i).state = .unused) else !(s.inStream i).isOpen := by
  by_cases h : byteAt ps 0 = 0 <;> simp [dirAt, h, streamUnused]

theorem streamIdTaken_dirAt (ps : List Byte) (i : StreamNo) (l : LinkNo) (streamId : Nat) :
    streamIdTaken s (dirAt ps 0) i l streamId =
      if decide (byteAt ps 0 = 0) then
        decide (∃ j, j ≠ i ∧ (s.outStream j).state ≠ .unused ∧ (s.outStream j).link = l ∧
          (s.outStream j).streamId = streamId)
      else
        decide (∃ j, j ≠ i ∧ (s.inStream j).isOpen = true ∧ (s.inStream j).link = l ∧
          (s.inStream j).streamId = streamId) := by
  by_cases h : byteAt ps 0 = 0 <;> rw [Bool.eq_iff_iff] <;> simp [dirAt, h, streamIdTaken, and_assoc]

theorem decide_dirAt (ps : List Byte) : decide (dirAt ps 0 = .out) = decide (byteAt ps 0 = 0) := by
  by_cases h : byteAt ps 0 = 0 <;> simp [dirAt, h]

theorem ruleNames_eq (i : StreamNo) :
    ruleNames s i = decide (∃ r, (s.rules.get r).valid = true ∧ (s.rules.get r).action = .protect ∧
      (s.rules.get r).stream = i) := by
  rw [Bool.eq_iff_iff]
  simp only [ruleNames, any_toList_iff, Bool.and_eq_true, decide_eq_true_eq, and_assoc]

/-- An ARMED trigger that lists or watches the stream (R6 check 3). -/
theorem triggerNames_eq (i : StreamNo) :
    triggerNames s i = decide (∃ j, i ∈ (s.triggers.get j).named.1 ∨
      (match s.triggers.get j with
        | .armed (.atNumber k _) _ => some k
        | _ => none) = some i) := by
  rw [Bool.eq_iff_iff]
  simp only [triggerNames, any_toList_iff, decide_eq_true_eq]
  refine exists_congr fun j => ?_
  rcases s.triggers.get j with _ | ⟨c, a⟩ | _
  · simp [TriggerSlot.named]
  · cases c <;> simp [TriggerSlot.named, TriggerCond.watched]
  · simp [TriggerSlot.named]

theorem streamBusy_dirAt (ps : List Byte) (i : StreamNo) :
    streamBusy s (dirAt ps 0) i =
      if decide (byteAt ps 0 = 0) then
        decide (∃ k, 0 < (s.outSlot i k).inFlight ∨ (s.outSlot i k).state = .loading ∨
          (s.outSlot i k).state = .draining)
      else
        decide (∃ k, 0 < (s.inSlot i k).inFlight ∨ (s.inSlot i k).state = .loading ∨
          (s.inSlot i k).state = .draining) := by
  by_cases h : byteAt ps 0 = 0
  · simp only [dirAt, h, decide_true, if_true, streamBusy]
    refine Bool.eq_iff_iff.2 (Iff.trans ?_ decide_eq_true_iff.symm)
    simp only [any_toList_iff, Bool.or_eq_true, decide_eq_true_eq, beq_iff_eq, or_assoc, State.outSlot]
  · simp only [dirAt, h, decide_false, if_false, Bool.false_eq_true, streamBusy]
    refine Bool.eq_iff_iff.2 (Iff.trans ?_ decide_eq_true_iff.symm)
    simp only [any_toList_iff, Bool.or_eq_true, decide_eq_true_eq, beq_iff_eq, or_assoc, State.inSlot]

theorem slotTaken_dirAt (ps : List Byte) (i : StreamNo) (k : SlotNo) :
    slotTaken s (dirAt ps 0) i k =
      !(if decide (byteAt ps 0 = 0) then decide ((s.outSlot i k).state = .empty)
        else decide ((s.inSlot i k).state = .empty)) := by
  by_cases h : byteAt ps 0 = 0 <;> simp [dirAt, h, slotTaken]

theorem slotIdle_dirAt (ps : List Byte) (i : StreamNo) (k : SlotNo) :
    slotIdle s (dirAt ps 0) i k =
      ((if decide (byteAt ps 0 = 0) then decide ((s.outSlot i k).state = .empty)
        else decide ((s.inSlot i k).state = .empty)) ||
       (if decide (byteAt ps 0 = 0) then decide ((s.outSlot i k).state = .draining)
        else decide ((s.inSlot i k).state = .draining))) := by
  by_cases h : byteAt ps 0 = 0 <;> simp [dirAt, h, slotIdle] <;> rfl

theorem fnBad_loadRangeOf (ps : List Byte) :
    (loadRangeOf ps).fnBad =
      if decide (byteAt ps 0 = 0) then
        !decide (1 ≤ numAt ps 71 6 ∧ numAt ps 71 6 ≤ numAt ps 77 6 ∧ numAt ps 77 6 ≤ numAt ps 83 6 ∧
          numAt ps 83 6 ≤ 2 ^ 48 - 1)
      else decide (numAt ps 71 6 = 0) := by
  by_cases h : byteAt ps 0 = 0
  · simp only [loadRangeOf, dirAt, h, LoadRange.fnBad, Bool.decide_and, Bool.and_assoc]
    rfl
  · simp only [loadRangeOf, dirAt, h, LoadRange.fnBad]
    rfl

theorem lifetimeBad_eq (kind limit warning : Nat) :
    lifetimeBad kind limit warning =
      (decide (2 < kind) || (decide (kind ≠ 0) && decide (limit = 0 ∨ limit < warning))) := by
  simp only [lifetimeBad, Nat.one_le_iff_ne_zero, Bool.decide_or]

end Readings

/-- Some stage is above the rate (R129 check 6). -/
theorem any_rate_eq (ramp : List Stage) (rate : Nat) :
    (ramp.any fun st => decide (rate < st.rate)) = decide (∃ st ∈ ramp, rate < st.rate) := by
  rw [Bool.eq_iff_iff]
  simp

/-! ### TRIGGER_ARM (R158) -/

theorem isEmpty_triggerSlot_eq (t : TriggerSlot) : t.isEmpty = decide (t = .empty) := by cases t <;> rfl

section Arm

variable {ps : List Byte}

/-- The bytes a TRIGGER_ARM of fitting length lists are all that stand behind its count. -/
theorem take_operands (hfits : triggerArmFits ps = true) : (ps.drop 11).take (byteAt ps 10) = ps.drop 11 := by
  refine List.take_of_length_le (le_of_eq ?_)
  rw [← length_armOperands hfits, armOperands, List.length_map]

theorem hasRepeat_armOperands : hasRepeat (armOperands ps) = decide (¬ (ps.drop 11).Nodup) := by
  have hinj : Function.Injective (BitVec.toNat : Byte → Nat) := fun _ _ => BitVec.eq_of_toNat_eq
  rw [← Bool.not_inj_iff, decide_not, Bool.not_not, Bool.eq_iff_iff, decide_eq_true_eq, Bool.not_eq_true',
    hasRepeat_eq_false_iff, armOperands, List.nodup_map_iff hinj]

theorem any_armOperands (n : Nat) :
    ((armOperands ps).any fun v => decide (n ≤ v)) = decide (∃ o ∈ ps.drop 11, n ≤ o.toNat) := by
  rw [Bool.eq_iff_iff]
  simp [armOperands, -List.map_drop]

/-- The one operand of a link action. -/
theorem armOperands_of_one (hfits : triggerArmFits ps = true) (hone : byteAt ps 10 = 1) :
    armOperands ps = [byteAt ps 11] := by
  have hlength := (length_armOperands hfits).trans hone
  rw [armOperands, List.length_map, List.length_drop] at hlength
  have hlast : 11 < ps.length := by omega
  rw [armOperands, List.drop_eq_getElem_cons hlast, List.drop_eq_nil_of_le (by omega), byteAt,
    List.getD_eq_getElem _ _ hlast]
  rfl

theorem watched_armCond (hkind : byteAt ps 1 ≤ 2) :
    (armCond ps).watched = if byteAt ps 1 = 2 then some (streamAt ps 2) else none := by
  obtain h | h | h : byteAt ps 1 = 0 ∨ byteAt ps 1 = 1 ∨ byteAt ps 1 = 2 := by omega
  all_goals simp [armCond, TriggerCond.watched, h]

theorem streams_armAction :
    (armAction ps).streams = if byteAt ps 9 = 0 then (ps.drop 11).map fun o => Fin.ofNat 64 o.toNat else [] := by
  split
  next h => rw [armAction_of_switch h, armOperands, List.map_map]; rfl
  next h => exact armAction_streams_of_link h

theorem link_armAction : (armAction ps).link? = if byteAt ps 9 = 0 then none else some (linkAt ps 11) := by
  unfold armAction
  split <;> simp_all [TriggerAction.link?]

variable (s : State)

theorem armStreamUnused_eq (hkind : byteAt ps 1 ≤ 2) :
    armStreamUnused s (armCond ps) (armAction ps) =
      decide ((byteAt ps 1 = 2 ∧ (s.outStream (streamAt ps 2)).state = .unused) ∨
        (byteAt ps 9 = 0 ∧ ∃ o ∈ ps.drop 11, (s.outStream (Fin.ofNat 64 o.toNat)).state = .unused)) := by
  rw [Bool.eq_iff_iff, armStreamUnused, watched_armCond hkind, streams_armAction]
  by_cases h1 : byteAt ps 1 = 2 <;> by_cases h9 : byteAt ps 9 = 0 <;> simp [h1, h9, -List.map_drop]

theorem numberPassed_eq (hkind : byteAt ps 1 ≤ 2) :
    numberPassed s (armCond ps) =
      decide (byteAt ps 1 = 2 ∧ ¬ ∃ a, (s.outStream (streamAt ps 2)).state = .active a ∧
        (s.outSlot (streamAt ps 2) a).nextFn - 1 < numAt ps 3 6) := by
  obtain h | h | h : byteAt ps 1 = 0 ∨ byteAt ps 1 = 1 ∨ byteAt ps 1 = 2 := by omega
  · simp [armCond, numberPassed, h]
  · simp [armCond, numberPassed, h]
  · cases hstate : (s.outStream (streamAt ps 2)).state <;>
      simp [armCond, numberPassed, lastAssigned, OutStream.activeSlot, hstate, h]

theorem actionNamed_eq :
    actionNamed s (armAction ps) =
      decide (∃ j, (byteAt ps 9 = 0 ∧ ∃ o ∈ ps.drop 11, Fin.ofNat 64 o.toNat ∈ (s.triggers.get j).named.1) ∨
        (byteAt ps 9 ≠ 0 ∧ (s.triggers.get j).named.2 = some (linkAt ps 11))) := by
  rw [Bool.eq_iff_iff, ← not_iff_not, Bool.not_eq_true, actionNamed_eq_false_iff s (armCond ps)]
  by_cases h : byteAt ps 9 = 0 <;>
    simp [TriggerSlot.apart, TriggerSlot.named, streams_armAction, link_armAction, h, -List.map_drop]

end Arm

/-! ### KEY_SWITCH (R48) -/

theorem judgeSwitch_refusesBy (i : StreamNo) (s : State) :
    (judgeSwitch i s).refusesBy
      [(decide ((s.outStream i).state = .unused), 0x05, 0x06),
       (decide (∀ a, (s.outStream i).state ≠ .active a), 0x05, 0x0F),
       (decide (∃ a, (s.outStream i).state = .active a ∧
          ((s.outSlot i (otherSlot a)).state = .empty ∨ (s.outSlot i (otherSlot a)).state = .draining)),
        0x05, 0x10)] := by
  intro e he
  unfold judgeSwitch
  cases hstate : (s.outStream i).state with
  | unused | opened | stalled =>
    simp [firstRefusal, hstate] at he
    subst he
    rfl
  | active a =>
    cases hslot : (s.outSlot i (otherSlot a)).state <;> simp [firstRefusal, hstate, hslot] at he
    all_goals
      subst he
      simp only [hslot]
      rfl

/-- Settles O60: each request's checks are the stated ones in the stated order. Only
TRIGGER_ARM's later checks agree with the stated ones because of what its second check lets pass. -/
theorem checksRefuseInTheirOrder : Obligations.ChecksRefuseInTheirOrder := by
  intro ps e s refuses b outbound inbound unused slotIs linkIs listed switches
  refine ⟨fun hs => ⟨?readNotices, ?noticeSetup, ?readCounters, ?readLink, ?readRule, ?readStream, ?timeTrim,
      ?readTrigger⟩,
    fun hs => ⟨?ruleDrop, ?kwkLoad, ?kwkErase, ?streamOpen, ?streamClose, ?keyLoad, ?keyRetire, ?keySwitch, ?rulePut,
      ?linkSetup, ?rampSet, ?linkStart, ?linkStop, ?triggerArm⟩⟩
  case readNotices => exact exec_refused_of_reads reqReadNotices hs rfl rfl fun _ => refusesBy_of_checks rfl
  case noticeSetup =>
    refine exec_refused_of_reads reqNoticeSetup hs rfl rfl fun hfits => ?_
    have hlen : ps.length + 1 = 6 := (lenIs_eq_true_iff 6 ps).1 hfits
    refine refusesBy_cons rfl ?_ fun _ => refusesBy_nil _
    rw [testBit_numAt_two (by omega), testBit_numAt_two (by omega), Bool.decide_or]
  case readCounters =>
    refine exec_refused_of_reads reqReadCounters hs rfl rfl fun _ => refusesBy_of_checks ?_
    simp only [Bool.decide_and, Bool.and_assoc]
    rfl
  case readLink => exact exec_refused_of_reads reqReadLink hs rfl rfl fun _ => refusesBy_of_checks rfl
  case readRule => exact exec_refused_of_reads reqReadRule hs rfl rfl fun _ => refusesBy_of_checks rfl
  case readStream => exact exec_refused_of_reads reqReadStream hs rfl rfl fun _ => refusesBy_of_checks rfl
  case timeTrim => exact exec_refused_of_reads reqTimeTrim hs rfl rfl fun _ => refusesBy_of_checks rfl
  case readTrigger => exact exec_refused_of_reads reqReadTrigger hs rfl rfl fun _ => refusesBy_of_checks rfl
  case ruleDrop => exact exec_refused_of_serves reqRuleDrop hs rfl fun _ => refusesBy_of_checks rfl
  case kwkLoad => exact exec_refused_of_serves reqKwkLoad hs rfl fun _ => refusesBy_of_checks rfl
  case kwkErase => exact exec_refused_of_serves reqKwkErase hs rfl fun _ => refusesBy_of_checks rfl
  case linkStart => exact exec_refused_of_serves reqLinkStart hs rfl fun _ => refusesBy_of_checks rfl
  case linkStop => exact exec_refused_of_serves reqLinkStop hs rfl fun _ => refusesBy_of_checks rfl
  case keySwitch =>
    exact exec_refused_of_serves reqKeySwitch hs rfl fun _ =>
      refusesBy_cons rfl rfl fun _ => refusesBy_cons rfl rfl fun _ => judgeSwitch_refusesBy _ s
  case streamOpen =>
    refine exec_refused_of_serves reqStreamOpen hs rfl fun _ => refusesBy_of_checks ?_
    simp only [streamOpenChecks, dirBad_eq, streamUnused_dirAt, streamIdTaken_dirAt]
    rfl
  case streamClose =>
    refine exec_refused_of_serves reqStreamClose hs rfl fun _ => refusesBy_of_checks ?_
    simp only [streamCloseChecks, dirBad_eq, decide_dirAt, streamUnused_dirAt, ruleNames_eq, triggerNames_eq,
      streamBusy_dirAt]
    rfl
  case keyLoad =>
    refine exec_refused_of_serves reqKeyLoad hs rfl fun _ => refusesBy_of_checks ?_
    simp only [keyLoadChecks, dirBad_eq, decide_dirAt, streamUnused_dirAt, slotTaken_dirAt, fnBad_loadRangeOf,
      lifetimeBad_eq]
    rfl
  case keyRetire =>
    refine exec_refused_of_serves reqKeyRetire hs rfl fun _ => refusesBy_of_checks ?_
    simp only [keyRetireChecks, dirBad_eq, streamUnused_dirAt, slotIdle_dirAt]
    rfl
  case rulePut =>
    refine exec_refused_of_serves reqRulePut hs rfl fun _ => refusesBy_of_checks ?_
    simp only [rulePutChecks, apertureInvalid, Bool.decide_or, Bool.decide_and, Bool.or_assoc]
    rfl
  case linkSetup =>
    refine exec_refused_of_serves reqLinkSetup hs rfl fun _ => refusesBy_of_checks ?_
    simp only [linkSetupChecks, Bool.decide_or, Bool.or_assoc, any_rate_eq]
    rfl
  case rampSet =>
    refine exec_refused_of_serves reqRampSet hs rfl fun _ => refusesBy_of_checks ?_
    simp only [rampSetChecks, stagesOf, List.flatMap_map, List.map_map, asChecks, List.map_append, List.map_flatMap,
      Bool.decide_or]
    rfl
  case triggerArm =>
    refine exec_refused_of_serves reqTriggerArm hs rfl fun hfits => ?_
    have hlisted : listed = ps.drop 11 := take_operands hfits
    simp only [hlisted]
    refine refusesBy_cons rfl rfl fun _ => refusesBy_cons rfl ?kinds fun hkinds => ?_
    case kinds => simp [b, Bool.or_assoc]
    obtain ⟨hkind, -, hone⟩ : b 1 ≤ 2 ∧ b 9 ≤ 3 ∧ (b 9 ≠ 0 → b 10 = 1) := by
      simpa [or_iff_not_imp_left] using hkinds
    refine refusesBy_cons rfl ?ahead fun _ => refusesBy_cons rfl ?watched fun _ => refusesBy_cons rfl ?list fun _ =>
      refusesBy_cons rfl ?streams fun _ => refusesBy_cons rfl ?link fun _ => refusesBy_cons rfl ?slot fun _ =>
      refusesBy_cons rfl rfl fun _ => refusesBy_cons rfl (armStreamUnused_eq s hkind) fun _ =>
      refusesBy_cons rfl (numberPassed_eq s hkind) fun _ => refusesBy_cons rfl (actionNamed_eq s) fun _ =>
      refusesBy_nil _
    case ahead => simp only [Bool.decide_or, Bool.decide_and]; rfl
    case watched => simp only [Bool.decide_and]; rfl
    case list => simp only [hasRepeat_armOperands, Bool.decide_or, Bool.or_assoc]; rfl
    case streams => simp only [any_armOperands]; rfl
    case link =>
      by_cases h : byteAt ps 9 = 0
      · simp [switches, b, h]
      · simp [switches, b, h, armOperands_of_one hfits (hone h)]
    case slot => simp [isEmpty_triggerSlot_eq]

end Sys2Proof.Machine
end

section
/-! SUPPORT. One step by what the queue holds (log entry 1): an equation for each of its two forms. -/

namespace Sys2Proof.Machine

theorem step_of_pending_cons {c : Instr} {rest : List Instr} {s : State} (h : s.pending = c :: rest) :
    step s = exec c { s with pending := rest } := by
  rw [step, h]

theorem step_of_pending_nil {s : State} (h : s.pending = []) : step s = .next s := by
  rw [step, h]

/-- Settles O1: the queue is empty or has a front command, and `step` has one equation for each. -/
theorem stepTakesFrontCommand : Obligations.StepTakesFrontCommand :=
  ⟨fun _ _ _ => step_of_pending_cons, fun _ => step_of_pending_nil⟩

end Sys2Proof.Machine
end

section
/-! SUPPORT. What a slot and a stream keep by their states (R3, R9 to R14, R33): the changes of one slot that keep its
stream legal, and the switch, the stall and the end of service of the ACTIVE slot. -/

namespace Sys2Proof.Machine

/-- What holds of a slot and of its other slot holds of both slots of a stream. -/
theorem forall_slot_iff {p : SlotNo → Prop} (a : SlotNo) : (∀ k, p k) ↔ p a ∧ p (otherSlot a) := by
  refine ⟨fun h => ⟨h _, h _⟩, fun ⟨ha, hother⟩ k => ?_⟩
  by_cases hk : k = a
  · exact hk ▸ ha
  · exact eq_otherSlot_of_ne hk ▸ hother

theorem ne_otherSlot (k : SlotNo) : k ≠ otherSlot k := (otherSlot_ne k).symm

/-! ### Outbound slots -/

theorem OutSlot.legal_empty (r : LoadResult) : (OutSlot.empty r).legal := rfl

theorem OutSlot.inFlight_left (sl : OutSlot) : sl.left.inFlight = sl.inFlight := by
  unfold OutSlot.left
  split
  next h => exact h.symm
  next => rfl

theorem OutSlot.inFlight_itemsLeft (n : Nat) (sl : OutSlot) : (sl.itemsLeft n).inFlight = sl.inFlight - n := by
  unfold OutSlot.itemsLeft
  split
  next h => exact (Nat.sub_eq_zero_of_le h.2.2).symm
  next => rfl

/-- A slot that has left service is EMPTY or DRAINING. -/
theorem OutSlot.state_left (sl : OutSlot) : sl.left.state = .empty ∨ sl.left.state = .draining := by
  unfold OutSlot.left
  split
  · exact .inl rfl
  · exact .inr rfl

/-- A slot with a key and its numbers in order leaves service legally. -/
theorem OutSlot.legal_left {sl : OutSlot} (hkey : sl.secret ≠ none) (hnumbers : sl.numbered (sl.hard + 1)) :
    sl.left.legal := by
  unfold OutSlot.left
  split
  · exact OutSlot.legal_empty _
  next h => exact ⟨hkey, Nat.pos_of_ne_zero h, hnumbers⟩

theorem OutSlot.numbered.mono {sl : OutSlot} {m n : Nat} (h : sl.numbered m) (hmn : m ≤ n) : sl.numbered n := by
  obtain ⟨hone, hinitial, hsoft, hhard, hnext, hlast⟩ := h
  exact ⟨hone, hinitial, hsoft, hhard, hnext, hlast.trans hmn⟩

section LegalSlot

variable {sl : OutSlot} (h : sl.legal)
include h

theorem OutSlot.legal.of_empty (hs : sl.state = .empty) : sl = OutSlot.empty sl.lastLoad := by
  simpa only [OutSlot.legal, hs] using h

theorem OutSlot.legal.of_loading (hs : sl.state = .loading) :
    sl = { OutSlot.empty .none with state := .loading } := by
  simpa only [OutSlot.legal, hs] using h

theorem OutSlot.legal.of_ready (hs : sl.state = .ready) :
    sl.secret ≠ none ∧ sl.inFlight = 0 ∧ sl.numbered sl.hard := by
  simpa only [OutSlot.legal, hs] using h

theorem OutSlot.legal.of_active (hs : sl.state = .active) : sl.secret ≠ none ∧ sl.numbered sl.hard := by
  simpa only [OutSlot.legal, hs] using h

theorem OutSlot.legal.of_draining (hs : sl.state = .draining) :
    sl.secret ≠ none ∧ 0 < sl.inFlight ∧ sl.numbered (sl.hard + 1) := by
  simpa only [OutSlot.legal, hs] using h

/-- The last load result of an ACTIVE slot, its accrual and its REKEY_DUE flag are no part of its rules. -/
theorem OutSlot.legal.beside_of_active (hs : sl.state = .active) (r : LoadResult) (accrued : Nat) (raised : Bool) :
    ({ sl with lastLoad := r, accrued := accrued, rekeyRaised := raised } : OutSlot).legal := by
  simp only [OutSlot.legal, hs]
  exact h.of_active hs

/-- An ACTIVE slot leaves service legally. -/
theorem OutSlot.legal.left_of_active (hs : sl.state = .active) : sl.left.legal :=
  have ⟨hkey, hnumbers⟩ := h.of_active hs
  OutSlot.legal_left hkey (hnumbers.mono (Nat.le_succ _))

/-- A READY slot leaves service legally. -/
theorem OutSlot.legal.left_of_ready (hs : sl.state = .ready) : sl.left.legal :=
  have ⟨hkey, _, hnumbers⟩ := h.of_ready hs
  OutSlot.legal_left hkey (hnumbers.mono (Nat.le_succ _))

/-- A READY slot becomes ACTIVE legally (R22, R46). -/
theorem OutSlot.legal.activated (hs : sl.state = .ready) : ({ sl with state := .active } : OutSlot).legal :=
  have ⟨hkey, _, hnumbers⟩ := h.of_ready hs
  ⟨hkey, hnumbers⟩

/-- A slot keeps its rules as items leave it: DRAINING ends with the last (R11, R14). -/
theorem OutSlot.legal.itemsLeft (n : Nat) : (sl.itemsLeft n).legal := by
  by_cases hfreed : sl.freedBy n
  · rw [OutSlot.itemsLeft_of_freed hfreed]
    exact OutSlot.legal_empty _
  rw [OutSlot.itemsLeft_of_not_freed hfreed]
  cases hs : sl.state with
  | empty =>
    rw [h.of_empty hs]
    simp [OutSlot.legal, OutSlot.empty]
  | loading =>
    rw [h.of_loading hs]
    simp [OutSlot.legal, OutSlot.empty]
  | ready =>
    obtain ⟨hkey, hflight, hnumbers⟩ := h.of_ready hs
    exact ⟨hkey, by simp [hflight], hnumbers⟩
  | active => exact h.of_active hs
  | draining =>
    obtain ⟨hkey, hflight, hnumbers⟩ := h.of_draining hs
    refine ⟨hkey, ?_, hnumbers⟩
    have : ¬ (0 < n ∧ sl.inFlight ≤ n) := fun hn => hfreed ⟨hs, hn⟩
    show 0 < sl.inFlight - n
    omega

end LegalSlot

/-! ### Outbound streams -/

/-- What a change of a slot must keep for its stream to stay legal: legality, whether it is ACTIVE, and that it does not
become READY or come into use. -/
structure OutSlot.Keeps (sl sl' : OutSlot) : Prop where
  legal : sl.legal → sl'.legal
  active : sl'.state = .active ↔ sl.state = .active
  ready : sl'.state = .ready → sl.state = .ready
  empty : sl.state = .empty → sl'.state = .empty
  loading : sl.state = .loading → sl'.state = .loading

theorem OutSlot.Keeps.refl (sl : OutSlot) : sl.Keeps sl := ⟨id, .rfl, id, id, id⟩

theorem OutSlot.Keeps.of_state {sl sl' : OutSlot} (h : sl.legal → sl'.legal) (hs : sl'.state = sl.state) :
    sl.Keeps sl' := by
  refine ⟨h, ?_, ?_, ?_, ?_⟩ <;> rw [hs] <;> exact id

/-- Items that leave a slot (R11, R14). -/
theorem OutSlot.keeps_itemsLeft (n : Nat) (sl : OutSlot) : sl.Keeps (sl.itemsLeft n) := by
  by_cases hfreed : sl.freedBy n
  · obtain ⟨hs, -⟩ := id hfreed
    rw [OutSlot.itemsLeft_of_freed hfreed]
    refine ⟨fun _ => OutSlot.legal_empty _, ?_, ?_, ?_, ?_⟩ <;> simp [OutSlot.empty, hs]
  · exact .of_state (fun h => h.itemsLeft n) (by rw [OutSlot.itemsLeft_of_not_freed hfreed])

/-- A READY slot that leaves service (R13). -/
theorem OutSlot.keeps_left_of_ready {sl : OutSlot} (hs : sl.state = .ready) : sl.Keeps sl.left := by
  refine ⟨fun h => h.left_of_ready hs, ?_, ?_, ?_, ?_⟩ <;> rcases sl.state_left with h | h <;> simp [hs, h]

section LegalStream

variable {st : OutStream} (h : st.legal) {st' : OutStream}
include h

theorem OutStream.legal.slot (k : SlotNo) : (st.slots.get k).legal := h.1 k

theorem OutStream.legal.active_iff (k : SlotNo) : (st.slots.get k).state = .active ↔ st.state = .active k := h.2.1 k

/-- Changes of the slots that each slot's rules allow; a pending switch may be dropped. -/
theorem OutStream.legal.of_slots (hstate : st'.state = st.state)
    (hpending : ∀ k, st'.pendingSwitch = some k → st.pendingSwitch = some k)
    (hslots : ∀ k, (st.slots.get k).Keeps (st'.slots.get k)) : st'.legal := by
  obtain ⟨hlegal, hactive, hready, hunused, hswitch⟩ := h
  refine ⟨fun k => (hslots k).legal (hlegal k), fun k => ?_, fun k hk => ?_, fun hu k => ?_, fun k hk => ?_⟩
  · rw [hstate, (hslots k).active, hactive]
  · rw [hstate]; exact hready k ((hslots k).ready hk)
  · rw [hstate] at hu; exact (hslots k).empty (hunused hu k)
  · obtain ⟨a, ha, hother, hloading⟩ := hswitch k (hpending k hk)
    exact ⟨a, hstate.trans ha, hother, (hslots k).loading hloading⟩

/-- The ACTIVE slot has left service and the READY other slot is ACTIVE (R46). -/
theorem OutStream.legal.switches {a : SlotNo} (hready : (st.slots.get (otherSlot a)).state = .ready)
    (hstate : st'.state = .active (otherSlot a)) (hpending : st'.pendingSwitch = none)
    (hleft : (st'.slots.get a).legal)
    (hgone : (st'.slots.get a).state = .empty ∨ (st'.slots.get a).state = .draining)
    (hother : st'.slots.get (otherSlot a) = { st.slots.get (otherSlot a) with state := .active }) : st'.legal := by
  refine ⟨(forall_slot_iff a).2 ⟨hleft, ?_⟩, (forall_slot_iff a).2 ⟨?_, ?_⟩, fun k _ => ⟨_, hstate⟩, ?_, ?_⟩
  · rw [hother]; exact (h.slot _).activated hready
  · rcases hgone with hgone | hgone <;> simp [hgone, hstate]
  · simp [hother, hstate]
  · rw [hstate]; nofun
  · rw [hpending]; nofun

/-- The ACTIVE slot has left service and no other slot is READY (R44). -/
theorem OutStream.legal.stalls {a : SlotNo} (ha : st.state = .active a)
    (hnot : (st.slots.get (otherSlot a)).state ≠ .ready)
    (hstate : st'.state = .stalled) (hpending : st'.pendingSwitch = none) (hleft : (st'.slots.get a).legal)
    (hgone : (st'.slots.get a).state = .empty ∨ (st'.slots.get a).state = .draining)
    (hother : st'.slots.get (otherSlot a) = st.slots.get (otherSlot a)) : st'.legal := by
  have hinactive : (st.slots.get (otherSlot a)).state ≠ .active := by
    rw [Ne, h.active_iff, ha]
    exact fun e => ne_otherSlot a (OutState.active.inj e)
  refine ⟨(forall_slot_iff a).2 ⟨hleft, hother ▸ h.slot _⟩, (forall_slot_iff a).2 ⟨?_, ?_⟩,
    (forall_slot_iff a).2 ⟨?_, ?_⟩, ?_, ?_⟩
  · rcases hgone with hgone | hgone <;> simp [hgone, hstate]
  · simp [hother, hstate, hinactive]
  · rcases hgone with hgone | hgone <;> simp [hgone]
  · rw [hother]; exact fun hr => absurd hr hnot
  · rw [hstate]; nofun
  · rw [hpending]; nofun

/-- The ACTIVE slot of a stream is in state ACTIVE. -/
theorem OutStream.legal.active_slot {a : SlotNo} (ha : st.state = .active a) : (st.slots.get a).state = .active :=
  (h.active_iff a).2 ha

theorem OutStream.legal.switched {a : SlotNo} (ha : st.state = .active a)
    (hready : (st.slots.get (otherSlot a)).state = .ready) : (st.switched a).legal :=
  h.switches hready rfl rfl
    (by rw [OutStream.switched_slot_left]; exact (h.slot a).left_of_active (h.active_slot ha))
    (by rw [OutStream.switched_slot_left]; exact OutSlot.state_left _) (OutStream.switched_slot_other a st)

theorem OutStream.legal.leftActive {a : SlotNo} (ha : st.state = .active a) : (st.leftActive a).legal := by
  unfold OutStream.leftActive
  split
  next hready => exact h.switched ha hready
  next hnot =>
    have hslot : (st.stalledFrom a).slots.get a = (st.slots.get a).left := get_putAt_self _ a _
    exact h.stalls ha hnot rfl rfl (by rw [hslot]; exact (h.slot a).left_of_active (h.active_slot ha))
      (by rw [hslot]; exact OutSlot.state_left _) (get_putAt_ne _ _ (otherSlot_ne a))

end LegalStream

/-- A change of an outbound stream after which it is legal, with its LOADING slots and its in-flight counts as before. -/
structure OutStream.Keeps (st st' : OutStream) : Prop where
  legal : st'.legal
  inFlight : ∀ k, (st'.slots.get k).inFlight = (st.slots.get k).inFlight
  loading : ∀ k, (st.slots.get k).state = .loading → (st'.slots.get k).state = .loading

section KeepsStream

variable {st : OutStream} (h : st.legal)
include h

theorem OutStream.legal.keeps_of_slots {st' : OutStream} (hstate : st'.state = st.state)
    (hpending : ∀ k, st'.pendingSwitch = some k → st.pendingSwitch = some k)
    (hslots : ∀ k, (st.slots.get k).Keeps (st'.slots.get k) ∧
      (st'.slots.get k).inFlight = (st.slots.get k).inFlight) : st.Keeps st' where
  legal := h.of_slots hstate hpending fun k => (hslots k).1
  inFlight k := (hslots k).2
  loading k := (hslots k).1.loading

/-- One slot rewritten within its rules. -/
theorem OutStream.legal.keeps_slot {k : SlotNo} {sl : OutSlot} (hsl : (st.slots.get k).Keeps sl)
    (hflight : sl.inFlight = (st.slots.get k).inFlight) : st.Keeps { st with slots := putAt st.slots k sl } := by
  refine h.keeps_of_slots rfl (fun _ => id) fun m => ?_
  rw [get_putAt]
  split
  next hm => subst hm; exact ⟨hsl, hflight⟩
  next => exact ⟨.refl _, rfl⟩

/-- The ACTIVE slot leaves service and the READY other slot becomes ACTIVE (R46). -/
theorem OutStream.legal.keeps_switched {a : SlotNo} (ha : st.state = .active a)
    (hready : (st.slots.get (otherSlot a)).state = .ready) : st.Keeps (st.switched a) where
  legal := h.switched ha hready
  inFlight := by
    rw [forall_slot_iff a, OutStream.switched_slot_left, OutStream.switched_slot_other]
    exact ⟨OutSlot.inFlight_left _, rfl⟩
  loading := by
    rw [forall_slot_iff a, h.active_slot ha, hready]
    exact ⟨nofun, nofun⟩

/-- The ACTIVE slot leaves service (R44). -/
theorem OutStream.legal.keeps_leftActive {a : SlotNo} (ha : st.state = .active a) : st.Keeps (st.leftActive a) := by
  by_cases hready : (st.slots.get (otherSlot a)).state = .ready
  · rw [OutStream.leftActive, if_pos hready]
    exact h.keeps_switched ha hready
  have hlegal := h.leftActive ha
  rw [OutStream.leftActive, if_neg hready] at hlegal ⊢
  have hslot : (st.stalledFrom a).slots.get a = (st.slots.get a).left := get_putAt_self _ a _
  have hother : (st.stalledFrom a).slots.get (otherSlot a) = st.slots.get (otherSlot a) :=
    get_putAt_ne _ _ (otherSlot_ne a)
  refine ⟨hlegal, (forall_slot_iff a).2 ⟨?_, by rw [hother]⟩, (forall_slot_iff a).2 ⟨?_, by rw [hother]; exact id⟩⟩
  · rw [hslot]; exact OutSlot.inFlight_left _
  · rw [h.active_slot ha]; nofun

end KeepsStream

/-! ### Inbound slots -/

theorem InSlot.legal_empty (r : LoadResult) (w g : Nat) : (InSlot.empty r).legal w g := rfl

theorem InSlot.inFlight_left (sl : InSlot) : sl.left.inFlight = sl.inFlight := by
  unfold InSlot.left
  split
  next h => exact h.symm
  next => rfl

theorem InSlot.inFlight_itemsLeft (n : Nat) (sl : InSlot) : (sl.itemsLeft n).inFlight = sl.inFlight - n := by
  unfold InSlot.itemsLeft
  split
  next h => exact (Nat.sub_eq_zero_of_le h.2.2).symm
  next => rfl

/-- A slot that has left service is EMPTY or DRAINING. -/
theorem InSlot.state_left (sl : InSlot) : sl.left.state = .empty ∨ sl.left.state = .draining := by
  unfold InSlot.left
  split
  · exact .inl rfl
  · exact .inr rfl

/-- A slot with a key and its window in order leaves service legally. -/
theorem InSlot.legal_left {sl : InSlot} {w : Nat} (hkey : sl.secret ≠ none) (hwindow : sl.windowed w) (g : Nat) :
    sl.left.legal w g := by
  unfold InSlot.left
  split
  · exact InSlot.legal_empty _ w g
  next h => exact ⟨hkey, hwindow, rfl, Nat.pos_of_ne_zero h⟩

section LegalInSlot

variable {sl : InSlot} {w g : Nat} (h : sl.legal w g)
include h

theorem InSlot.legal.of_empty (hs : sl.state = .empty) : sl = InSlot.empty sl.lastLoad := by
  simpa only [InSlot.legal, hs] using h

theorem InSlot.legal.of_loading (hs : sl.state = .loading) :
    sl = { InSlot.empty .none with state := .loading } := by
  simpa only [InSlot.legal, hs] using h

theorem InSlot.legal.of_ready (hs : sl.state = .ready) :
    sl.secret ≠ none ∧ sl.windowed w ∧ sl.grace = 0 ∧ sl.highest = sl.lower - 1 ∧ sl.bitmap = 0 := by
  simpa only [InSlot.legal, hs] using h

theorem InSlot.legal.of_active (hs : sl.state = .active) : sl.secret ≠ none ∧ sl.windowed w ∧ sl.grace = 0 := by
  simpa only [InSlot.legal, hs] using h

theorem InSlot.legal.of_grace (hs : sl.state = .grace) :
    sl.secret ≠ none ∧ sl.windowed w ∧ 1 ≤ sl.grace ∧ sl.grace ≤ g := by
  simpa only [InSlot.legal, hs] using h

theorem InSlot.legal.of_draining (hs : sl.state = .draining) :
    sl.secret ≠ none ∧ sl.windowed w ∧ sl.grace = 0 ∧ 0 < sl.inFlight := by
  simpa only [InSlot.legal, hs] using h

/-- From READY on a slot holds a key and a window. -/
theorem InSlot.legal.loaded (hempty : sl.state ≠ .empty) (hloading : sl.state ≠ .loading) :
    sl.secret ≠ none ∧ sl.windowed w := by
  cases hs : sl.state with
  | empty => exact absurd hs hempty
  | loading => exact absurd hs hloading
  | ready => exact ⟨(h.of_ready hs).1, (h.of_ready hs).2.1⟩
  | active => exact ⟨(h.of_active hs).1, (h.of_active hs).2.1⟩
  | grace => exact ⟨(h.of_grace hs).1, (h.of_grace hs).2.1⟩
  | draining => exact ⟨(h.of_draining hs).1, (h.of_draining hs).2.1⟩

/-- A usable slot leaves service legally. -/
theorem InSlot.legal.left_of_usable (hs : sl.state.usable = true) : sl.left.legal w g := by
  have ⟨hkey, hwindow⟩ := h.loaded (by rintro he; simp [he, InSlotState.usable] at hs)
    (by rintro he; simp [he, InSlotState.usable] at hs)
  exact InSlot.legal_left hkey hwindow g

/-- A slot keeps its rules as items leave it: DRAINING ends with the last (R11, R14). -/
theorem InSlot.legal.itemsLeft (n : Nat) : (sl.itemsLeft n).legal w g := by
  by_cases hfreed : sl.freedBy n
  · rw [InSlot.itemsLeft_of_freed hfreed]
    exact InSlot.legal_empty _ w g
  rw [InSlot.itemsLeft_of_not_freed hfreed]
  cases hs : sl.state with
  | empty =>
    rw [h.of_empty hs]
    simp [InSlot.legal, InSlot.empty]
  | loading =>
    rw [h.of_loading hs]
    simp [InSlot.legal, InSlot.empty]
  | ready => exact h.of_ready hs
  | active => exact h.of_active hs
  | grace => exact h.of_grace hs
  | draining =>
    obtain ⟨hkey, hwindow, hgrace, hflight⟩ := h.of_draining hs
    refine ⟨hkey, hwindow, hgrace, ?_⟩
    have : ¬ (0 < n ∧ sl.inFlight ≤ n) := fun hn => hfreed ⟨hs, hn⟩
    show 0 < sl.inFlight - n
    omega

/-- The last load result of a usable slot is no part of its rules. -/
theorem InSlot.legal.withLastLoad (hs : sl.state.usable = true) (r : LoadResult) :
    ({ sl with lastLoad := r } : InSlot).legal w g := by
  cases hstate : sl.state with
  | empty => simp [hstate, InSlotState.usable] at hs
  | loading => simp [hstate, InSlotState.usable] at hs
  | draining => simp [hstate, InSlotState.usable] at hs
  | ready => exact h.of_ready hstate
  | active => exact h.of_active hstate
  | grace => exact h.of_grace hstate

/-- Neither is the number of items in flight of a usable slot. -/
theorem InSlot.legal.withInFlight (hs : sl.state.usable = true) (n : Nat) :
    ({ sl with inFlight := n } : InSlot).legal w g := by
  cases hstate : sl.state with
  | empty => simp [hstate, InSlotState.usable] at hs
  | loading => simp [hstate, InSlotState.usable] at hs
  | draining => simp [hstate, InSlotState.usable] at hs
  | ready => exact h.of_ready hstate
  | active => exact h.of_active hstate
  | grace => exact h.of_grace hstate

/-- The grace timer of a slot counts down, and ends its service (R122). -/
theorem InSlot.legal.graceTicked : sl.graceTicked.legal w g := by
  unfold InSlot.graceTicked
  split
  next hs =>
    split
    · exact h.left_of_usable (by rw [hs]; rfl)
    next hgoes =>
      obtain ⟨hkey, hwindow, hone, hmost⟩ := h.of_grace hs
      simp only [InSlot.legal, hs]
      exact ⟨hkey, hwindow, by omega, by omega⟩
  next => exact h

end LegalInSlot

/-! ### Inbound streams -/

/-- What a change of an inbound slot must keep for its stream to stay legal, under a window and a grace: legality, that it
does not become ACTIVE or come into use, and LOADING. -/
structure InSlot.Keeps (w g : Nat) (sl sl' : InSlot) : Prop where
  legal : sl.legal w g → sl'.legal w g
  active : sl'.state = .active → sl.state = .active
  empty : sl.state = .empty → sl'.state = .empty
  loading : sl.state = .loading → sl'.state = .loading

theorem InSlot.Keeps.refl (w g : Nat) (sl : InSlot) : sl.Keeps w g sl := ⟨id, id, id, id⟩

theorem InSlot.Keeps.of_state {w g : Nat} {sl sl' : InSlot} (h : sl.legal w g → sl'.legal w g)
    (hs : sl'.state = sl.state) : sl.Keeps w g sl' := by
  refine ⟨h, ?_, ?_, ?_⟩ <;> rw [hs] <;> exact id

/-- Items that leave an inbound slot (R11, R14). -/
theorem InSlot.keeps_itemsLeft (w g n : Nat) (sl : InSlot) : sl.Keeps w g (sl.itemsLeft n) := by
  by_cases hfreed : sl.freedBy n
  · obtain ⟨hs, -⟩ := id hfreed
    rw [InSlot.itemsLeft_of_freed hfreed]
    refine ⟨fun _ => InSlot.legal_empty _ w g, ?_, ?_, ?_⟩ <;> simp [InSlot.empty, hs]
  · exact .of_state (fun h => h.itemsLeft n) (by rw [InSlot.itemsLeft_of_not_freed hfreed])

/-- A usable slot that leaves service (R13). -/
theorem InSlot.keeps_left_of_usable {w g : Nat} {sl : InSlot} (hs : sl.state.usable = true) :
    sl.Keeps w g sl.left := by
  refine ⟨fun h => h.left_of_usable hs, ?_, ?_, ?_⟩
  · rcases sl.state_left with h | h <;> simp [h]
  · intro he; simp [he, InSlotState.usable] at hs
  · intro he; simp [he, InSlotState.usable] at hs

theorem InSlot.keeps_graceTicked (w g : Nat) (sl : InSlot) : sl.Keeps w g sl.graceTicked := by
  by_cases hs : sl.state = .grace
  · refine ⟨fun h => h.graceTicked, ?_, ?_, ?_⟩
    · unfold InSlot.graceTicked
      rw [if_pos hs]
      split
      · rcases sl.state_left with h | h <;> simp [h]
      · simp [hs]
    · simp [hs]
    · simp [hs]
  · rw [InSlot.graceTicked, if_neg hs]
    exact .refl w g sl

section LegalInStream

variable {st : InStream} (h : st.legal) {st' : InStream}
include h

theorem InStream.legal.slot (k : SlotNo) : (st.slots.get k).legal st.window st.grace := h.2.2.1 k

/-- Changes of the slots that each slot's rules allow, under the same settings. -/
theorem InStream.legal.of_slots (hopen : st'.isOpen = st.isOpen) (hw : st'.window = st.window)
    (hg : st'.grace = st.grace) (hslots : ∀ k, (st.slots.get k).Keeps st.window st.grace (st'.slots.get k)) :
    st'.legal := by
  obtain ⟨hwindow, hgrace, hlegal, hactive, hunused⟩ := h
  refine ⟨hw ▸ hwindow, hg ▸ hgrace, fun k => ?_, fun k hk => ?_, fun hu k => ?_⟩
  · rw [hw, hg]; exact (hslots k).legal (hlegal k)
  · exact fun hother => hactive k ((hslots k).active hk) ((hslots _).active hother)
  · rw [hopen] at hu; exact (hslots k).empty (hunused hu k)

end LegalInStream

/-- A change of an inbound stream after which it is legal, with its LOADING slots and its in-flight counts as before. -/
structure InStream.Keeps (st st' : InStream) : Prop where
  legal : st'.legal
  inFlight : ∀ k, (st'.slots.get k).inFlight = (st.slots.get k).inFlight
  loading : ∀ k, (st.slots.get k).state = .loading → (st'.slots.get k).state = .loading

section KeepsInStream

variable {st : InStream} (h : st.legal)
include h

theorem InStream.legal.keeps_of_slots {st' : InStream} (hopen : st'.isOpen = st.isOpen)
    (hw : st'.window = st.window) (hg : st'.grace = st.grace)
    (hslots : ∀ k, (st.slots.get k).Keeps st.window st.grace (st'.slots.get k) ∧
      (st'.slots.get k).inFlight = (st.slots.get k).inFlight) : st.Keeps st' where
  legal := h.of_slots hopen hw hg fun k => (hslots k).1
  inFlight k := (hslots k).2
  loading k := (hslots k).1.loading

/-- One slot rewritten within its rules. -/
theorem InStream.legal.keeps_slot {k : SlotNo} {sl : InSlot} (hsl : (st.slots.get k).Keeps st.window st.grace sl)
    (hflight : sl.inFlight = (st.slots.get k).inFlight) : st.Keeps { st with slots := putAt st.slots k sl } := by
  refine h.keeps_of_slots rfl rfl rfl fun m => ?_
  rw [show ({ st with slots := putAt st.slots k sl } : InStream).slots = putAt st.slots k sl from rfl, get_putAt]
  split
  next hm => subst hm; exact ⟨hsl, hflight⟩
  next => exact ⟨.refl _ _ _, rfl⟩

end KeepsInStream

end Sys2Proof.Machine
end

section
/-! SUPPORT. The rules of streams, slots and jobs with the in-flight counts: what a change of a stream, of a list and of
the load queue must keep of them. -/

namespace Sys2Proof.Machine

/-! ### The items of the lists that reference a slot (R11) -/

/-- The items of both reorder lists of a link. -/
def Link.items (k : Link) : List Item := k.outList ++ k.inList

theorem referencing_append (xs ys : List Item) (d : Dir) (i : StreamNo) (k : SlotNo) :
    referencing (xs ++ ys) d i k = referencing xs d i k + referencing ys d i k := by
  simp [referencing]

theorem referencing_nil (d : Dir) (i : StreamNo) (k : SlotNo) : referencing [] d i k = 0 := rfl

/-- A sum over the entries of a table. -/
theorem sum_map_toList {α : Type} {n : Nat} (v : Vector α n) (g : α → Nat) :
    (v.toList.map g).sum = ∑ l : Fin n, g (v.get l) := by
  have hlist : v.toList = List.ofFn v.get := by
    apply List.ext_getElem <;> simp [Vector.get_eq_getElem]
  rw [hlist, List.map_ofFn, List.sum_ofFn]
  rfl

theorem references_eq_sum (s : State) (d : Dir) (i : StreamNo) (k : SlotNo) :
    s.references d i k = ∑ l, referencing (s.link l).items d i k :=
  sum_map_toList s.links _

/-- Rewriting one link changes the references by what that link's lists hold. -/
theorem references_modLink (l : LinkNo) (f : Link → Link) (s : State) (d : Dir) (i : StreamNo) (k : SlotNo) :
    (s.modLink l f).references d i k + referencing (s.link l).items d i k =
      s.references d i k + referencing (f (s.link l)).items d i k := by
  have hrest : ∑ m ∈ Finset.univ.erase l, referencing ((s.modLink l f).link m).items d i k =
      ∑ m ∈ Finset.univ.erase l, referencing (s.link m).items d i k :=
    Finset.sum_congr rfl fun m hm => by rw [link_modLink, if_neg (Finset.ne_of_mem_erase hm)]
  rw [references_eq_sum, references_eq_sum, ← Finset.sum_erase_add _ _ (Finset.mem_univ l), hrest, link_modLink_self,
    ← Finset.sum_erase_add (a := l) _ _ (Finset.mem_univ l)]
  omega

theorem references_congr {s t : State} (h : ∀ l d i k, referencing (t.link l).items d i k =
    referencing (s.link l).items d i k) (d : Dir) (i : StreamNo) (k : SlotNo) :
    t.references d i k = s.references d i k := by
  rw [references_eq_sum, references_eq_sum]
  exact Finset.sum_congr rfl fun l _ => h l d i k

/-! ### The invariant -/

/-- The rules of streams, slots and jobs, with in-flight counts that hold beside the items of the lists those of `gone`,
which have left their lists and have yet to leave their slots. -/
def State.slotsCounted (gone : List Item) (s : State) : Prop :=
  s.slotsLegal ∧ (∀ i k, (s.outSlot i k).inFlight = s.references .out i k + referencing gone .out i k) ∧
    ∀ i k, (s.inSlot i k).inFlight = s.references .inn i k + referencing gone .inn i k

theorem State.slotsCounted_nil_iff (s : State) : s.slotsCounted [] ↔ s.slotsLegal ∧ s.countsInFlight := by
  simp only [State.slotsCounted, State.countsInFlight, referencing_nil, Nat.add_zero]

/-- The streams may change while each stays legal and each LOADING slot stays LOADING. -/
theorem State.slotsLegal.of_streams {s t : State} (hs : s.slotsLegal)
    (hout : ∀ i, (s.outStream i).legal → (t.outStream i).legal)
    (hin : ∀ i, (s.inStream i).legal → (t.inStream i).legal)
    (houtLoading : ∀ i k, (s.outSlot i k).state = .loading → (t.outSlot i k).state = .loading)
    (hinLoading : ∀ i k, (s.inSlot i k).state = .loading → (t.inSlot i k).state = .loading)
    (hjobs : t.keyUnit.jobs = s.keyUnit.jobs) : t.slotsLegal := by
  obtain ⟨houts, hins, hlen, hjob, hnodup⟩ := hs
  refine ⟨fun i => hout i (houts i), fun i => hin i (hins i), hjobs ▸ hlen, fun j hj => ?_, hjobs ▸ hnodup⟩
  rw [hjobs] at hj
  have hlegal := hjob j hj
  unfold Job.legal at hlegal ⊢
  cases hrange : j.range <;> simp only [hrange] at hlegal ⊢
  · exact ⟨houtLoading _ _ hlegal.1, hlegal.2⟩
  · exact ⟨hinLoading _ _ hlegal.1, hlegal.2⟩

theorem State.slotsCounted.ite {gone : List Item} {c : Prop} [Decidable c] {t u : State}
    (ht : c → t.slotsCounted gone) (hu : ¬ c → u.slotsCounted gone) : (if c then t else u).slotsCounted gone := by
  split
  next h => exact ht h
  next h => exact hu h

theorem State.slotsCounted.foldl {gone : List Item} {α : Type} {f : State → α → State}
    (hf : ∀ (s : State) (a : α), s.slotsCounted gone → (f s a).slotsCounted gone) (xs : List α) {s : State}
    (hs : s.slotsCounted gone) : (xs.foldl f s).slotsCounted gone := by
  induction xs generalizing s with
  | nil => exact hs
  | cons x xs ih => exact ih (hf s x hs)

section States

variable {gone : List Item} {s : State} (hs : s.slotsCounted gone)
include hs

theorem State.slotsCounted.outStream (i : StreamNo) : (s.outStream i).legal := hs.1.1 i

theorem State.slotsCounted.inStream (i : StreamNo) : (s.inStream i).legal := hs.1.2.1 i

/-- A change that touches neither streams nor links nor the load queue. -/
theorem State.slotsCounted.of_same {t : State} (houts : t.outs = s.outs) (hins : t.ins = s.ins)
    (hlinks : t.links = s.links) (hjobs : t.keyUnit.jobs = s.keyUnit.jobs) : t.slotsCounted gone := by
  obtain ⟨hlegal, hout, hin⟩ := hs
  have houtSlot : t.outSlot = s.outSlot := by funext i k; simp only [State.outSlot, State.outStream, houts]
  have hinSlot : t.inSlot = s.inSlot := by funext i k; simp only [State.inSlot, State.inStream, hins]
  have hrefs : t.references = s.references := by funext d i k; simp only [State.references, hlinks]
  refine ⟨hlegal.of_streams (fun i => ?_) (fun i => ?_) ?_ ?_ hjobs, ?_, ?_⟩
  · simp only [State.outStream, houts]; exact id
  · simp only [State.inStream, hins]; exact id
  · rw [houtSlot]; exact fun _ _ => id
  · rw [hinSlot]; exact fun _ _ => id
  · rw [houtSlot, hrefs]; exact hout
  · rw [hinSlot, hrefs]; exact hin

theorem State.slotsCounted.raised (k : NoticeKind) (m : NoticeMember) : (raise k m s).slotsCounted gone :=
  hs.of_same rfl rfl rfl rfl

/-- A change of the outbound streams. -/
theorem State.slotsCounted.of_outs {t : State} (ht : ∃ o n, t = { s with outs := o, notices := n })
    (hkeeps : ∀ i, (s.outStream i).legal → (s.outStream i).Keeps (t.outStream i)) : t.slotsCounted gone := by
  obtain ⟨hlegal, hout, hin⟩ := id hs
  have hstream := fun i => hkeeps i (hs.outStream i)
  obtain ⟨o, n, rfl⟩ := ht
  exact ⟨hlegal.of_streams (fun i _ => (hstream i).legal) (fun _ => id) (fun i => (hstream i).loading)
    (fun _ _ => id) rfl,
    fun i k => ((hstream i).inFlight k).trans (hout i k), hin⟩

/-- A change of one outbound stream. -/
theorem State.slotsCounted.of_outStream {t : State} {i : StreamNo} {st : OutStream}
    (ht : ∃ o n, t = { s with outs := o, notices := n })
    (hstream : ∀ j, t.outStream j = if j = i then st else s.outStream j)
    (hkeeps : (s.outStream i).legal → (s.outStream i).Keeps st) : t.slotsCounted gone := by
  refine hs.of_outs ht fun j hj => ?_
  rw [hstream]
  split
  next h => subst h; exact hkeeps hj
  next => exact ⟨hj, fun _ => rfl, fun _ => id⟩

theorem State.slotsCounted.modOut {i : StreamNo} {f : OutStream → OutStream}
    (hkeeps : (s.outStream i).legal → (s.outStream i).Keeps (f (s.outStream i))) : (s.modOut i f).slotsCounted gone :=
  hs.of_outStream ⟨_, s.notices, rfl⟩ (fun j => outStream_modOut i j f s) hkeeps

theorem State.slotsCounted.modOutSlot {i : StreamNo} {k : SlotNo} {f : OutSlot → OutSlot}
    (hkeeps : (s.outSlot i k).Keeps (f (s.outSlot i k)))
    (hflight : (f (s.outSlot i k)).inFlight = (s.outSlot i k).inFlight) : (s.modOutSlot i k f).slotsCounted gone :=
  hs.modOut fun h => h.keeps_slot hkeeps hflight

/-- A change of an outbound stream beside its state, its slots and its pending switch. -/
theorem State.slotsCounted.modOut_beside {i : StreamNo} {f : OutStream → OutStream}
    (hstate : (f (s.outStream i)).state = (s.outStream i).state)
    (hpending : ∀ k, (f (s.outStream i)).pendingSwitch = some k → (s.outStream i).pendingSwitch = some k)
    (hslots : (f (s.outStream i)).slots = (s.outStream i).slots) : (s.modOut i f).slotsCounted gone :=
  hs.modOut fun h => h.keeps_of_slots hstate hpending fun k => by rw [hslots]; exact ⟨.refl _, rfl⟩

/-- A change of the inbound streams. -/
theorem State.slotsCounted.of_ins {t : State} (ht : ∃ o n, t = { s with ins := o, notices := n })
    (hkeeps : ∀ i, (s.inStream i).legal → (s.inStream i).Keeps (t.inStream i)) : t.slotsCounted gone := by
  obtain ⟨hlegal, hout, hin⟩ := id hs
  have hstream := fun i => hkeeps i (hs.inStream i)
  obtain ⟨o, n, rfl⟩ := ht
  exact ⟨hlegal.of_streams (fun _ => id) (fun i _ => (hstream i).legal) (fun _ _ => id)
    (fun i => (hstream i).loading) rfl,
    hout, fun i k => ((hstream i).inFlight k).trans (hin i k)⟩

/-- A change of one inbound stream. -/
theorem State.slotsCounted.of_inStream {t : State} {i : StreamNo} {st : InStream}
    (ht : ∃ o n, t = { s with ins := o, notices := n })
    (hstream : ∀ j, t.inStream j = if j = i then st else s.inStream j)
    (hkeeps : (s.inStream i).legal → (s.inStream i).Keeps st) : t.slotsCounted gone := by
  refine hs.of_ins ht fun j hj => ?_
  rw [hstream]
  split
  next h => subst h; exact hkeeps hj
  next => exact ⟨hj, fun _ => rfl, fun _ => id⟩

theorem State.slotsCounted.modIn {i : StreamNo} {f : InStream → InStream}
    (hkeeps : (s.inStream i).legal → (s.inStream i).Keeps (f (s.inStream i))) : (s.modIn i f).slotsCounted gone :=
  hs.of_inStream ⟨_, s.notices, rfl⟩ (fun j => inStream_modIn i j f s) hkeeps

theorem State.slotsCounted.modInSlot {i : StreamNo} {k : SlotNo} {f : InSlot → InSlot}
    (hkeeps : (s.inSlot i k).Keeps (s.inStream i).window (s.inStream i).grace (f (s.inSlot i k)))
    (hflight : (f (s.inSlot i k)).inFlight = (s.inSlot i k).inFlight) : (s.modInSlot i k f).slotsCounted gone :=
  hs.modIn fun h => h.keeps_slot hkeeps hflight

/-- A change of an inbound stream beside its settings and its slots. -/
theorem State.slotsCounted.modIn_beside {i : StreamNo} {f : InStream → InStream}
    (hopen : (f (s.inStream i)).isOpen = (s.inStream i).isOpen)
    (hw : (f (s.inStream i)).window = (s.inStream i).window) (hg : (f (s.inStream i)).grace = (s.inStream i).grace)
    (hslots : (f (s.inStream i)).slots = (s.inStream i).slots) : (s.modIn i f).slotsCounted gone :=
  hs.modIn fun h => h.keeps_of_slots hopen hw hg fun k => by rw [hslots]; exact ⟨.refl _ _ _, rfl⟩

/-- A change of the links that leaves the references in every list as they are. -/
theorem State.slotsCounted.of_links {t : State} (houts : t.outs = s.outs) (hins : t.ins = s.ins)
    (hjobs : t.keyUnit.jobs = s.keyUnit.jobs)
    (hitems : ∀ l d i k, referencing (t.link l).items d i k = referencing (s.link l).items d i k) :
    t.slotsCounted gone := by
  have hkept : State.slotsCounted gone { t with links := s.links } := hs.of_same houts hins rfl hjobs
  obtain ⟨hlegal, hout, hin⟩ := hkept
  have hrefs := references_congr (s := { t with links := s.links }) (t := t) hitems
  exact ⟨hlegal, fun i k => by rw [hrefs]; exact hout i k, fun i k => by rw [hrefs]; exact hin i k⟩

theorem State.slotsCounted.modLink {l : LinkNo} {f : Link → Link}
    (hitems : ∀ d i k, referencing (f (s.link l)).items d i k = referencing (s.link l).items d i k) :
    (s.modLink l f).slotsCounted gone := by
  refine hs.of_links rfl rfl rfl fun m => ?_
  rw [link_modLink]
  split
  next h => subst h; exact hitems
  next => exact fun _ _ _ => rfl

/-- A change of a link beside its lists. -/
theorem State.slotsCounted.modLink_beside {l : LinkNo} {f : Link → Link}
    (hout : (f (s.link l)).outList = (s.link l).outList)
    (hin : (f (s.link l)).inList = (s.link l).inList) : (s.modLink l f).slotsCounted gone :=
  hs.modLink fun _ _ _ => by rw [Link.items, hout, hin, Link.items]

theorem State.slotsCounted.mapLinks {f : Link → Link} (hf : ∀ k : Link, (f k).items = k.items) :
    State.slotsCounted gone { s with links := mapTable f s.links } := by
  refine hs.of_links rfl rfl rfl fun l _ _ _ => ?_
  simp only [State.link, get_mapTable, hf]

/-- An item that leaves its list. -/
theorem State.slotsCounted.modLink_dropped {l : LinkNo} {f : Link → Link} {it : Item}
    (hitems : ∀ d i k, referencing (s.link l).items d i k =
      referencing [it] d i k + referencing (f (s.link l)).items d i k) :
    (s.modLink l f).slotsCounted (it :: gone) := by
  obtain ⟨hlegal, hout, hin⟩ := hs
  refine ⟨hlegal, fun i k => ?_, fun i k => ?_⟩
  · rw [referencing_cons]
    have hrefs := references_modLink l f s .out i k
    have hcount := hout i k
    have hitem := hitems .out i k
    show (s.outSlot i k).inFlight = _
    omega
  · rw [referencing_cons]
    have hrefs := references_modLink l f s .inn i k
    have hcount := hin i k
    have hitem := hitems .inn i k
    show (s.inSlot i k).inFlight = _
    omega

end States

end Sys2Proof.Machine
end

section
/-! SUPPORT. Slots that leave service, items that leave their slots, triggers and the time base keep the rules of streams,
slots and jobs and the in-flight counts. -/

namespace Sys2Proof.Machine

section Events

variable {gone : List Item} {s : State} (hs : s.slotsCounted gone)
include hs

/-! ### Slots that leave service and switches (R13, R44, R46, R49, R50) -/

theorem State.slotsCounted.after_leaveOutSlot {i : StreamNo} {k : SlotNo}
    (hready : (s.outSlot i k).state = .ready) : (leaveOutSlot i k s).slotsCounted gone := by
  refine hs.of_outStream (leaveOutSlot_touches i k s) (fun j => ?_) fun h =>
    h.keeps_slot (OutSlot.keeps_left_of_ready hready) (OutSlot.inFlight_left _)
  rw [leaveOutSlot_outStream, State.modOutSlot, outStream_modOut]

theorem State.slotsCounted.after_leaveInSlot {i : StreamNo} {k : SlotNo}
    (husable : (s.inSlot i k).state.usable = true) : (leaveInSlot i k s).slotsCounted gone := by
  refine hs.of_inStream (leaveInSlot_touches i k s) (fun j => ?_) fun h =>
    h.keeps_slot (InSlot.keeps_left_of_usable husable) (InSlot.inFlight_left _)
  rw [leaveInSlot_inStream, State.modInSlot, inStream_modIn]

theorem State.slotsCounted.after_switchStream {i : StreamNo} {a : SlotNo} (ha : (s.outStream i).state = .active a)
    (hready : (s.outSlot i (otherSlot a)).state = .ready) : (switchStream i a s).slotsCounted gone :=
  hs.of_outStream (switchStream_touches i a s) (fun j => switchStream_outStream i j a s) fun h =>
    h.keeps_switched ha hready

theorem State.slotsCounted.after_leaveActive {i : StreamNo} {a : SlotNo} (ha : (s.outStream i).state = .active a) :
    (leaveActive i a s).slotsCounted gone :=
  hs.of_outStream (leaveActive_touches i a s) (fun j => leaveActive_outStream i j a s) fun h => h.keeps_leftActive ha

/-- A switch to a LOADING other slot is pending (R47). -/
theorem State.slotsCounted.after_pend {i : StreamNo} {a : SlotNo} (ha : (s.outStream i).state = .active a)
    (hloading : (s.outSlot i (otherSlot a)).state = .loading) :
    (s.modOut i fun st => { st with pendingSwitch := some (otherSlot a) }).slotsCounted gone := by
  refine hs.modOut fun ⟨hlegal, hactive, hready, hunused, _⟩ => ⟨?_, fun _ => rfl, fun _ => id⟩
  refine ⟨hlegal, hactive, hready, hunused, fun k hk => ?_⟩
  cases hk
  exact ⟨a, ha, rfl, hloading⟩

theorem State.slotsCounted.after_requestSwitch {i : StreamNo} {a : SlotNo} (ha : (s.outStream i).state = .active a) :
    (requestSwitch i a s).slotsCounted gone := by
  unfold requestSwitch
  split
  next hready => exact hs.after_switchStream ha hready
  next hloading => exact hs.after_pend ha hloading
  next => exact hs

theorem State.slotsCounted.after_outStoreError {i : StreamNo} {a : SlotNo} (ha : (s.outStream i).state = .active a) :
    (outStoreError i a s).slotsCounted gone := by
  have hslot := (hs.outStream i).active_slot ha
  have hnoted : (s.modOutSlot i a fun sl => { sl with lastLoad := .storeError }).slotsCounted gone :=
    hs.modOutSlot (.of_state (fun h => h.beside_of_active hslot _ _ _) rfl) rfl
  refine (hnoted.after_leaveActive ?_).of_same rfl rfl rfl rfl
  rw [State.modOutSlot, outStream_modOut_self]
  exact ha

theorem State.slotsCounted.after_inStoreError {i : StreamNo} {k : SlotNo}
    (husable : (s.inSlot i k).state.usable = true) : (inStoreError i k s).slotsCounted gone := by
  have hnoted : (s.modInSlot i k fun sl => { sl with lastLoad := .storeError }).slotsCounted gone :=
    hs.modInSlot (.of_state (fun h => h.withLastLoad husable _) rfl) rfl
  refine (hnoted.after_leaveInSlot ?_).of_same rfl rfl rfl rfl
  rw [inSlot_modInSlot_self]
  exact husable

theorem State.slotsCounted.after_noteCorrection (read : KeyRead) : (noteCorrection read s).slotsCounted gone :=
  .ite (fun _ => hs.of_same rfl rfl rfl rfl) (fun _ => hs)

/-! ### Links that drain and start -/

theorem State.slotsCounted.after_enterOff (l : LinkNo) (c : StopCause) : (enterOff l c s).slotsCounted gone :=
  (hs.modLink_beside rfl rfl).raised _ _

theorem State.slotsCounted.after_drainCheck (l : LinkNo) : (drainCheck l s).slotsCounted gone :=
  .ite (fun _ => hs.after_enterOff l _) (fun _ => hs)

theorem State.slotsCounted.after_drainLink (l : LinkNo) (c : StopCause) : (drainLink l c s).slotsCounted gone :=
  .ite (fun _ => (hs.modLink_beside rfl rfl).after_drainCheck l) (fun _ => hs)

theorem State.slotsCounted.after_startLink (l : LinkNo) : (startLink l s).slotsCounted gone :=
  hs.modLink_beside rfl rfl

end Events

/-! ### Items that leave their slots (R11, R14, R102) -/

/-- The streams as items leave their slots, with the references and the items of `gone` that are left. -/
theorem State.slotsCounted.of_itemsLeft {gone gone' : List Item} {s t : State} (hs : s.slotsCounted gone)
    {n : Dir → StreamNo → SlotNo → Nat}
    (hstreams : ∀ i, (∃ slots, t.outStream i = { s.outStream i with slots := slots }) ∧
      ∃ slots, t.inStream i = { s.inStream i with slots := slots })
    (hout : ∀ i k, t.outSlot i k = (s.outSlot i k).itemsLeft (n .out i k))
    (hin : ∀ i k, t.inSlot i k = (s.inSlot i k).itemsLeft (n .inn i k))
    (hjobs : t.keyUnit.jobs = s.keyUnit.jobs)
    (hcount : ∀ d i k, s.references d i k + referencing gone d i k - n d i k =
      t.references d i k + referencing gone' d i k) : t.slotsCounted gone' := by
  obtain ⟨hlegal, houtCount, hinCount⟩ := id hs
  refine ⟨hlegal.of_streams (fun i h => ?_) (fun i h => ?_) (fun i k => ?_) (fun i k => ?_) hjobs, fun i k => ?_,
    fun i k => ?_⟩
  · obtain ⟨⟨slots, hstream⟩, -⟩ := hstreams i
    have hslots : ∀ k, (t.outStream i).slots.get k = ((s.outStream i).slots.get k).itemsLeft (n .out i k) := hout i
    exact h.of_slots (by rw [hstream]) (by rw [hstream]; exact fun _ => id) fun k => by
      rw [hslots]; exact OutSlot.keeps_itemsLeft _ _
  · obtain ⟨-, slots, hstream⟩ := hstreams i
    have hslots : ∀ k, (t.inStream i).slots.get k = ((s.inStream i).slots.get k).itemsLeft (n .inn i k) := hin i
    exact h.of_slots (by rw [hstream]) (by rw [hstream]) (by rw [hstream]) fun k => by
      rw [hslots]; exact InSlot.keeps_itemsLeft _ _ _ _
  · rw [hout]; exact (OutSlot.keeps_itemsLeft _ _).loading
  · rw [hin]; exact (InSlot.keeps_itemsLeft 0 0 _ _).loading
  · rw [hout, OutSlot.inFlight_itemsLeft, houtCount, hcount]
  · rw [hin, InSlot.inFlight_itemsLeft, hinCount, hcount]

/-- An item that has left its list leaves the slot that it references. -/
theorem State.slotsCounted.after_itemLeft {gone : List Item} {it : Item} {s : State} (hs : s.slotsCounted (it :: gone)) :
    (itemLeft it s).slotsCounted gone := by
  refine hs.of_itemsLeft (itemLeft_streams it s) (itemLeft_outSlot it s) (itemLeft_inSlot it s) ?_ fun d i k => ?_
  · obtain ⟨o, i, n, h⟩ := itemLeft_touches it s
    rw [h]
  · have hrefs : (itemLeft it s).references d i k = s.references d i k := by
      obtain ⟨o, i, n, h⟩ := itemLeft_touches it s
      rw [h]; rfl
    rw [hrefs, referencing_cons]
    omega

/-- A stop NOW takes the items of a link's lists from their slots. -/
theorem State.slotsCounted.after_stopLinkNow {gone : List Item} {s : State} (hs : s.slotsCounted gone) (l : LinkNo)
    (c : StopCause) : (stopLinkNow l c s).slotsCounted gone := by
  by_cases hoff : (s.link l).state = .off
  · rw [stopLinkNow_of_off hoff]
    exact hs
  refine hs.of_itemsLeft (stopLinkNow_streams hoff) (stopLinkNow_outSlot hoff) (stopLinkNow_inSlot hoff) ?_
    fun d i k => ?_
  · obtain ⟨ks, ls, o, i, n, h⟩ := stopLinkNow_touches l c s
    rw [h]
  · have hrefs : (stopLinkNow l c s).references d i k = (s.modLink l (Link.stoppedNow c)).references d i k := by
      refine references_congr (fun m d i k => ?_) d i k
      rw [stopLinkNow_link hoff, link_modLink]
    have hstopped := references_modLink l (Link.stoppedNow c) s d i k
    have hnone : referencing ((s.link l).stoppedNow c).items d i k = 0 := rfl
    rw [hrefs]
    unfold Link.items at *
    omega

/-! ### Triggers (R50, R160, R161) -/

section Triggers

variable {gone : List Item} {s : State} (hs : s.slotsCounted gone)
include hs

theorem State.slotsCounted.after_switchListed (i : StreamNo) : (switchListed s i).slotsCounted gone := by
  unfold switchListed
  split
  next ha => exact hs.after_requestSwitch ha
  next => exact hs

theorem State.slotsCounted.after_doAction (a : TriggerAction) : (doAction s a).slotsCounted gone := by
  cases a with
  | switch streams => exact State.slotsCounted.foldl (fun _ i hs => hs.after_switchListed i) streams hs
  | start l => exact hs.after_startLink l
  | stopDrain l => exact hs.after_drainLink l _
  | stopNow l => exact hs.after_stopLinkNow l _

theorem State.slotsCounted.after_setTrigger (j : TriggerNo) (v : TriggerSlot) : (s.setTrigger j v).slotsCounted gone :=
  hs.of_same rfl rfl rfl rfl

theorem State.slotsCounted.after_fireTrigger (j : TriggerNo) (c : TriggerCond) (a : TriggerAction) :
    (fireTrigger j c a s).slotsCounted gone := by
  unfold fireTrigger
  split
  · exact (hs.after_setTrigger j _).raised _ _
  · exact ((hs.after_setTrigger j _).after_doAction a).raised _ _

theorem State.slotsCounted.after_triggerEvent (e : FireEvent) (j : TriggerNo) :
    (triggerEvent e s j).slotsCounted gone := by
  unfold triggerEvent
  split
  · exact .ite (fun _ => hs.after_fireTrigger j _ _) (fun _ => hs.after_setTrigger j _)
  · exact hs

theorem State.slotsCounted.after_triggersEvent (e : FireEvent) : (triggersEvent e s).slotsCounted gone :=
  State.slotsCounted.foldl (fun _ j hs => hs.after_triggerEvent e j) _ hs

end Triggers

/-! ### Time (R41, R122, R151 to R153) -/

theorem Link.items_micro (k : Link) : k.micro.items = k.items := by
  unfold Link.micro Link.refreshMicro
  dsimp only
  split
  · rfl
  · split <;> rfl

section Time

variable {gone : List Item} {s : State} (hs : s.slotsCounted gone)
include hs

theorem State.slotsCounted.after_milliEvent : (milliEvent s).slotsCounted gone := by
  refine hs.of_ins (milliEvent_touches s) fun i h => ?_
  rw [milliEvent_inStream]
  refine h.keeps_of_slots rfl rfl rfl fun k => ?_
  rw [InStream.graceTicked, get_mapTable]
  refine ⟨InSlot.keeps_graceTicked _ _ _, ?_⟩
  unfold InSlot.graceTicked
  split
  · split
    · exact InSlot.inFlight_left _
    · rfl
  · rfl

/-- Seconds accrue at an ACTIVE slot, which leaves service at its limit (R41). -/
theorem State.slotsCounted.after_secondAtSlot {i : StreamNo} {a : SlotNo} (ha : (s.outStream i).state = .active a) :
    (secondAtSlot i a s).slotsCounted gone := by
  have hslot := (hs.outStream i).active_slot ha
  have hlegal : (s.outSlot i a).legal → (s.outSlot i a).second.legal := fun h => h.beside_of_active hslot _ _ _
  have haccrued : (accrueSecond i a s).slotsCounted gone := by
    have hmod : (s.modOutSlot i a OutSlot.second).slotsCounted gone := hs.modOutSlot (.of_state hlegal rfl) rfl
    unfold accrueSecond
    cases (s.outSlot i a).dueAtSecond
    · exact hmod
    · exact hmod.raised _ _
  rw [secondAtSlot_eq]
  refine .ite (fun _ => haccrued.after_leaveActive ?_) (fun _ => haccrued)
  rw [accrueSecond_outStream, if_pos rfl]
  exact ha

theorem State.slotsCounted.after_lifetimeTick (i : StreamNo) : (lifetimeTick i s).slotsCounted gone := by
  unfold lifetimeTick
  split
  next ha => exact .ite (fun _ => hs.after_secondAtSlot ha) (fun _ => hs)
  next => exact hs

theorem State.slotsCounted.after_secondEvent : (secondEvent s).slotsCounted gone :=
  (State.slotsCounted.foldl (fun _ i hs => hs.after_lifetimeTick i) (List.finRange 64) hs).after_triggersEvent _

theorem State.slotsCounted.after_microEvent : (microEvent s).slotsCounted gone := by
  unfold microEvent
  extract_lets counted passed
  have hlinks : State.slotsCounted gone { s with links := mapTable Link.micro s.links } := hs.mapLinks Link.items_micro
  have hcounted : counted.slotsCounted gone := hlinks.of_same rfl rfl rfl rfl
  have hpassed : passed.slotsCounted gone := .ite (fun _ => hcounted.after_milliEvent) (fun _ => hcounted)
  exact .ite (fun _ => hpassed.after_secondEvent) (fun _ => hpassed)

theorem State.slotsCounted.after_microEvents (n : Nat) : (microEvents n s).slotsCounted gone := by
  induction n generalizing s with
  | zero => exact hs
  | succ n ih => exact ih hs.after_microEvent

theorem State.slotsCounted.after_tick : (tick s).slotsCounted gone := by
  have hmoved : State.slotsCounted gone { s with time := { s.time with window := nextWindow s.time.window } } :=
    hs.of_same rfl rfl rfl rfl
  exact hmoved.after_microEvents _

theorem State.slotsCounted.after_disciplineEdge : (disciplineEdge s).slotsCounted gone := by
  have htime : ∀ t : TimeBase, State.slotsCounted gone { s with time := t } := fun _ => hs.of_same rfl rfl rfl rfl
  exact .ite (fun _ => (htime _).after_milliEvent.after_secondEvent) fun _ =>
    .ite (fun _ => htime _) (fun _ => htime _)

theorem State.slotsCounted.after_edge : (edge s).slotsCounted gone :=
  State.slotsCounted.after_triggersEvent (.ite (fun _ => hs.after_disciplineEdge) (fun _ => hs)) _

end Time

end Sys2Proof.Machine
end

section
/-! SUPPORT. Grants, lane completions and releases keep the rules of streams, slots and jobs and the in-flight counts: an
item that joins a list is counted at its slot, and one that leaves is taken from it. -/

namespace Sys2Proof.Machine

/-! ### Frame-number assignment (R34) -/

section Assignment

variable {st : OutStream} (h : st.legal) {a : SlotNo} (ha : st.state = .active a) (bytes : Nat)
include h ha

/-- The slot that a number is taken from: DRAINING where it leaves service, else with a number left to take. -/
theorem OutStream.legal.afterAssignment_slot : ((st.afterAssignment a bytes).slots.get a).legal := by
  have hslot := h.active_slot ha
  obtain ⟨hkey, hone, hinitial, hsoft, hhard, hnext, hlast⟩ := (h.slot a).of_active hslot
  rw [OutStream.afterAssignment_slot]
  cases hleaves : st.leavesAtNumber a bytes with
  | true => exact ⟨hkey, Nat.succ_pos _, hone, hinitial, hsoft, hhard, Nat.le_succ_of_le hnext, Nat.succ_le_succ hlast⟩
  | false =>
    have hgoes : (st.slots.get a).nextFn ≠ (st.slots.get a).hard := by
      rw [OutStream.leavesAtNumber_eq] at hleaves
      simp only [Bool.or_eq_false_iff, decide_eq_false_iff_not] at hleaves
      exact hleaves.1.1
    simp only [Bool.false_eq_true, if_false, OutSlot.legal, hslot]
    exact ⟨hkey, hone, hinitial, hsoft, hhard, Nat.le_succ_of_le hnext, by
      simp only [OutSlot.assigned]; omega⟩

theorem OutStream.legal.afterAssignment : (st.afterAssignment a bytes).legal := by
  have hleft := h.afterAssignment_slot ha bytes
  have hslot := OutStream.afterAssignment_slot a bytes st
  have hother := OutStream.afterAssignment_otherSlot a bytes st
  have hstream := OutStream.afterAssignment_eq bytes ha
  have hstate := congrArg OutStream.state hstream
  have hpending := congrArg OutStream.pendingSwitch hstream
  simp only at hstate hpending
  cases hleaves : st.leavesAtNumber a bytes with
  | true =>
    have hgone : ((st.afterAssignment a bytes).slots.get a).state = .draining := by rw [hslot, hleaves]; rfl
    by_cases hready : (st.slots.get (otherSlot a)).state = .ready
    · have hon : st.goesOn a bytes = true := by simp [OutStream.goesOn, hleaves, hready]
      simp only [hleaves, hon, if_true] at hstate hpending hother
      exact h.switches hready hstate hpending hleft (.inr hgone) hother
    · have hoff : st.goesOn a bytes = false := by simp [OutStream.goesOn, hready]
      simp only [hleaves, hoff, if_true, Bool.false_eq_true, if_false] at hstate hpending hother
      exact h.stalls ha hready hstate hpending hleft (.inr hgone) hother
  | false =>
    have hoff : st.goesOn a bytes = false := by simp [OutStream.goesOn, hleaves]
    simp only [hleaves, hoff, Bool.false_eq_true, if_false] at hstate hpending hother hslot
    refine h.of_slots (hstate.trans ha.symm) (fun k hk => hpending ▸ hk) ((forall_slot_iff a).2 ⟨?_, ?_⟩)
    · exact .of_state (fun _ => hleft) (by rw [hslot])
    · rw [hother]; exact .refl _

theorem OutStream.legal.loading_afterAssignment (k : SlotNo) (hk : (st.slots.get k).state = .loading) :
    ((st.afterAssignment a bytes).slots.get k).state = .loading := by
  revert k
  rw [forall_slot_iff a, h.active_slot ha, OutStream.afterAssignment_otherSlot]
  refine ⟨nofun, fun hloading => ?_⟩
  have hoff : st.goesOn a bytes = false := by simp [OutStream.goesOn, hloading]
  rw [hoff]
  exact hloading

end Assignment

theorem OutStream.inFlight_afterAssignment_otherSlot (a : SlotNo) (bytes : Nat) (st : OutStream) :
    ((st.afterAssignment a bytes).slots.get (otherSlot a)).inFlight = (st.slots.get (otherSlot a)).inFlight := by
  rw [OutStream.afterAssignment_otherSlot]
  split <;> rfl

/-! ### Items that join a list -/

/-- An item has joined a list, and the slot that it references counts it. -/
theorem State.slotsCounted.of_joined {gone : List Item} {s t : State} (hs : s.slotsCounted gone) (it : Item)
    (hlegal : t.slotsLegal)
    (hout : ∀ i k, (t.outSlot i k).inFlight = (s.outSlot i k).inFlight + referencing [it] .out i k)
    (hin : ∀ i k, (t.inSlot i k).inFlight = (s.inSlot i k).inFlight + referencing [it] .inn i k)
    (hrefs : ∀ d i k, t.references d i k = s.references d i k + referencing [it] d i k) : t.slotsCounted gone := by
  obtain ⟨-, houtCount, hinCount⟩ := hs
  refine ⟨hlegal, fun i k => ?_, fun i k => ?_⟩
  · rw [hout, houtCount, hrefs, Nat.add_right_comm]
  · rw [hin, hinCount, hrefs, Nat.add_right_comm]

/-- An item at the end of either list of a link. -/
theorem references_modLink_joined {l : LinkNo} {f : Link → Link} {s : State} {it : Item}
    (h : (f (s.link l)).items.Perm (it :: (s.link l).items)) (d : Dir) (i : StreamNo) (k : SlotNo) :
    (s.modLink l f).references d i k = s.references d i k + referencing [it] d i k := by
  have hlink := references_modLink l f s d i k
  have hperm : referencing (f (s.link l)).items d i k = referencing (it :: (s.link l).items) d i k :=
    (h.filter _).length_eq
  rw [hperm, referencing_cons] at hlink
  omega

theorem Link.items_appendOut (k : Link) (it : Item) :
    ({ k with outList := k.outList ++ [it] } : Link).items.Perm (it :: k.items) := by
  rw [Link.items, Link.items, List.append_assoc]
  exact List.perm_middle

theorem Link.items_appendIn (k : Link) (it : Item) :
    ({ k with inList := k.inList ++ [it] } : Link).items.Perm (it :: k.items) := by
  rw [Link.items, Link.items, ← List.append_assoc]
  exact List.perm_append_singleton _ _

theorem referencing_protect {it : Item} {ref : KeyRef} {aad payload : List Byte} {tag : Option (BitVec 128)}
    (hbody : it.body = .protect ref aad payload tag) (d : Dir) (i : StreamNo) (k : SlotNo) :
    referencing [it] d i k = if d = .out ∧ i = ref.stream ∧ k = ref.slot then 1 else 0 := by
  rw [referencing_singleton]
  simp only [Item.reference, hbody, Option.some.injEq, Prod.mk.injEq]
  exact if_congr (by tauto) rfl rfl

theorem referencing_verify {it : Item} {ref : KeyRef} {aad cipher : List Byte} {tag : BitVec 128}
    {result : Option (Option (List Byte))} (hbody : it.body = .verify ref aad cipher tag result) (d : Dir)
    (i : StreamNo) (k : SlotNo) : referencing [it] d i k = if d = .inn ∧ i = ref.stream ∧ k = ref.slot then 1 else 0 := by
  rw [referencing_singleton]
  simp only [Item.reference, hbody, Option.some.injEq, Prod.mk.injEq]
  exact if_congr (by tauto) rfl rfl

theorem Link.items_dropOutHead (k : Link) : k.dropOutHead.items = k.items := by
  unfold Link.dropOutHead Link.departed
  split <;> rfl

section Grants

variable {gone : List Item} {s : State} (hs : s.slotsCounted gone)
include hs

/-- A PASS item joins its list; it references no slot. -/
theorem State.slotsCounted.passes {l : LinkNo} {f : Link → Link} {d : Dir} {frame : Frame}
    (h : (f (s.link l)).items.Perm (passItem d l frame :: (s.link l).items)) : (s.modLink l f).slotsCounted gone :=
  hs.of_joined (passItem d l frame) hs.1 (fun _ _ => rfl) (fun _ _ => rfl) (references_modLink_joined h)

theorem State.slotsCounted.after_assign (l : LinkNo) (n : LaneNo) {i : StreamNo} {a : SlotNo}
    (ha : (s.outStream i).state = .active a) (f : Frame) (tc : Bool) : (assign l n i a f tc s).slotsCounted gone := by
  have hstream := hs.outStream i
  obtain ⟨hkey, -⟩ := (hstream.slot a).of_active (hstream.active_slot ha)
  obtain ⟨x, hx⟩ := Option.ne_none_iff_exists'.1 hkey
  obtain ⟨y, hassign, hy, hothers, hself, -⟩ := assign_effect l n i a f tc ha hx
  rw [hassign]
  refine State.slotsCounted.after_triggersEvent (hs.of_joined (protectItem s l n i a f tc) ?legal ?out ?inn ?refs) _
  case legal =>
    refine hs.1.of_streams (fun j hj => ?_) (fun j hj => by rw [hy]; exact hj) (fun j k hk => ?_)
      (fun j k hk => by rw [hy]; exact hk) (by rw [hy])
    · by_cases hji : j = i
      · subst hji; rw [hself]; exact hj.afterAssignment ha _
      · rw [hothers j hji]; exact hj
    · by_cases hji : j = i
      · subst hji; rw [State.outSlot, hself]; exact hstream.loading_afterAssignment ha _ k hk
      · rw [State.outSlot, hothers j hji]; exact hk
  case out =>
    intro j k
    rw [referencing_protect rfl]
    by_cases hji : j = i
    · subst hji
      rw [State.outSlot, hself]
      revert k
      rw [forall_slot_iff a, OutStream.afterAssignment_slot, OutStream.inFlight_afterAssignment_otherSlot]
      exact ⟨by simp [OutSlot.assigned, State.outSlot], by rw [if_neg fun h => otherSlot_ne a h.2.2]; rfl⟩
    · rw [State.outSlot, hothers j hji, if_neg (fun h => hji h.2.1)]
      rfl
  case inn =>
    intro j k
    rw [hy, referencing_protect rfl, if_neg nofun]
    rfl
  case refs =>
    intro d j k
    rw [hy]
    exact references_modLink_joined (l := l)
      (f := fun x => { x with outList := x.outList ++ [protectItem s l n i a f tc] })
      (Link.items_appendOut _ _) d j k

theorem State.slotsCounted.after_disposeOut (l : LinkNo) (n : LaneNo) (read : KeyRead) (f : Frame) (d : Decision) :
    (disposeOut l n read f d s).slotsCounted gone := by
  have hcounted : ∀ g, (countOut l g s).slotsCounted gone := fun g => hs.modLink_beside rfl rfl
  unfold disposeOut
  split
  · exact hcounted _
  · exact .ite (fun _ => hcounted _) (fun _ => hs.passes (Link.items_appendOut _ _))
  · refine .ite (fun _ => hcounted _) (fun _ => ?_)
    split
    next a ha =>
      refine .ite (fun _ => hs.after_outStoreError ha) (fun _ => ?_)
      refine (hs.after_noteCorrection read).after_assign l n ?_ f _
      obtain ⟨c, h⟩ := noteCorrection_touches read s
      rw [h]
      exact ha
    · exact hs.modOut_beside rfl (fun _ => id) rfl

theorem State.slotsCounted.after_grantOutbound (l : LinkNo) (n : LaneNo) (read : KeyRead) :
    (grantOutbound l n read s).slotsCounted gone := by
  unfold grantOutbound
  split
  · exact hs
  next f rest hqueue =>
    have hdropped : (s.modLink l Link.dropOutHead).slotsCounted gone :=
      hs.modLink fun _ _ _ => by rw [Link.items_dropOutHead]
    obtain ⟨rs, h⟩ := countMatch_touches l f (s.modLink l Link.dropOutHead)
    rw [h]
    have hcounted : State.slotsCounted gone { s.modLink l Link.dropOutHead with rules := rs } :=
      hdropped.of_same rfl rfl rfl rfl
    exact (hcounted.after_disposeOut l n read f _).after_drainCheck l

/-- A VERIFY item joins the list of its link, and the usable slot of its key phase counts it (R114). -/
theorem State.slotsCounted.after_startVerify (l : LinkNo) (n : LaneNo) {i : StreamNo} {p : Parsed}
    (husable : (s.inSlot i p.phase).state.usable = true) (f : Frame) : (startVerify l n i p f s).slotsCounted gone := by
  have hkeeps : (s.inSlot i p.phase).Keeps (s.inStream i).window (s.inStream i).grace
      { s.inSlot i p.phase with inFlight := (s.inSlot i p.phase).inFlight + 1 } :=
    .of_state (fun h => h.withInFlight husable _) rfl
  have hstream : ∀ j, (startVerify l n i p f s).inStream j =
      (s.modInSlot i p.phase fun sl => { sl with inFlight := sl.inFlight + 1 }).inStream j := fun _ => rfl
  have hslot : ∀ j k, (startVerify l n i p f s).inSlot j k =
      if j = i ∧ k = p.phase then { s.inSlot i p.phase with inFlight := (s.inSlot i p.phase).inFlight + 1 }
      else s.inSlot j k := fun j k => by
    rw [State.inSlot, hstream]
    exact inSlot_modInSlot i j p.phase k (fun sl => { sl with inFlight := sl.inFlight + 1 }) s
  refine hs.of_joined (verifyItem l n i p f) ?legal ?out ?inn ?refs
  case legal =>
    refine hs.1.of_streams (fun _ => id) (fun j hj => ?_) (fun _ _ => id) (fun j k hk => ?_) rfl
    · rw [hstream, State.modInSlot, inStream_modIn]
      split
      next hji =>
        subst hji
        refine hj.of_slots rfl rfl rfl fun k => ?_
        simp only [get_putAt]
        split
        next hk => subst hk; exact hkeeps
        next => exact .refl _ _ _
      next => exact hj
    · rw [hslot]
      split
      next h => obtain ⟨rfl, rfl⟩ := h; exact hk
      next => exact hk
  case out =>
    intro j k
    rw [referencing_verify rfl, if_neg nofun]
    rfl
  case inn =>
    intro j k
    rw [hslot, referencing_verify rfl]
    by_cases h : j = i ∧ k = p.phase
    · obtain ⟨rfl, rfl⟩ := h
      simp
    · rw [if_neg h, if_neg fun hall => h hall.2]
      rfl
  case refs =>
    exact references_modLink_joined (l := l)
      (f := fun x => { x with inList := x.inList ++ [verifyItem l n i p f] })
      (Link.items_appendIn _ _)

theorem State.slotsCounted.after_examineStream (l : LinkNo) (n : LaneNo) (read : KeyRead) (i : StreamNo) (p : Parsed)
    (f : Frame) : (examineStream l n read i p f s).slotsCounted gone := by
  have hcorrected := hs.after_noteCorrection read
  have hslot : (noteCorrection read s).inSlot i p.phase = s.inSlot i p.phase := by
    obtain ⟨c, h⟩ := noteCorrection_touches read s
    rw [h]
    rfl
  unfold examineStream
  split
  · exact hs.modIn_beside rfl rfl rfl rfl
  next husable =>
    have husable := not_not.1 husable
    refine .ite (fun _ => hs.after_inStoreError husable) fun _ => .ite (fun _ => ?_) fun _ => ?_
    · exact hcorrected.after_startVerify l n (by rw [hslot]; exact husable) f
    · exact hcorrected.modIn_beside rfl rfl rfl rfl

theorem State.slotsCounted.after_examineIn (l : LinkNo) (n : LaneNo) (read : KeyRead) (f : Frame) :
    (examineIn l n read f s).slotsCounted gone := by
  have hcounted : ∀ g, (countIn l g s).slotsCounted gone := fun g => hs.modLink_beside rfl rfl
  unfold examineIn
  split
  · exact .ite (fun _ => hs.passes (Link.items_appendIn _ _)) (fun _ => hcounted _)
  · split
    · exact hcounted _
    · split
      · exact hcounted _
      · exact hs.after_examineStream l n read _ _ f

theorem State.slotsCounted.after_grantInbound (l : LinkNo) (n : LaneNo) (read : KeyRead) :
    (grantInbound l n read s).slotsCounted gone := by
  unfold grantInbound
  split
  · exact hs
  · have hdropped : (s.modLink l fun k => { k with inQueue := k.inQueue.tail }).slotsCounted gone :=
      hs.modLink_beside rfl rfl
    exact (hdropped.after_examineIn l n read _).after_drainCheck l

end Grants

/-! ### Lane completions (R97) -/

/-- A completion changes neither which slot an item references nor where it stands. -/
theorem Item.reference_completedOn (n : LaneNo) (x : Secret) (nonce : BitVec 96) (it : Item) :
    (it.completedOn n x nonce).reference = it.reference := by
  unfold Item.completedOn
  split
  · unfold Item.reference ItemBody.completed
    cases it.body <;> rfl
  · rfl

theorem referencing_map_completedOn (n : LaneNo) (x : Secret) (nonce : BitVec 96) (items : List Item) (d : Dir)
    (i : StreamNo) (k : SlotNo) :
    referencing (items.map (Item.completedOn n x nonce)) d i k = referencing items d i k := by
  rw [referencing, List.filter_map, List.length_map, referencing]
  simp only [Function.comp_def, Item.reference_completedOn]

theorem State.slotsCounted.after_laneCompletion {gone : List Item} {s : State} (hs : s.slotsCounted gone) (l : LinkNo)
    (n : LaneNo) (x : Secret) (nonce : BitVec 96) :
    (s.modLink l fun k => { k with outList := k.outList.map (Item.completedOn n x nonce) }).slotsCounted gone ∧
      (s.modLink l fun k => { k with inList := k.inList.map (Item.completedOn n x nonce) }).slotsCounted gone := by
  constructor <;> refine hs.modLink fun d i k => ?_ <;>
    simp only [Link.items, referencing_append, referencing_map_completedOn]

/-! ### Releases (R99 to R101, R116 to R120) -/

/-- An inbound slot that a flip sends into GRACE, or out of service where the stream's grace is 0 (R120). -/
def InSlot.sentToGrace (grace : Nat) (sl : InSlot) : InSlot :=
  if grace = 0 then sl.left else { sl with state := .grace, grace := grace }

theorem sendToGrace_inStream (i j : StreamNo) (k : SlotNo) (s : State) :
    (sendToGrace i k s).inStream j =
      (s.modInSlot i k (InSlot.sentToGrace (s.inStream i).grace)).inStream j := by
  unfold sendToGrace
  split
  next h =>
    rw [leaveInSlot_inStream, State.modInSlot_congr (g := InSlot.sentToGrace (s.inStream i).grace)]
    exact (if_pos h).symm
  next h =>
    rw [State.modInSlot_congr (g := InSlot.sentToGrace (s.inStream i).grace)]
    exact (if_neg h).symm

theorem sendToGrace_touches (i : StreamNo) (k : SlotNo) (s : State) :
    ∃ o n, sendToGrace i k s = { s with ins := o, notices := n } := by
  unfold sendToGrace
  split
  · exact leaveInSlot_touches i k s
  · exact ⟨_, s.notices, rfl⟩

/-- The window of a slot stays in order at a delivery that the replay test lets pass (R112, R118). -/
theorem InSlot.windowed.updated {sl : InSlot} {w p : Nat} (hw : w ≤ 64) (h : sl.windowed w)
    (hp : replayPasses sl w p = true) : (sl.windowUpdated w p).windowed w := by
  obtain ⟨hone, hmost, hhighest, hbits⟩ := h
  refine ⟨by rwa [InSlot.windowUpdated_lower], by rwa [InSlot.windowUpdated_lower], ?_, fun b hb => ?_⟩
  · rw [InSlot.windowUpdated_lower, InSlot.windowUpdated_highest]
    exact hhighest.trans (le_max_left _ _)
  · rcases Nat.lt_or_ge sl.highest p with habove | hwithin
    · rw [InSlot.getLsbD_windowUpdated_of_above hw habove]
      exact decide_eq_false fun hall => absurd hall.1 (Nat.not_lt.2 hb)
    · rw [InSlot.getLsbD_windowUpdated_of_within hwithin, hbits b hb, Bool.false_or]
      obtain ⟨-, habove | ⟨hinside, -⟩⟩ := (replayPasses_iff sl w p).1 hp
      · omega
      · exact decide_eq_false fun hall => by omega

/-- What a delivery leaves of a slot beside its window. -/
theorem InSlot.windowUpdated_beside (sl : InSlot) (w p : Nat) :
    sl.windowUpdated w p =
      { sl with highest := (sl.windowUpdated w p).highest, bitmap := (sl.windowUpdated w p).bitmap } := by
  unfold InSlot.windowUpdated
  split <;> rfl

section Delivery

variable {st : InStream} (h : st.legal) {k : SlotNo} {p : Nat}
include h

/-- A delivery under a slot that is not READY moves its window (R118). -/
theorem InStream.legal.keeps_delivered (hp : replayPasses (st.slots.get k) st.window p = true)
    (hflight : (st.slots.get k).inFlight ≠ 0) (hready : (st.slots.get k).state ≠ .ready) :
    st.Keeps { st with
      slots := putAt st.slots k ((st.slots.get k).windowUpdated st.window p)
      delivered := count48 st.delivered 1 } := by
  have hslot := h.slot k
  have hkeeps : (st.slots.get k).Keeps st.window st.grace ((st.slots.get k).windowUpdated st.window p) := by
    refine .of_state (fun _ => ?_) (InSlot.windowUpdated_state _ _ _)
    have hbeside := InSlot.windowUpdated_beside (st.slots.get k) st.window p
    have hupdated := fun hwindow => InSlot.windowed.updated h.1 hwindow hp
    rw [hbeside] at hupdated ⊢
    cases hstate : (st.slots.get k).state with
    | empty => rw [hslot.of_empty hstate] at hflight; exact absurd rfl hflight
    | loading => rw [hslot.of_loading hstate] at hflight; exact absurd rfl hflight
    | ready => exact absurd hstate hready
    | active =>
      obtain ⟨hkey, hwindow, hgrace⟩ := hslot.of_active hstate
      exact ⟨hkey, hupdated hwindow, hgrace⟩
    | grace =>
      obtain ⟨hkey, hwindow, hgrace⟩ := hslot.of_grace hstate
      exact ⟨hkey, hupdated hwindow, hgrace⟩
    | draining =>
      obtain ⟨hkey, hwindow, hgrace⟩ := hslot.of_draining hstate
      exact ⟨hkey, hupdated hwindow, hgrace⟩
  have hcount : ((st.slots.get k).windowUpdated st.window p).inFlight = (st.slots.get k).inFlight := by
    rw [InSlot.windowUpdated_beside]
  refine h.keeps_of_slots rfl rfl rfl fun m => ?_
  simp only [get_putAt]
  split
  next hm => subst hm; exact ⟨hkeeps, hcount⟩
  next => exact ⟨.refl _ _ _, rfl⟩

/-- A delivery under a READY slot makes it ACTIVE and sends an ACTIVE other slot into GRACE or out of service (R120). -/
theorem InStream.legal.keeps_flipped (hp : replayPasses (st.slots.get k) st.window p = true)
    (hready : (st.slots.get k).state = .ready) {st' : InStream} (hopen : st'.isOpen = st.isOpen)
    (hw : st'.window = st.window) (hg : st'.grace = st.grace)
    (hslot : st'.slots.get k = { (st.slots.get k).windowUpdated st.window p with state := .active })
    (hother : st'.slots.get (otherSlot k) =
      if (st.slots.get (otherSlot k)).state = .active then (st.slots.get (otherSlot k)).sentToGrace st.grace
      else st.slots.get (otherSlot k)) : st.Keeps st' := by
  obtain ⟨hwindow, hgrace, -, -, hunused⟩ := id h
  obtain ⟨hkey, hwindowed, hnone, -⟩ := (h.slot k).of_ready hready
  have hbeside := InSlot.windowUpdated_beside (st.slots.get k) st.window p
  have hupdated := InSlot.windowed.updated h.1 hwindowed hp
  have hself : (st'.slots.get k).legal st.window st.grace := by
    rw [hslot]
    rw [hbeside] at hupdated ⊢
    exact ⟨hkey, hupdated, hnone⟩
  have hsent : (st'.slots.get (otherSlot k)).legal st.window st.grace ∧ (st'.slots.get (otherSlot k)).state ≠ .active ∧
      (st'.slots.get (otherSlot k)).inFlight = (st.slots.get (otherSlot k)).inFlight ∧
      ((st.slots.get (otherSlot k)).state = .loading → (st'.slots.get (otherSlot k)).state = .loading) := by
    rw [hother]
    split
    next hactive =>
      rw [InSlot.sentToGrace, hactive]
      split
      · refine ⟨(h.slot _).left_of_usable (by rw [hactive]; rfl), ?_, InSlot.inFlight_left _, nofun⟩
        rcases (st.slots.get (otherSlot k)).state_left with he | he <;> simp [he]
      next hpositive =>
        obtain ⟨hkey', hwindowed', -⟩ := (h.slot _).of_active hactive
        exact ⟨⟨hkey', hwindowed', Nat.pos_of_ne_zero hpositive, Nat.le_refl _⟩, nofun, rfl, nofun⟩
    next hactive => exact ⟨h.slot _, hactive, rfl, id⟩
  obtain ⟨hlegal', hinactive, hflight', hloading'⟩ := hsent
  refine ⟨⟨hw ▸ hwindow, hg ▸ hgrace, ?_, (forall_slot_iff k).2 ⟨fun _ => hinactive, ?_⟩, fun hu => ?_⟩,
    (forall_slot_iff k).2 ⟨?_, hflight'⟩, (forall_slot_iff k).2 ⟨?_, hloading'⟩⟩
  · rw [hw, hg]; exact (forall_slot_iff k).2 ⟨hself, hlegal'⟩
  · exact fun hactive => absurd hactive hinactive
  · exact nomatch hready.symm.trans (hunused (hopen ▸ hu) k)
  · rw [hslot, hbeside]
  · rw [hready]; nofun

end Delivery

/-- An inbound stream after the delivery of frame number `p` under slot `k`, which it leaves in state `x`. -/
def InStream.deliveredAs (k : SlotNo) (p : Nat) (x : InSlotState) (st : InStream) : InStream :=
  { st with
    slots := putAt st.slots k { (st.slots.get k).windowUpdated st.window p with state := x }
    delivered := count48 st.delivered 1 }

theorem deliveredAs_inStream (l : LinkNo) (ref : KeyRef) (frame : Frame) (x : InSlotState) (s : State) (j : StreamNo) :
    (deliveredAs l ref frame x s).inStream j =
      if j = ref.stream then (s.inStream ref.stream).deliveredAs ref.slot ref.fn x else s.inStream j := by
  rw [deliveredAs, State.modLink_inStream, State.modInSlot, State.modIn_modIn, inStream_modIn]
  rfl

section Releases

variable {gone : List Item} {s : State} (hs : s.slotsCounted gone)
include hs

/-- A delivery under a slot that counts the item in flight (R118 to R120). -/
theorem State.slotsCounted.after_deliver (l : LinkNo) (ref : KeyRef) (frame : Frame)
    (hp : replayPasses (s.inSlot ref.stream ref.slot) (s.inStream ref.stream).window ref.fn = true)
    (hflight : (s.inSlot ref.stream ref.slot).inFlight ≠ 0) : (deliver l ref frame s).slotsCounted gone := by
  by_cases hready : (s.inSlot ref.stream ref.slot).state = .ready
  case neg =>
    unfold deliver
    dsimp only
    rw [if_neg hready, State.modInSlot, State.modIn_modIn]
    exact (hs.modIn fun h => h.keeps_delivered hp hflight hready).modLink_beside rfl rfl
  let sent := s.modLink l fun k =>
    { k with
      rack := { k.rack with tx := .data frame }
      inCount := { k.inCount with delivered := count48 k.inCount.delivered 1,
                                  rackBytes := count48 k.inCount.rackBytes frame.length } }
  have hsent : sent.slotsCounted gone := hs.modLink_beside rfl rfl
  have hstream := deliveredAs_inStream l ref frame .active s
  rw [deliver_of_ready hready]
  by_cases hother : (s.inSlot ref.stream (otherSlot ref.slot)).state = .active
  · rw [if_pos hother]
    refine State.slotsCounted.raised ?_ _ _
    have hins : ∀ j, (sendToGrace ref.stream (otherSlot ref.slot) (deliveredAs l ref frame .active s)).inStream j =
        if j = ref.stream then
          { (s.inStream ref.stream).deliveredAs ref.slot ref.fn .active with
            slots := putAt ((s.inStream ref.stream).deliveredAs ref.slot ref.fn .active).slots (otherSlot ref.slot)
              ((s.inSlot ref.stream (otherSlot ref.slot)).sentToGrace (s.inStream ref.stream).grace) }
        else s.inStream j := by
      intro j
      rw [sendToGrace_inStream, deliveredAs_grace, State.modInSlot, inStream_modIn, hstream, hstream]
      rw [if_pos rfl]
      split
      · simp only [InStream.deliveredAs, get_putAt_ne _ _ (otherSlot_ne ref.slot)]
        rfl
      · rfl
    refine hsent.of_inStream ?_ hins fun h => h.keeps_flipped hp hready rfl rfl rfl ?_ ?_
    · obtain ⟨o, n, h⟩ := sendToGrace_touches ref.stream (otherSlot ref.slot) (deliveredAs l ref frame .active s)
      exact ⟨o, n, by rw [h]; rfl⟩
    · rw [get_putAt_ne _ _ (ne_otherSlot _)]
      exact get_putAt_self _ _ _
    · rw [get_putAt_self]
      exact (if_pos hother).symm
  · rw [if_neg hother]
    refine hsent.of_inStream ⟨_, s.notices, rfl⟩ hstream fun h => h.keeps_flipped hp hready rfl rfl rfl ?_ ?_
    · exact get_putAt_self _ _ _
    · rw [InStream.deliveredAs, get_putAt_ne _ _ (otherSlot_ne _)]
      exact (if_neg hother).symm

theorem State.slotsCounted.after_countIntegrityFailure (i : StreamNo) :
    (countIntegrityFailure i s).slotsCounted gone := by
  have hcounted : (s.modIn i InStream.integrityFailed).slotsCounted gone := hs.modIn_beside rfl rfl rfl rfl
  rw [countIntegrityFailure_eq]
  exact .ite (fun _ => hcounted.raised _ _) (fun _ => hcounted)

end Releases

/-- The judgement of a head that its slot still counts (R101, R116). -/
theorem State.slotsCounted.after_judgeHead {gone : List Item} {it : Item} {s : State} (hs : s.slotsCounted (it :: gone))
    (l : LinkNo) : (judgeHead l it s).slotsCounted (it :: gone) := by
  unfold judgeHead
  split
  · exact hs.modLink_beside rfl rfl
  next ref aad cipher tag result hbody =>
    have hflight : (s.inSlot ref.stream ref.slot).inFlight ≠ 0 := by
      obtain ⟨-, -, hin⟩ := hs
      rw [hin, referencing_cons, referencing_verify hbody, if_pos ⟨rfl, rfl, rfl⟩]
      omega
    unfold judgeVerify
    split
    · refine .ite (fun hp => hs.after_deliver l ref _ hp hflight) (fun _ => hs.modIn_beside rfl rfl rfl rfl)
    · exact hs.after_countIntegrityFailure _
  · exact hs

theorem State.slotsCounted.after_releaseOutbound {gone : List Item} {s : State} (hs : s.slotsCounted gone) (l : LinkNo) :
    (releaseOutbound l s).slotsCounted gone := by
  unfold releaseOutbound
  split
  · exact hs
  next it rest hlist =>
    have hdropped : ∀ f : Link → Link, (f (s.link l)).outList = (s.link l).outList.tail →
        (f (s.link l)).inList = (s.link l).inList → (s.modLink l f).slotsCounted (it :: gone) := by
      intro f hout hin
      refine hs.modLink_dropped fun d i k => ?_
      rw [Link.items, Link.items, hout, hin, hlist]
      simp only [referencing_append, referencing_cons it rest, List.tail_cons]
      omega
    refine .ite (fun _ => .ite (fun _ => ?_) fun _ => .ite (fun _ => hs) fun _ => ?_) (fun _ => hs)
    · exact (hdropped (fun k => k.sendOut it) rfl rfl).after_itemLeft.after_drainCheck l
    · exact (hdropped Link.discardOut rfl rfl).after_itemLeft.after_drainCheck l

theorem State.slotsCounted.after_releaseInbound {gone : List Item} {s : State} (hs : s.slotsCounted gone) (l : LinkNo) :
    (releaseInbound l s).slotsCounted gone := by
  unfold releaseInbound
  split
  · exact hs
  next it rest hlist =>
    have hdropped : ∀ f : Link → Link, (f (s.link l)).inList = (s.link l).inList.tail →
        (f (s.link l)).outList = (s.link l).outList → (s.modLink l f).slotsCounted (it :: gone) := by
      intro f hin hout
      refine hs.modLink_dropped fun d i k => ?_
      rw [Link.items, Link.items, hout, hin, hlist]
      simp only [referencing_append, referencing_cons it rest, List.tail_cons]
      omega
    refine .ite (fun _ => .ite (fun _ => ?_) fun _ => .ite (fun _ => hs) fun _ => ?_) (fun _ => hs)
    · exact ((hdropped Link.dropInHead rfl rfl).after_judgeHead l).after_itemLeft.after_drainCheck l
    · exact (hdropped Link.discardIn rfl rfl).after_itemLeft.after_drainCheck l

end Sys2Proof.Machine
end

section
/-! SUPPORT. Load jobs keep the rules of streams, slots and jobs and the in-flight counts: a job that begins takes an EMPTY
slot to LOADING, one that ends leaves its slot EMPTY or READY, and its stream's pending switch with it (R18, R21 to R25,
R47). -/

namespace Sys2Proof.Machine

/-! ### A job's slot and the other LOADING slots -/

/-- A job stays legal while its slot stays LOADING. -/
theorem Job.legal.transfer {s t : State} {j : Job} (h : j.legal s)
    (hout : j.range.dir = .out → (s.outSlot j.stream j.slot).state = .loading →
      (t.outSlot j.stream j.slot).state = .loading)
    (hin : j.range.dir = .inn → (s.inSlot j.stream j.slot).state = .loading →
      (t.inSlot j.stream j.slot).state = .loading) : j.legal t := by
  unfold Job.legal at h ⊢
  cases hrange : j.range with
  | out =>
    simp only [hrange] at h ⊢
    exact ⟨hout (by rw [hrange]; rfl) h.1, h.2⟩
  | inn =>
    simp only [hrange] at h ⊢
    exact ⟨hin (by rw [hrange]; rfl) h.1, h.2⟩

/-- A change of an outbound stream that ends the load of its slot `k`: its in-flight counts and its other LOADING slot are
as before. -/
structure OutStream.EndsLoad (k : SlotNo) (st st' : OutStream) : Prop where
  legal : st'.legal
  inFlight : ∀ m, (st'.slots.get m).inFlight = (st.slots.get m).inFlight
  loading : ∀ m, m ≠ k → (st.slots.get m).state = .loading → (st'.slots.get m).state = .loading

/-- The same of an inbound stream. -/
structure InStream.EndsLoad (k : SlotNo) (st st' : InStream) : Prop where
  legal : st'.legal
  inFlight : ∀ m, (st'.slots.get m).inFlight = (st.slots.get m).inFlight
  loading : ∀ m, m ≠ k → (st.slots.get m).state = .loading → (st'.slots.get m).state = .loading

section Ends

variable {gone : List Item} {s t : State} (hs : s.slotsCounted gone) {i : StreamNo} {k : SlotNo}
  (hlinks : t.links = s.links) (hsub : t.keyUnit.jobs.Sublist s.keyUnit.jobs)
include hs hlinks hsub

/-- The load of an outbound slot has ended, and its job is gone. -/
theorem State.slotsCounted.of_outLoadEnds {st : OutStream} (hins : t.ins = s.ins)
    (hstream : ∀ j, t.outStream j = if j = i then st else s.outStream j)
    (hends : (s.outStream i).legal → (s.outStream i).EndsLoad k st)
    (hgone : ∀ j ∈ t.keyUnit.jobs, j.target ≠ (.out, i, k)) : t.slotsCounted gone := by
  obtain ⟨⟨houts, hinsLegal, hlen, hjob, hnodup⟩, houtCount, hinCount⟩ := hs
  obtain ⟨hlegal, hflight, hloading⟩ := hends (houts i)
  have hin : t.inStream = s.inStream := by funext j; rw [State.inStream, hins]; rfl
  have hinSlot : t.inSlot = s.inSlot := by funext j m; rw [State.inSlot, hin]; rfl
  have hrefs : t.references = s.references := by funext d j m; simp only [State.references, hlinks]
  refine ⟨⟨fun j => ?_, by rw [hin]; exact hinsLegal, hsub.length_le.trans hlen, fun j hj => ?_,
    hnodup.sublist (hsub.map _)⟩, fun j m => ?_, by rw [hinSlot, hrefs]; exact hinCount⟩
  · rw [hstream]
    split
    · exact hlegal
    · exact houts j
  · refine (hjob j (hsub.subset hj)).transfer (fun hdir hl => ?_) (fun _ hl => by rw [hinSlot]; exact hl)
    rw [State.outSlot, hstream]
    split
    next hji =>
      refine hloading _ (fun hk => hgone j hj ?_) (hji ▸ hl)
      rw [Job.target, hdir, hji, hk]
    next => exact hl
  · rw [hrefs, ← houtCount, State.outSlot, hstream]
    split
    next hji => rw [hji]; exact hflight m
    next => rfl

/-- The load of an inbound slot has ended, and its job is gone. -/
theorem State.slotsCounted.of_inLoadEnds {st : InStream} (houts : t.outs = s.outs)
    (hstream : ∀ j, t.inStream j = if j = i then st else s.inStream j)
    (hends : (s.inStream i).legal → (s.inStream i).EndsLoad k st)
    (hgone : ∀ j ∈ t.keyUnit.jobs, j.target ≠ (.inn, i, k)) : t.slotsCounted gone := by
  obtain ⟨⟨houtsLegal, hins, hlen, hjob, hnodup⟩, houtCount, hinCount⟩ := hs
  obtain ⟨hlegal, hflight, hloading⟩ := hends (hins i)
  have hout : t.outStream = s.outStream := by funext j; rw [State.outStream, houts]; rfl
  have houtSlot : t.outSlot = s.outSlot := by funext j m; rw [State.outSlot, hout]; rfl
  have hrefs : t.references = s.references := by funext d j m; simp only [State.references, hlinks]
  refine ⟨⟨by rw [hout]; exact houtsLegal, fun j => ?_, hsub.length_le.trans hlen, fun j hj => ?_,
    hnodup.sublist (hsub.map _)⟩, by rw [houtSlot, hrefs]; exact houtCount, fun j m => ?_⟩
  · rw [hstream]
    split
    · exact hlegal
    · exact hins j
  · refine (hjob j (hsub.subset hj)).transfer (fun _ hl => by rw [houtSlot]; exact hl) (fun hdir hl => ?_)
    rw [State.inSlot, hstream]
    split
    next hji =>
      refine hloading _ (fun hk => hgone j hj ?_) (hji ▸ hl)
      rw [Job.target, hdir, hji, hk]
    next => exact hl
  · rw [hrefs, ← hinCount, State.inSlot, hstream]
    split
    next hji => rw [hji]; exact hflight m
    next => rfl

end Ends

/-! ### A load that ends at its stream -/

/-- An outbound stream whose LOADING slot has become EMPTY, a pending switch to it dropped (R23, R25, R47). -/
def OutStream.loadDropped (k : SlotNo) (r : LoadResult) (st : OutStream) : OutStream :=
  { st with
    slots := putAt st.slots k (OutSlot.empty r)
    pendingSwitch := if st.pendingSwitch = some k then none else st.pendingSwitch }

/-- A stream acts on its slot that has become READY: first-key activation, the pending switch, or nothing (R22). -/
def OutStream.readied (k : SlotNo) (st : OutStream) : OutStream :=
  match st.state with
  | .opened | .stalled =>
    { st with state := .active k, slots := putAt st.slots k { st.slots.get k with state := .active } }
  | .active a => if st.pendingSwitch = some k then st.switched a else st
  | .unused => st

theorem outSlotReady_outStream (i j : StreamNo) (k : SlotNo) (s : State) :
    (outSlotReady i k s).outStream j = if j = i then (s.outStream i).readied k else s.outStream j := by
  have hsame : s.outStream j = if j = i then s.outStream i else s.outStream j := by
    split
    next h => rw [h]
    next => rfl
  unfold outSlotReady OutStream.readied
  cases hstate : (s.outStream i).state with
  | opened => rw [State.modOutSlot, State.modOut_modOut, outStream_modOut]
  | stalled => rw [State.modOutSlot, State.modOut_modOut, outStream_modOut]
  | active a =>
    dsimp only
    split
    · exact switchStream_outStream i j a s
    · exact hsame
  | unused => exact hsame

section StreamLoad

variable {st : OutStream} (h : st.legal) {k : SlotNo} (hk : (st.slots.get k).state = .loading)
include h hk

theorem OutStream.legal.inFlight_of_loading : (st.slots.get k).inFlight = 0 := by
  rw [(h.slot k).of_loading hk]
  rfl

theorem OutStream.legal.endsLoad_dropped (r : LoadResult) : st.EndsLoad k (st.loadDropped k r) := by
  obtain ⟨hlegal, hactive, hready, hunused, hswitch⟩ := id h
  have hself : (st.loadDropped k r).slots.get k = OutSlot.empty r := get_putAt_self _ k _
  have hother : (st.loadDropped k r).slots.get (otherSlot k) = st.slots.get (otherSlot k) :=
    get_putAt_ne _ _ (otherSlot_ne k)
  refine ⟨⟨(forall_slot_iff k).2 ⟨?_, ?_⟩, (forall_slot_iff k).2 ⟨?_, ?_⟩, (forall_slot_iff k).2 ⟨?_, ?_⟩,
    fun hu => (forall_slot_iff k).2 ⟨?_, ?_⟩, fun m hm => ?_⟩, (forall_slot_iff k).2 ⟨?_, ?_⟩,
    (forall_slot_iff k).2 ⟨fun hne => absurd rfl hne, fun _ => ?_⟩⟩
  · rw [hself]; exact OutSlot.legal_empty r
  · rw [hother]; exact hlegal _
  · rw [hself, show (st.loadDropped k r).state = st.state from rfl, ← hactive, hk]
    exact ⟨nofun, nofun⟩
  · rw [hother]; exact hactive _
  · rw [hself]; exact nofun
  · rw [hother]; exact hready _
  · rw [hself]; rfl
  · rw [hother]; exact hunused hu _
  · have hpending : st.pendingSwitch = some m ∧ m ≠ k := by
      change (if st.pendingSwitch = some k then none else st.pendingSwitch) = some m at hm
      split at hm
      · cases hm
      next hne => exact ⟨hm, fun hmk => hne (hmk ▸ hm)⟩
    obtain ⟨a, ha, hma, hloading⟩ := hswitch m hpending.1
    refine ⟨a, ha, hma, ?_⟩
    rw [eq_otherSlot_of_ne hpending.2] at hloading ⊢
    rw [hother]
    exact hloading
  · rw [hself, h.inFlight_of_loading hk]; rfl
  · rw [hother]
  · rw [hother]; exact id

/-- A READY slot in the place of a LOADING one, with no switch pending, in an ACTIVE stream. -/
theorem OutStream.legal.readySlot {a : SlotNo} (ha : st.state = .active a) {sl : OutSlot} (hsl : sl.legal)
    (hready : sl.state = .ready) :
    ({ st with slots := putAt st.slots k sl, pendingSwitch := none } : OutStream).legal := by
  obtain ⟨hlegal, hactive, -, -, -⟩ := id h
  have hne : a ≠ k := fun e => nomatch hk.symm.trans ((hactive k).2 (e ▸ ha))
  refine ⟨(forall_slot_iff k).2 ⟨?_, ?_⟩, (forall_slot_iff k).2 ⟨?_, ?_⟩, fun _ _ => ⟨a, ha⟩, fun hu => ?_, nofun⟩
  · rw [get_putAt_self]; exact hsl
  · rw [get_putAt_ne _ _ (otherSlot_ne k)]; exact hlegal _
  · rw [get_putAt_self, hready]
    exact ⟨nofun, fun e => absurd (OutState.active.inj (ha.symm.trans e)) hne⟩
  · rw [get_putAt_ne _ _ (otherSlot_ne k)]; exact hactive _
  · exact nomatch ha.symm.trans hu

/-- A loaded slot is acted on by its stream (R21, R22). -/
theorem OutStream.legal.endsLoad_readied {sl : OutSlot} (hsl : sl.legal) (hready : sl.state = .ready)
    (hflight : sl.inFlight = 0) :
    st.EndsLoad k (({ st with slots := putAt st.slots k sl } : OutStream).readied k) := by
  obtain ⟨hlegal, hactive, hreadySlot, hunused, hswitch⟩ := id h
  have hcount := h.inFlight_of_loading hk
  have hfirst : (∀ a, st.state ≠ .active a) → st.EndsLoad k
      { st with state := .active k, slots := putAt st.slots k { sl with state := .active } } := by
    intro hnot
    refine ⟨⟨(forall_slot_iff k).2 ⟨?_, ?_⟩, (forall_slot_iff k).2 ⟨?_, ?_⟩, fun _ _ => ⟨k, rfl⟩, nofun,
      fun m hm => ?_⟩, (forall_slot_iff k).2 ⟨?_, ?_⟩, (forall_slot_iff k).2 ⟨fun hne => absurd rfl hne, fun _ => ?_⟩⟩
    · rw [get_putAt_self]; exact hsl.activated hready
    · rw [get_putAt_ne _ _ (otherSlot_ne k)]; exact hlegal _
    · rw [get_putAt_self]; exact iff_of_true rfl rfl
    · rw [get_putAt_ne _ _ (otherSlot_ne k), hactive]
      exact iff_of_false (hnot _) fun e => ne_otherSlot k (OutState.active.inj e)
    · obtain ⟨a, ha, -⟩ := hswitch m hm
      exact absurd ha (hnot a)
    · rw [get_putAt_self, hcount]; exact hflight
    · rw [get_putAt_ne _ _ (otherSlot_ne k)]
    · rw [get_putAt_ne _ _ (otherSlot_ne k)]; exact id
  unfold OutStream.readied
  dsimp only
  cases hstate : st.state with
  | unused => exact nomatch hk.symm.trans (hunused hstate k)
  | opened =>
    simp only [get_putAt_self, putAt_putAt]
    exact hfirst (by rw [hstate]; exact nofun)
  | stalled =>
    simp only [get_putAt_self, putAt_putAt]
    exact hfirst (by rw [hstate]; exact nofun)
  | active a =>
    have hne : a ≠ k := fun e => nomatch hk.symm.trans ((hactive k).2 (e ▸ hstate))
    have hka : k = otherSlot a := eq_otherSlot_of_ne hne.symm
    have hplaced := h.readySlot hk hstate hsl hready
    dsimp only
    have hends : ∀ st', ({ st with slots := putAt st.slots k sl, pendingSwitch := none } : OutStream).Keeps st' →
        st.EndsLoad k st' := by
      intro st' hkeeps
      refine ⟨hkeeps.legal, (forall_slot_iff k).2 ⟨?_, ?_⟩,
        (forall_slot_iff k).2 ⟨fun hne => absurd rfl hne, fun _ hl => hkeeps.loading _ ?_⟩⟩
      · rw [hkeeps.inFlight, get_putAt_self, hcount, hflight]
      · rw [hkeeps.inFlight, get_putAt_ne _ _ (otherSlot_ne k)]
      · rw [get_putAt_ne _ _ (otherSlot_ne k)]; exact hl
    split
    · refine hends _ (hplaced.keeps_switched hstate ?_)
      rw [← hka, get_putAt_self]
      exact hready
    next hnot =>
      have hnone : st.pendingSwitch = none := by
        cases hp : st.pendingSwitch with
        | none => rfl
        | some m =>
          obtain ⟨b, hb, hm, -⟩ := hswitch m hp
          cases hstate.symm.trans hb
          exact absurd (hp.trans (by rw [hm, ← hka])) hnot
      refine hends _ ⟨?_, fun _ => rfl, fun _ => id⟩
      rw [← hnone, hstate] at hplaced
      exact hplaced

end StreamLoad

/-- A slot in the place of a LOADING one that is not ACTIVE and has nothing in flight. -/
theorem InStream.legal.endsLoad {st : InStream} (h : st.legal) {k : SlotNo} (hk : (st.slots.get k).state = .loading)
    {sl : InSlot} (hsl : sl.legal st.window st.grace) (hactive : sl.state ≠ .active) (hflight : sl.inFlight = 0) :
    st.EndsLoad k { st with slots := putAt st.slots k sl } := by
  obtain ⟨hwindow, hgrace, hlegal, hone, hunused⟩ := id h
  refine ⟨⟨hwindow, hgrace, (forall_slot_iff k).2 ⟨?_, ?_⟩, (forall_slot_iff k).2 ⟨fun hs => ?_, fun _ => ?_⟩,
    fun hu => ?_⟩, (forall_slot_iff k).2 ⟨?_, ?_⟩, (forall_slot_iff k).2 ⟨fun hne => absurd rfl hne, fun _ => ?_⟩⟩
  · rw [get_putAt_self]; exact hsl
  · rw [get_putAt_ne _ _ (otherSlot_ne k)]; exact hlegal _
  · rw [get_putAt_self] at hs; exact absurd hs hactive
  · rw [otherSlot_otherSlot, get_putAt_self]; exact hactive
  · exact nomatch hk.symm.trans (hunused hu k)
  · rw [get_putAt_self, hflight, (h.slot k).of_loading hk]; rfl
  · rw [get_putAt_ne _ _ (otherSlot_ne k)]
  · rw [get_putAt_ne _ _ (otherSlot_ne k)]; exact id

/-! ### The end of the head job (R19 to R23, R25) -/

theorem OutSlot.legal_loaded {x : Secret} {initial soft hard : Nat} (kind : LifetimeKind) (limit warning : Nat)
    (hone : 1 ≤ initial) (hinitial : initial ≤ soft) (hsoft : soft ≤ hard) (hhard : hard ≤ Config.maxFn) :
    (OutSlot.loaded x initial soft hard kind limit warning).legal :=
  ⟨nofun, rfl, hone, hinitial, hsoft, hhard, le_refl _, hinitial.trans hsoft⟩

theorem InSlot.legal_loaded {x : Secret} {lower : Nat} (hone : 1 ≤ lower) (hmost : lower ≤ Config.maxFn) (w g : Nat) :
    (InSlot.loaded x lower).legal w g :=
  ⟨nofun, ⟨hone, hmost, le_refl _, fun _ _ => by simp [InSlot.loaded]⟩, rfl, rfl, rfl⟩

/-- What the end of a job does to its slot and to the stream: dropped, or installed and acted on. -/
theorem endJob_cases (j : Job) (r : LoadResult) (secret : Option Secret) (s : State) :
    (∃ x, endJob j r secret s = installLoad j x s) ∨
      (∃ r', endJob j r secret s = dropPending j (emptyLoading j r' s)) ∨
        ∃ r' k m, endJob j r secret s = raise k m (dropPending j (emptyLoading j r' s)) := by
  unfold endJob failLoad
  split
  · exact .inl ⟨_, rfl⟩
  · exact .inr (.inl ⟨_, rfl⟩)
  · exact .inr (.inr ⟨_, _, _, rfl⟩)

/-- A LOADING slot of an outbound stream emptied and its stream's pending switch dropped, as one update. -/
theorem dropPending_emptyLoading_out {j : Job} (hdir : j.range.dir = .out) (r : LoadResult) (s : State) :
    dropPending j (emptyLoading j r s) = s.modOut j.stream (OutStream.loadDropped j.slot r) := by
  unfold dropPending emptyLoading
  rw [hdir]
  dsimp only
  rw [State.modOutSlot, State.modOut_modOut]
  rfl

theorem dropPending_emptyLoading_inn {j : Job} (hdir : j.range.dir = .inn) (r : LoadResult) (s : State) :
    dropPending j (emptyLoading j r s) =
      s.modIn j.stream fun st => { st with slots := putAt st.slots j.slot (InSlot.empty r) } := by
  unfold dropPending emptyLoading
  rw [hdir]
  rfl

section JobEnds

variable {gone : List Item} {s : State} (hs : s.slotsCounted gone) {j : Job} (hj : j ∈ s.keyUnit.jobs)
include hs hj

theorem State.slotsCounted.outSlot_loading (hdir : j.range.dir = .out) :
    (s.outSlot j.stream j.slot).state = .loading := by
  have hlegal := hs.1.2.2.2.1 j hj
  unfold Job.legal at hlegal
  cases hrange : j.range <;> simp only [hrange, LoadRange.dir] at hlegal hdir
  · exact hlegal.1
  · cases hdir

theorem State.slotsCounted.inSlot_loading (hdir : j.range.dir = .inn) :
    (s.inSlot j.stream j.slot).state = .loading := by
  have hlegal := hs.1.2.2.2.1 j hj
  unfold Job.legal at hlegal
  cases hrange : j.range <;> simp only [hrange, LoadRange.dir] at hlegal hdir
  · cases hdir
  · exact hlegal.1

/-- A state with the job's slot emptied, a pending switch to it dropped and its job gone. -/
theorem State.slotsCounted.of_dropped {t : State} (r : LoadResult)
    (houts : t.outs = (dropPending j (emptyLoading j r s)).outs)
    (hins : t.ins = (dropPending j (emptyLoading j r s)).ins) (hlinks : t.links = s.links)
    (hsub : t.keyUnit.jobs.Sublist s.keyUnit.jobs) (hgone : ∀ j' ∈ t.keyUnit.jobs, j'.target ≠ j.target) :
    t.slotsCounted gone := by
  cases hdir : j.range.dir with
  | out =>
    rw [dropPending_emptyLoading_out hdir] at houts hins
    refine hs.of_outLoadEnds (i := j.stream) (k := j.slot) hlinks hsub hins (fun i => ?_)
      (fun h => h.endsLoad_dropped (hs.outSlot_loading hj hdir) r) (by simpa only [Job.target, hdir] using hgone)
    rw [State.outStream, houts]
    exact outStream_modOut _ _ _ s
  | inn =>
    rw [dropPending_emptyLoading_inn hdir] at houts hins
    refine hs.of_inLoadEnds (i := j.stream) (k := j.slot) hlinks hsub houts (fun i => ?_)
      (fun h => h.endsLoad (hs.inSlot_loading hj hdir) (InSlot.legal_empty r _ _) nofun rfl)
      (by simpa only [Job.target, hdir] using hgone)
    rw [State.inStream, hins]
    exact inStream_modIn _ _ _ s

/-- A state with the job's load installed and its job gone. -/
theorem State.slotsCounted.of_installed {t : State} (x : Secret) (houts : t.outs = (installLoad j x s).outs)
    (hins : t.ins = (installLoad j x s).ins) (hlinks : t.links = s.links)
    (hsub : t.keyUnit.jobs.Sublist s.keyUnit.jobs) (hgone : ∀ j' ∈ t.keyUnit.jobs, j'.target ≠ j.target) :
    t.slotsCounted gone := by
  have hlegal := hs.1.2.2.2.1 j hj
  unfold Job.legal at hlegal
  unfold installLoad at houts hins
  cases hrange : j.range with
  | out initial soft hard kind limit warning =>
    simp only [hrange] at hlegal houts hins
    obtain ⟨hloading, hone, hinitial, hsoft, hhard⟩ := hlegal
    have hready := OutSlot.legal_loaded (x := x) kind limit warning hone hinitial hsoft hhard
    refine hs.of_outLoadEnds (i := j.stream) (k := j.slot) hlinks hsub ?_ (fun i => ?_)
      (fun h => h.endsLoad_readied hloading hready rfl rfl)
      (by simpa only [Job.target, hrange, LoadRange.dir] using hgone)
    · obtain ⟨o, n, h⟩ := outSlotReady_touches j.stream j.slot
        (raise .keyReady (.outStream j.stream)
          (s.modOutSlot j.stream j.slot fun _ => OutSlot.loaded x initial soft hard kind limit warning))
      rw [hins, h]
      rfl
    · rw [State.outStream, houts]
      change State.outStream _ i = _
      rw [outSlotReady_outStream, raise_outStream, raise_outStream, State.modOutSlot, outStream_modOut_self]
      split
      · rfl
      next hne => exact (outStream_modOut _ _ _ s).trans (if_neg hne)
  | inn lower =>
    simp only [hrange] at hlegal houts hins
    obtain ⟨hloading, hone, hmost⟩ := hlegal
    refine hs.of_inLoadEnds (i := j.stream) (k := j.slot) hlinks hsub houts (fun i => ?_)
      (fun h => h.endsLoad hloading (InSlot.legal_loaded (x := x) hone hmost _ _) nofun rfl)
     
      (by simpa only [Job.target, hrange, LoadRange.dir] using hgone)
    rw [State.inStream, hins]
    exact inStream_modIn j.stream i (fun st => { st with slots := putAt st.slots j.slot (InSlot.loaded x lower) }) s

end JobEnds

theorem removeHeadJob_eq (s : State) :
    ∃ a, removeHeadJob s = { s with keyUnit := { jobs := s.keyUnit.jobs.tail, working := none }, arbiter := a } := by
  unfold removeHeadJob
  dsimp only
  split
  · exact ⟨s.arbiter, rfl⟩
  · exact ⟨_, rfl⟩

/-- The head job ends and leaves the queue. -/
theorem State.slotsCounted.after_headEnds {gone : List Item} {s : State} (hs : s.slotsCounted gone) {j : Job}
    {rest : List Job} (hjobs : s.keyUnit.jobs = j :: rest) (r : LoadResult) (secret : Option Secret) :
    (removeHeadJob (endJob j r secret s)).slotsCounted gone := by
  obtain ⟨a, hremoved⟩ := removeHeadJob_eq (endJob j r secret s)
  obtain ⟨o, i, n, htouches⟩ := endJob_touches j r secret s
  have hqueue : (removeHeadJob (endJob j r secret s)).keyUnit.jobs = rest := by
    rw [hremoved, htouches]
    exact (congrArg List.tail hjobs).trans rfl
  have hmem : j ∈ s.keyUnit.jobs := by rw [hjobs]; exact List.mem_cons_self
  have hlinks : (removeHeadJob (endJob j r secret s)).links = s.links := by rw [hremoved, htouches]
  have hsub : (removeHeadJob (endJob j r secret s)).keyUnit.jobs.Sublist s.keyUnit.jobs := by
    rw [hqueue, hjobs]
    exact List.sublist_cons_self j rest
  have hgone : ∀ j' ∈ (removeHeadJob (endJob j r secret s)).keyUnit.jobs, j'.target ≠ j.target := by
    obtain ⟨-, -, -, -, hnodup⟩ := hs.1
    rw [hjobs, List.map_cons, List.nodup_cons] at hnodup
    rw [hqueue]
    exact fun j' hj' he => hnodup.1 (he ▸ List.mem_map_of_mem hj')
  have houts : (removeHeadJob (endJob j r secret s)).outs = (endJob j r secret s).outs := by rw [hremoved]
  have hins : (removeHeadJob (endJob j r secret s)).ins = (endJob j r secret s).ins := by rw [hremoved]
  obtain ⟨x, h⟩ | ⟨r', h⟩ | ⟨r', k, m, h⟩ := endJob_cases j r secret s
  · exact hs.of_installed hmem x (houts.trans (by rw [h])) (hins.trans (by rw [h])) hlinks hsub hgone
  · exact hs.of_dropped hmem r' (houts.trans (by rw [h])) (hins.trans (by rw [h])) hlinks hsub hgone
  · exact hs.of_dropped hmem r' (houts.trans (by rw [h]; rfl)) (hins.trans (by rw [h]; rfl)) hlinks hsub hgone

theorem State.slotsCounted.after_grantKeyUnit {gone : List Item} {s : State} (hs : s.slotsCounted gone) (n : LaneNo) :
    (grantKeyUnit n s).slotsCounted gone := by
  unfold grantKeyUnit
  split
  · exact hs
  next j rest hjobs =>
    split
    · exact hs.of_same rfl rfl rfl rfl
    · exact hs.after_headEnds hjobs _ _

theorem State.slotsCounted.after_completeJob {gone : List Item} {s : State} (hs : s.slotsCounted gone) (n : LaneNo)
    {j : Job} {rest : List Job} (hjobs : s.keyUnit.jobs = j :: rest) : (completeJob n j s).slotsCounted gone := by
  unfold completeJob
  split
  · have hfree : (s.setLane n .free).slotsCounted gone := hs.of_same rfl rfl rfl rfl
    exact hfree.after_headEnds hjobs _ _
  · exact hs

end Sys2Proof.Machine
end

section
/-! SUPPORT. Every request and every command keeps the rules of streams, slots and jobs and the in-flight counts. -/

namespace Sys2Proof.Machine

/-! ### STREAM_OPEN and STREAM_CLOSE (R5, R7) -/

/-- An UNUSED outbound stream becomes OPEN, its slots EMPTY as they were. -/
theorem OutStream.legal.keeps_openedWith {st : OutStream} (h : st.legal) (hunused : st.state = .unused) (l : LinkNo)
    (streamId : Nat) (auto : Bool) : st.Keeps (st.openedWith l streamId auto) := by
  obtain ⟨hlegal, -, -, hempty, -⟩ := h
  refine ⟨⟨hlegal, fun k => ?_, fun k hk => ?_, nofun, nofun⟩, fun _ => rfl, fun _ => id⟩
  · rw [show (st.openedWith l streamId auto).slots = st.slots from rfl, hempty hunused k]
    exact iff_of_false nofun nofun
  · exact nomatch (hempty hunused k).symm.trans hk

theorem InStream.legal.keeps_openedWith {st : InStream} (h : st.legal) (hunused : st.isOpen = false) (l : LinkNo)
    (streamId : Nat) {w grace : Nat} (threshold : Nat) (hw : w ≤ 64) (hgrace : grace ≤ 10000) :
    st.Keeps (st.openedWith l streamId w grace threshold) := by
  obtain ⟨-, -, hlegal, hactive, hempty⟩ := h
  refine ⟨⟨hw, hgrace, fun k => ?_, hactive, nofun⟩, fun _ => rfl, fun _ => id⟩
  change (st.slots.get k).legal w grace
  rw [(hlegal k).of_empty (hempty hunused k)]
  exact InSlot.legal_empty _ w grace

/-- A stream is closed with nothing in flight and no slot LOADING. -/
theorem OutStream.legal.keeps_closed {st : OutStream}
    (hidle : ∀ k, (st.slots.get k).inFlight = 0 ∧ (st.slots.get k).state ≠ .loading) : st.Keeps st.closed := by
  have hslot : ∀ k, st.closed.slots.get k = OutSlot.empty (st.slots.get k).lastLoad := fun k => get_mapTable _ _ k
  refine ⟨⟨fun k => ?_, fun k => ?_, fun k hk => ?_, fun _ k => ?_, nofun⟩, fun k => ?_,
    fun k hk => absurd hk (hidle k).2⟩
  · rw [hslot]; exact OutSlot.legal_empty _
  · rw [hslot]; exact iff_of_false nofun nofun
  · rw [hslot] at hk; exact nomatch hk
  · rw [hslot]; rfl
  · rw [hslot, (hidle k).1]; rfl

theorem InStream.legal.keeps_closed {st : InStream}
    (hidle : ∀ k, (st.slots.get k).inFlight = 0 ∧ (st.slots.get k).state ≠ .loading) : st.Keeps st.closed := by
  have hslot : ∀ k, st.closed.slots.get k = InSlot.empty (st.slots.get k).lastLoad := fun k => get_mapTable _ _ k
  refine ⟨⟨Nat.zero_le _, Nat.zero_le _, fun k => ?_, fun k hk => ?_, fun _ k => ?_⟩, fun k => ?_,
    fun k hk => absurd hk (hidle k).2⟩
  · rw [hslot]; exact InSlot.legal_empty _ _ _
  · rw [hslot] at hk; exact nomatch hk
  · rw [hslot]; rfl
  · rw [hslot, (hidle k).1]; rfl

section Streams

variable {gone : List Item} {s : State} (hs : s.slotsCounted gone)
include hs

theorem State.slotsCounted.after_openStream {ps : List Byte} (hpass : firstFailing (streamOpenChecks ps s) = none) :
    (openStream ps s).slotsCounted gone := by
  simp only [streamOpenChecks, firstFailing_cons_eq_none_iff, Bool.and_eq_false_iff, decide_eq_false_iff_not,
    Bool.not_eq_false', not_lt, dirBad] at hpass
  obtain ⟨hdir, -, -, hwindow, hgrace, -, hunused, -⟩ := hpass
  unfold openStream
  split
  next hout =>
    rw [hout] at hunused
    exact hs.modOut fun h => h.keeps_openedWith (of_decide_eq_true hunused) _ _ _
  next hin =>
    have hone : byteAt ps 0 = 1 := by
      have hne : byteAt ps 0 ≠ 0 := fun h => by simp [dirAt, h] at hin
      omega
    rw [hin] at hunused
    have hclosed : (s.inStream (streamAt ps 1)).isOpen = false := by simpa [streamUnused] using hunused
    exact hs.modIn fun h => h.keeps_openedWith hclosed _ _ _ (hwindow.resolve_left (not_not.2 hone))
      (hgrace.resolve_left (not_not.2 hone))

theorem State.slotsCounted.after_closeStream {d : Dir} {i : StreamNo} (hbusy : streamBusy s d i = false) :
    (closeStream d i s).slotsCounted gone := by
  cases d with
  | out =>
    have hclosed : (s.modOut i OutStream.closed).slotsCounted gone := by
      refine hs.modOut fun _ => OutStream.legal.keeps_closed fun k => ?_
      have hk := List.any_eq_false.1 hbusy _ (mem_toList_iff.2 ⟨k, rfl⟩)
      simp only [Bool.or_eq_true, decide_eq_true_eq, beq_iff_eq, not_or, Nat.pos_iff_ne_zero, not_not] at hk
      exact hk.1
    exact .ite (fun _ => hclosed.raised _ _) (fun _ => hclosed)
  | inn =>
    have hclosed : (s.modIn i InStream.closed).slotsCounted gone := by
      refine hs.modIn fun _ => InStream.legal.keeps_closed fun k => ?_
      have hk := List.any_eq_false.1 hbusy _ (mem_toList_iff.2 ⟨k, rfl⟩)
      simp only [Bool.or_eq_true, decide_eq_true_eq, beq_iff_eq, not_or, Nat.pos_iff_ne_zero, not_not] at hk
      exact hk.1
    exact .ite (fun _ => hclosed.raised _ _) (fun _ => hclosed)

end Streams

/-! ### KEY_LOAD (R17, R18) -/

section Begins

/-- An EMPTY slot of an outbound stream in use becomes LOADING. -/
theorem OutStream.legal.keeps_begun {st : OutStream} (h : st.legal) {k : SlotNo} (hopen : st.state ≠ .unused)
    (hk : (st.slots.get k).state = .empty) :
    st.Keeps { st with slots := putAt st.slots k { st.slots.get k with state := .loading, lastLoad := .none } } := by
  obtain ⟨hlegal, hactive, hready, -, hswitch⟩ := id h
  refine ⟨⟨(forall_slot_iff k).2 ⟨?_, ?_⟩, (forall_slot_iff k).2 ⟨?_, ?_⟩, (forall_slot_iff k).2 ⟨?_, ?_⟩,
    fun hu => absurd hu hopen, fun m hm => ?_⟩, (forall_slot_iff k).2 ⟨?_, ?_⟩, (forall_slot_iff k).2 ⟨?_, ?_⟩⟩
  · rw [get_putAt_self, (hlegal k).of_empty hk]; rfl
  · rw [get_putAt_ne _ _ (otherSlot_ne k)]; exact hlegal _
  · rw [get_putAt_self]
    exact iff_of_false nofun fun ha => nomatch hk.symm.trans ((hactive k).2 ha)
  · rw [get_putAt_ne _ _ (otherSlot_ne k)]; exact hactive _
  · rw [get_putAt_self]; nofun
  · rw [get_putAt_ne _ _ (otherSlot_ne k)]; exact hready _
  · obtain ⟨a, ha, hma, hloading⟩ := hswitch m hm
    have hne : m ≠ k := by rintro rfl; exact nomatch hk.symm.trans hloading
    exact ⟨a, ha, hma, by rw [get_putAt_ne _ _ hne]; exact hloading⟩
  · rw [get_putAt_self]
  · rw [get_putAt_ne _ _ (otherSlot_ne k)]
  · rw [get_putAt_self]; exact fun _ => rfl
  · rw [get_putAt_ne _ _ (otherSlot_ne k)]; exact id

/-- An EMPTY slot of an open inbound stream becomes LOADING. -/
theorem InStream.legal.keeps_begun {st : InStream} (h : st.legal) {k : SlotNo} (hopen : st.isOpen = true)
    (hk : (st.slots.get k).state = .empty) :
    st.Keeps { st with slots := putAt st.slots k { st.slots.get k with state := .loading, lastLoad := .none } } := by
  obtain ⟨hwindow, hgrace, hlegal, hactive, -⟩ := id h
  refine ⟨⟨hwindow, hgrace, (forall_slot_iff k).2 ⟨?_, ?_⟩, (forall_slot_iff k).2 ⟨?_, fun _ => ?_⟩,
    fun hu => nomatch hopen.symm.trans hu⟩, (forall_slot_iff k).2 ⟨?_, ?_⟩, (forall_slot_iff k).2 ⟨?_, ?_⟩⟩
  · rw [get_putAt_self, (hlegal k).of_empty hk]; rfl
  · rw [get_putAt_ne _ _ (otherSlot_ne k)]; exact hlegal _
  · rw [get_putAt_self]; nofun
  · rw [otherSlot_otherSlot, get_putAt_self]; nofun
  · rw [get_putAt_self]
  · rw [get_putAt_ne _ _ (otherSlot_ne k)]
  · rw [get_putAt_self]; exact fun _ => rfl
  · rw [get_putAt_ne _ _ (otherSlot_ne k)]; exact id

theorem appendJob_touches (j : Job) (s : State) :
    ∃ a, appendJob j s = { s with keyUnit := { s.keyUnit with jobs := s.keyUnit.jobs ++ [j] }, arbiter := a } := by
  unfold appendJob
  dsimp only
  split
  · exact ⟨_, rfl⟩
  · exact ⟨s.arbiter, rfl⟩

/-- The queue after a job on a slot that was EMPTY has joined it. -/
theorem State.slotsCounted.of_begun {gone : List Item} {s t : State} (ht : t.slotsCounted gone) {j : Job} {u : KeyUnit}
    {a : Arbiter} (hu : u.jobs = t.keyUnit.jobs ++ [j]) (hlen : t.keyUnit.jobs.length < Config.loadQueueDepth)
    (hj : j.legal t) (hnew : j.target ∉ t.keyUnit.jobs.map Job.target)
    (hs : s = { t with keyUnit := u, arbiter := a }) : s.slotsCounted gone := by
  subst hs
  obtain ⟨⟨houts, hins, -, hjobs, hnodup⟩, hout, hin⟩ := ht
  refine ⟨⟨houts, hins, ?_, fun j' hj' => ?_, ?_⟩, hout, hin⟩
  · show u.jobs.length ≤ _
    rw [hu, List.length_append]
    exact hlen
  · change j' ∈ u.jobs at hj'
    rw [hu, List.mem_append, List.mem_singleton] at hj'
    rcases hj' with hj' | rfl
    · exact (hjobs j' hj').transfer (fun _ => id) (fun _ => id)
    · exact hj.transfer (fun _ => id) (fun _ => id)
  · show (u.jobs.map Job.target).Nodup
    rw [hu, List.map_append, List.nodup_append]
    refine ⟨hnodup, List.nodup_singleton _, fun x hx y hy => ?_⟩
    rw [List.map_singleton, List.mem_singleton] at hy
    exact fun e => hnew (hy ▸ e ▸ hx)

variable {gone : List Item} {s : State} (hs : s.slotsCounted gone)
include hs

/-- A slot that is EMPTY has no job. -/
theorem State.slotsCounted.target_not_mem {j : Job}
    (hout : j.range.dir = .out → (s.outSlot j.stream j.slot).state = .empty)
    (hin : j.range.dir = .inn → (s.inSlot j.stream j.slot).state = .empty) :
    j.target ∉ s.keyUnit.jobs.map Job.target := by
  rintro hmem
  obtain ⟨j', hj', htarget⟩ := List.mem_map.1 hmem
  obtain ⟨hdir, hstream, hslot⟩ : j'.range.dir = j.range.dir ∧ j'.stream = j.stream ∧ j'.slot = j.slot := by
    simpa only [Job.target, Prod.mk.injEq] using htarget
  cases h : j.range.dir with
  | out =>
    have hloading := hs.outSlot_loading hj' (hdir.trans h)
    rw [hstream, hslot, hout h] at hloading
    cases hloading
  | inn =>
    have hloading := hs.inSlot_loading hj' (hdir.trans h)
    rw [hstream, hslot, hin h] at hloading
    cases hloading

theorem State.slotsCounted.after_startLoad {j : Job} (hlen : s.keyUnit.jobs.length < Config.loadQueueDepth)
    (hout : j.range.dir = .out → (s.outStream j.stream).state ≠ .unused ∧ (s.outSlot j.stream j.slot).state = .empty)
    (hin : j.range.dir = .inn → (s.inStream j.stream).isOpen = true ∧ (s.inSlot j.stream j.slot).state = .empty)
    (hfn : j.range.fnBad = false) (hmost : ∀ lower, j.range = .inn lower → lower ≤ Config.maxFn) :
    (beginLoading j (appendJob j s)).slotsCounted gone := by
  have hnew := hs.target_not_mem (fun h => (hout h).2) (fun h => (hin h).2)
  obtain ⟨a, happended⟩ := appendJob_touches j s
  rw [happended, beginLoading]
  cases hrange : j.range with
  | out initial soft hard kind limit warning =>
    have hdir : j.range.dir = .out := by rw [hrange]; rfl
    obtain ⟨hopen, hempty⟩ := hout hdir
    have hbegun : (s.modOutSlot j.stream j.slot fun sl =>
        { sl with state := .loading, lastLoad := .none }).slotsCounted gone :=
      hs.modOut fun h => h.keeps_begun hopen hempty
    refine hbegun.of_begun rfl hlen ?_ hnew rfl
    unfold Job.legal
    simp only [hrange, outSlot_modOutSlot_self, true_and]
    simpa [hrange, LoadRange.fnBad, and_assoc] using hfn
  | inn lower =>
    have hdir : j.range.dir = .inn := by rw [hrange]; rfl
    obtain ⟨hopen, hempty⟩ := hin hdir
    have hbegun : (s.modInSlot j.stream j.slot fun sl =>
        { sl with state := .loading, lastLoad := .none }).slotsCounted gone :=
      hs.modIn fun h => h.keeps_begun hopen hempty
    refine hbegun.of_begun rfl hlen ?_ hnew rfl
    unfold Job.legal
    simp only [hrange, inSlot_modInSlot_self, true_and]
    refine ⟨?_, hmost lower hrange⟩
    simpa [hrange, LoadRange.fnBad, Nat.one_le_iff_ne_zero] using hfn

end Begins

theorem dir_loadRangeOf (ps : List Byte) : (loadRangeOf ps).dir = dirAt ps 0 := by
  unfold loadRangeOf
  cases dirAt ps 0 <;> rfl

theorem State.slotsCounted.after_keyLoad {gone : List Item} {s : State} (hs : s.slotsCounted gone) {ps : List Byte}
    (hpass : firstFailing (keyLoadChecks ps s) = none) :
    (beginLoading (jobOf ps) (appendJob (jobOf ps) s)).slotsCounted gone := by
  simp only [keyLoadChecks, firstFailing_cons_eq_none_iff, decide_eq_false_iff_not, not_le] at hpass
  obtain ⟨-, -, -, hfn, -, hopen, hempty, -, hlen, -⟩ := hpass
  have hdir : (jobOf ps).range.dir = dirAt ps 0 := dir_loadRangeOf ps
  refine hs.after_startLoad hlen (fun h => ?_) (fun h => ?_) hfn (fun lower h => ?_)
  · rw [hdir] at h
    simp only [h, streamUnused, slotTaken, decide_eq_false_iff_not, not_not] at hopen hempty
    exact ⟨hopen, hempty⟩
  · rw [hdir] at h
    simp only [h, streamUnused, slotTaken, decide_eq_false_iff_not, not_not, Bool.not_eq_false'] at hopen hempty
    exact ⟨hopen, hempty⟩
  · have hlower : lower = numAt ps 71 6 := by
      change loadRangeOf ps = _ at h
      unfold loadRangeOf at h
      split at h
      · cases h
      · exact (LoadRange.inn.inj h).symm
    have hlt := numAt_lt ps 71 6
    rw [hlower]
    exact Nat.le_sub_one_of_lt (by simpa using hlt)

/-! ### KEY_RETIRE (R25, R26) -/

theorem Job.loads_iff {j : Job} {d : Dir} {i : StreamNo} {k : SlotNo} :
    j.loads d i k = true ↔ j.target = (d, i, k) := by
  simp [Job.loads, Job.target, and_assoc]

theorem removeJob_eq (d : Dir) (i : StreamNo) (k : SlotNo) (s : State) :
    ∃ a, removeJob d i k s =
      { s with keyUnit := { s.keyUnit with jobs := s.keyUnit.jobs.filter fun j => !j.loads d i k }, arbiter := a } := by
  unfold removeJob
  dsimp only
  split
  · exact ⟨_, rfl⟩
  · exact ⟨s.arbiter, rfl⟩

theorem target_ne_of_mem_filter {jobs : List Job} {d : Dir} {i : StreamNo} {k : SlotNo} {j : Job}
    (hj : j ∈ jobs.filter fun j => !j.loads d i k) : j.target ≠ (d, i, k) := by
  obtain ⟨-, hnot⟩ := List.mem_filter.1 hj
  rw [Bool.not_eq_true', ← Bool.not_eq_true, Job.loads_iff] at hnot
  exact hnot

section Retire

variable {gone : List Item} {s : State} (hs : s.slotsCounted gone)
include hs

/-- Jobs marked cancelled load what they loaded. -/
theorem State.slotsCounted.after_markCancelled (d : Dir) (i : StreamNo) (k : SlotNo) :
    (markCancelled d i k s).slotsCounted gone := by
  obtain ⟨⟨houts, hins, hlen, hjobs, hnodup⟩, hout, hin⟩ := hs
  let mark : Job → Job := fun j => if j.loads d i k then { j with cancelled := true } else j
  have hmark : (markCancelled d i k s).keyUnit.jobs = s.keyUnit.jobs.map mark := rfl
  have htarget : ∀ j, (mark j).target = j.target := fun j => by
    dsimp only [mark]
    split <;> rfl
  have hlegal : ∀ j, Job.legal (markCancelled d i k s) (mark j) ↔ Job.legal s j := fun j => by
    dsimp only [mark]
    split <;> exact Iff.rfl
  refine ⟨⟨houts, hins, ?_, fun j hj => ?_, ?_⟩, hout, hin⟩
  · rw [hmark, List.length_map]; exact hlen
  · rw [hmark] at hj
    obtain ⟨j', hj', rfl⟩ := List.mem_map.1 hj
    exact (hlegal j').2 (hjobs j' hj')
  · rw [hmark, List.map_map, show Job.target ∘ mark = Job.target from funext htarget]
    exact hnodup

theorem State.slotsCounted.after_clearPendingTo (i : StreamNo) (k : SlotNo) :
    (clearPendingTo i k s).slotsCounted gone := by
  refine hs.modOut_beside rfl (fun m hm => ?_) rfl
  change (if (s.outStream i).pendingSwitch = some k then none else (s.outStream i).pendingSwitch) = some m at hm
  split at hm
  · cases hm
  · exact hm

theorem State.slotsCounted.after_cancelOutLoad {i : StreamNo} {k : SlotNo} (hk : (s.outSlot i k).state = .loading) :
    (cancelOutLoad i k s).slotsCounted gone := by
  unfold cancelOutLoad
  split
  · exact (hs.after_markCancelled _ _ _).after_clearPendingTo i k
  · obtain ⟨a, hremoved⟩ := removeJob_eq .out i k s
    rw [hremoved, clearPendingTo, State.modOutSlot, State.modOut_modOut]
    exact hs.of_outLoadEnds (i := i) (k := k) (st := (s.outStream i).loadDropped k .cancelled) rfl List.filter_sublist rfl
      (fun j => outStream_modOut i j (OutStream.loadDropped k .cancelled) s) (fun h => h.endsLoad_dropped hk _)
      fun j hj => target_ne_of_mem_filter hj

theorem State.slotsCounted.after_cancelInLoad {i : StreamNo} {k : SlotNo} (hk : (s.inSlot i k).state = .loading) :
    (cancelInLoad i k s).slotsCounted gone := by
  unfold cancelInLoad
  split
  · exact hs.after_markCancelled _ _ _
  · obtain ⟨a, hremoved⟩ := removeJob_eq .inn i k s
    rw [hremoved]
    exact hs.of_inLoadEnds (i := i) (k := k) rfl List.filter_sublist rfl
      (fun j => inStream_modIn i j (fun st => { st with slots := putAt st.slots k (InSlot.empty .cancelled) }) s)
      (fun h => h.endsLoad hk (InSlot.legal_empty _ _ _) nofun rfl) fun j hj => target_ne_of_mem_filter hj

theorem State.slotsCounted.after_retireKey (d : Dir) (i : StreamNo) (k : SlotNo) :
    (retireKey d i k s).slotsCounted gone := by
  cases d with
  | out =>
    simp only [retireKey, retireOut]
    split
    next hk => exact hs.after_cancelOutLoad hk
    next hk => exact hs.after_leaveOutSlot hk
    next hk => exact hs.after_leaveActive (((hs.outStream i).active_iff k).1 hk)
    next => exact hs
    next => exact hs
  | inn =>
    simp only [retireKey, retireIn]
    split
    next hk => exact hs.after_cancelInLoad hk
    next hk => exact hs.after_leaveInSlot (by rw [hk]; rfl)
    next hk => exact hs.after_leaveInSlot (by rw [hk]; rfl)
    next hk => exact hs.after_leaveInSlot (by rw [hk]; rfl)
    next => exact hs
    next => exact hs

theorem State.slotsCounted.after_judgeSwitch (i : StreamNo) :
    answerLeaves (State.slotsCounted gone) (judgeSwitch i s) := by
  unfold judgeSwitch
  split
  · exact answerLeaves_refuse _ _
  · exact answerLeaves_refuse _ _
  · exact answerLeaves_refuse _ _
  next ha =>
    have hswitched := answerLeaves_done (hs.after_requestSwitch ha)
    split
    · exact hswitched
    · exact hswitched
    · exact answerLeaves_refuse _ _

/-! ### Other requests and events -/

theorem State.slotsCounted.after_zeroScope (scope : Nat) (l : LinkNo) (i : StreamNo) :
    (zeroScope scope l i s).slotsCounted gone := by
  unfold zeroScope
  split
  · exact hs.of_same rfl rfl rfl rfl
  · exact hs.modLink_beside rfl rfl
  · exact hs.modLink_beside rfl rfl
  · exact hs.modLink_beside rfl rfl
  · exact hs.modOut_beside rfl (fun _ => id) rfl
  · exact hs.modIn_beside rfl rfl rfl rfl

theorem State.slotsCounted.after_stopLink (l : LinkNo) (action : Nat) : (stopLink l action s).slotsCounted gone :=
  .ite (fun _ => hs.after_drainLink l _) (fun _ => hs.after_stopLinkNow l _)

theorem State.slotsCounted.after_setTime (seconds : Nat) : (setTime seconds s).slotsCounted gone := by
  have hset : State.slotsCounted gone
      { s with time := { s.time with seconds := seconds, micros := 0, valid := true } } := hs.of_same rfl rfl rfl rfl
  exact hset.after_triggersEvent _

theorem State.slotsCounted.after_noteChange (l : LinkNo) (side : Side) : (noteChange l side s).slotsCounted gone :=
  .ite (fun _ => hs.of_same rfl rfl rfl rfl) (fun _ => hs)

theorem State.slotsCounted.after_holdReset (kind : ResetKind) : (holdReset kind s).slotsCounted gone :=
  (hs.mapLinks (f := fun k => { k with rack := k.rack.stopped .lost, campus := k.campus.stopped .lost })
    fun _ => rfl).of_same rfl rfl rfl rfl

end Retire

/-! ### ALARM and resets (R32, R166, R171) -/

theorem OutStream.legal_of_empty {st : OutStream} (hslots : ∀ k, ∃ r, st.slots.get k = OutSlot.empty r)
    (hstate : ∀ k, st.state ≠ .active k) (hpending : st.pendingSwitch = none) : st.legal := by
  refine ⟨fun k => ?_, fun k => ?_, fun k hk => ?_, fun _ k => ?_, by rw [hpending]; nofun⟩ <;>
    obtain ⟨r, hr⟩ := hslots k
  · rw [hr]; exact OutSlot.legal_empty r
  · rw [hr]; exact iff_of_false nofun (hstate k)
  · rw [hr] at hk; cases hk
  · rw [hr]; rfl

theorem InStream.legal_of_empty {st : InStream} (hslots : ∀ k, ∃ r, st.slots.get k = InSlot.empty r)
    (hw : st.window ≤ 64) (hgrace : st.grace ≤ 10000) : st.legal := by
  refine ⟨hw, hgrace, fun k => ?_, fun k hk => ?_, fun _ k => ?_⟩ <;> obtain ⟨r, hr⟩ := hslots k
  · rw [hr]; exact InSlot.legal_empty r _ _
  · rw [hr] at hk; cases hk
  · rw [hr]; rfl

/-- Every slot EMPTY, every list and the load queue empty. -/
theorem State.slotsCounted_of_empty {s : State} (hout : ∀ i k, ∃ r, s.outSlot i k = OutSlot.empty r)
    (hin : ∀ i k, ∃ r, s.inSlot i k = InSlot.empty r) (hstate : ∀ i k, (s.outStream i).state ≠ .active k)
    (hpending : ∀ i, (s.outStream i).pendingSwitch = none)
    (hsettings : ∀ i, (s.inStream i).window ≤ 64 ∧ (s.inStream i).grace ≤ 10000)
    (hlists : ∀ l, (s.link l).items = []) (hjobs : s.keyUnit.jobs = []) : s.slotsCounted [] := by
  have hrefs : ∀ d i k, s.references d i k = 0 := fun d i k => by
    rw [references_eq_sum]
    exact Finset.sum_eq_zero fun l _ => by rw [hlists]; rfl
  refine ⟨⟨fun i => OutStream.legal_of_empty (hout i) (hstate i) (hpending i),
    fun i => InStream.legal_of_empty (hin i) (hsettings i).1 (hsettings i).2, by rw [hjobs]; exact Nat.zero_le _,
    by rw [hjobs]; nofun, by rw [hjobs]; exact List.nodup_nil⟩, fun i k => ?_, fun i k => ?_⟩
  · obtain ⟨r, hr⟩ := hout i k
    rw [hr, hrefs]; rfl
  · obtain ⟨r, hr⟩ := hin i k
    rw [hr, hrefs]; rfl

theorem State.slotsCounted.after_alarmEntry {s : State} (hs : s.slotsCounted []) (cause : AlarmCause) :
    (alarmEntry cause s).slotsCounted [] := by
  obtain ⟨n, h⟩ := alarmEntry_touches cause s
  have halarmed : (s.alarmed cause).slotsCounted [] := by
    refine State.slotsCounted_of_empty (fun i k => ?_) (fun i k => ?_) (fun i k => ?_) (fun i => ?_)
      (fun i => ?_) (fun l => ?_) rfl
    · exact ⟨_, (s.alarmed_outSlot cause i k).trans (OutSlot.alarmed_eq _)⟩
    · exact ⟨_, (s.alarmed_inSlot cause i k).trans (InSlot.alarmed_eq _)⟩
    · simp only [State.outStream, State.alarmed, get_mapTable, OutStream.alarmed]
      split <;> nofun
    · simp only [State.outStream, State.alarmed, get_mapTable, OutStream.alarmed]
    · obtain ⟨hwindow, hgrace, -⟩ := hs.inStream i
      simp only [State.inStream, State.alarmed, get_mapTable, InStream.alarmed]
      exact ⟨hwindow, hgrace⟩
    · simp only [State.link, State.alarmed, get_mapTable]
      rfl
  rw [h]
  exact halarmed.of_same rfl rfl rfl rfl

theorem slotsCounted_reset : State.reset.slotsCounted [] := by
  have hout : ∀ i, State.reset.outStream i = OutStream.reset := fun i => get_replicate _ i
  have hin : ∀ i, State.reset.inStream i = InStream.reset := fun i => get_replicate _ i
  refine State.slotsCounted_of_empty (fun i k => ⟨.none, ?_⟩) (fun i k => ⟨.none, ?_⟩) (fun i k => ?_) (fun i => ?_)
    (fun i => ?_) (fun l => ?_) rfl
  · rw [State.outSlot, hout]; exact get_replicate _ k
  · rw [State.inSlot, hin]; exact get_replicate _ k
  · rw [hout]; nofun
  · rw [hout]; rfl
  · rw [hin]; exact ⟨Nat.zero_le _, Nat.zero_le _⟩
  · rw [show State.reset.link l = Link.reset from get_replicate _ l]; rfl

theorem slotsCounted_released (kind : ResetKind) (address : BitVec 3) (rateHigh : Bool) (s : State) :
    (released kind address rateHigh s).slotsCounted [] :=
  slotsCounted_reset.of_same rfl rfl rfl rfl

theorem State.slotsCounted.after_completeSelfTest {s : State} (hs : s.slotsCounted []) (passed : BitVec 8) :
    (completeSelfTest passed s).slotsCounted [] := by
  unfold completeSelfTest
  extract_lets few pool noticed
  have hpool : pool.slotsCounted [] := hs.of_same rfl rfl rfl rfl
  have hnoticed : noticed.slotsCounted [] := .ite (fun _ => hpool) (fun _ => hpool.raised _ _)
  exact .ite (fun _ => hnoticed.of_same rfl rfl rfl rfl) fun _ =>
    .ite (fun _ => hnoticed.after_alarmEntry _) (fun _ => hnoticed.of_same rfl rfl rfl rfl)

theorem State.slotsCounted.after_tamperByMode {s : State} (hs : s.slotsCounted []) :
    (tamperByMode s).slotsCounted [] := by
  unfold tamperByMode
  split
  · exact hs.of_same rfl rfl rfl rfl
  · exact hs.after_alarmEntry _
  · exact hs
  · exact hs

/-! ### Every request -/

theorem requestTable_keepsSlots :
    ∀ r ∈ requestTable, ∀ (ps : List Byte) (s : State), s.slotsCounted [] →
      answerLeaves (State.slotsCounted []) (r.judge ps s) := by
  simp only [requestTable, List.forall_mem_append, List.forall_mem_cons]
  refine ⟨⟨⟨⟨⟨⟨?poll, ?identify, ?readStatus, ?readNotices, ?noticeSetup, ?readCounters, ?deviceSetup, nofun⟩,
    ?linkSetup, ?rampSet, ?linkStart, ?linkStop, ?readLink, ?readLinkChanges, nofun⟩,
    ?rulePut, ?ruleDrop, ?readRule, nofun⟩,
    ?streamOpen, ?streamClose, ?readStream, ?keyLoad, ?keyRetire, ?keySwitch, ?kwkLoad, ?kwkErase, nofun⟩,
    ?timeSet, ?timeTrim, ?timeRead, ?triggerArm, ?triggerCancel, ?triggerRelease, ?readTrigger, nofun⟩,
    ?restart, ?zeroize, ?alarmClear, ?readRetained, nofun⟩
  all_goals intro ps s hs
  case linkSetup | rampSet | linkStart => exact answerLeaves_checked (answerLeaves_done (hs.modLink_beside rfl rfl))
  case linkStop => exact answerLeaves_checked (answerLeaves_done (hs.after_stopLink _ _))
  case readCounters =>
    exact answerLeaves_checked (answerLeaves_data _ (.ite (fun _ => hs) (fun _ => hs.after_zeroScope _ _ _)))
  case streamOpen => exact answerLeaves_of_passes fun hpass => answerLeaves_done (hs.after_openStream hpass)
  case streamClose =>
    refine answerLeaves_of_passes fun hpass => answerLeaves_done (hs.after_closeStream ?_)
    simp only [streamCloseChecks, firstFailing_cons_eq_none_iff] at hpass
    obtain ⟨-, -, -, -, -, hbusy, -⟩ := hpass
    exact hbusy
  case keyLoad => exact answerLeaves_of_passes fun hpass => answerLeaves_done (hs.after_keyLoad hpass)
  case keyRetire => exact answerLeaves_checked (answerLeaves_done (hs.after_retireKey _ _ _))
  case keySwitch => exact answerLeaves_checked (hs.after_judgeSwitch _)
  case timeSet => exact answerLeaves_done (hs.after_setTime _)
  case zeroize =>
    exact answerLeaves_done (.ite (fun _ => hs.after_alarmEntry _) (fun _ => hs.of_same rfl rfl rfl rfl))
  case readStream => exact answerLeaves_checked (answerLeaves_ok _ hs)
  case poll | identify | readStatus | timeRead | readRetained => exact answerLeaves_data _ hs
  case readLinkChanges => exact answerLeaves_data _ (hs.of_same rfl rfl rfl rfl)
  case readNotices | readLink | readRule | readTrigger =>
    exact answerLeaves_checked (answerLeaves_data _ (hs.of_same rfl rfl rfl rfl))
  case restart => exact answerLeaves_done (hs.of_same rfl rfl rfl rfl)
  case noticeSetup | deviceSetup | rulePut | ruleDrop | kwkLoad | kwkErase | timeTrim | triggerArm | triggerCancel
    | triggerRelease | alarmClear => exact answerLeaves_checked (answerLeaves_done (hs.of_same rfl rfl rfl rfl))

theorem slotsCounted_keptByRequests : KeptByRequests (State.slotsCounted []) where
  line _ _ hs := hs.of_same rfl rfl rfl rfl
  requests := requestTable_keepsSlots

/-! ### Every command -/

theorem Link.items_received (k : Link) (side : Side) (f : Frame) : (k.received side f).items = k.items := by
  unfold Link.received Link.offerOut Link.offerIn Link.arrived
  split
  · rfl
  · split
    · rfl
    · rfl
    · split
      · split
        · split <;> rfl
        · rfl
      · split <;> rfl

theorem Link.items_refreshMicro (k : Link) : k.refreshMicro.items = k.items := by
  unfold Link.refreshMicro
  split
  · rfl
  · split <;> rfl

theorem Link.items_went (k : Link) (side : Side) :
    (k.wentUp side).items = k.items ∧ (k.wentDown side).items = k.items := by
  unfold Link.wentUp Link.wentDown
  cases side
  · exact ⟨rfl, rfl⟩
  · dsimp only
    constructor <;> split <;> rfl

theorem Link.items_modFace (k : Link) (side : Side) (f : Face → Face) : (k.modFace side f).items = k.items := by
  cases side <;> rfl

theorem State.slotsCounted.modLink_items {gone : List Item} {s : State} (hs : s.slotsCounted gone) {l : LinkNo}
    {f : Link → Link} (hitems : (f (s.link l)).items = (s.link l).items) : (s.modLink l f).slotsCounted gone :=
  hs.modLink fun _ _ _ => by rw [hitems]

/-- A step's outcome under an invariant. -/
theorem keeps_of_next {P : State → Prop} {t u : State}
    (h : (.next u : Host.Outcome State Fault Refusal) = .next t) (hu : P u) : P t := by
  cases h
  exact hu

/-- A command that does nothing while a reset is held keeps an invariant that its effect keeps (R166). -/
theorem keeps_of_unlessHeld {P : State → Prop} {f : State → State} {s t : State}
    (h : (.next (unlessHeld f s) : Host.Outcome State Fault Refusal) = .next t) (hs : P s) (hf : P (f s)) : P t := by
  refine keeps_of_next h ?_
  unfold unlessHeld
  split
  · exact hs
  · exact hf

theorem exec_slotsCounted (c : Instr) {s t : State} (h : exec c s = .next t) (hs : s.slotsCounted []) :
    t.slotsCounted [] := by
  have hkept := slotsCounted_keptByRequests
  cases c with
  | poll | identify | readStatus | readNotices | noticeSetup | readCounters | deviceSetup | linkSetup | rampSet
  | linkStart | linkStop | readLink | readLinkChanges | rulePut | ruleDrop | readRule | streamOpen | streamClose
  | readStream | keyLoad | keyRetire | keySwitch | kwkLoad | kwkErase | timeSet | timeTrim | timeRead
  | triggerArm | triggerCancel | triggerRelease | readTrigger | restart | zeroize | alarmClear | readRetained =>
    exact keeps_of_next h (hkept.after_takeRequest hs (by simp [requestTable]) _)
  | unknownRequest code ps => exact keeps_of_next h (hkept.after_recordArrives hs _ (hkept.after_takeRecord hs _))
  | recordCheckFailed head body check =>
    exact keeps_of_next h (hkept.after_recordArrives hs _ (hkept.after_judgeRecord hs _ _ _))
  | recordIgnored head body check =>
    exact keeps_of_next h (hkept.after_recordArrives hs _ (hkept.after_judgeRecord hs _ _ _))
  | recordLenInvalid len =>
    refine keeps_of_unlessHeld h hs ?_
    split
    · exact .ite (fun _ => hs) (fun _ => hkept.line _ _ hs)
    · exact hs
  | framingError =>
    refine keeps_of_unlessHeld h hs (.ite (fun _ => hs) (fun _ => ?_))
    unfold badStopBit
    split
    · exact hs
    · exact hkept.line _ _ hs
  | recordGapTimeout =>
    refine keeps_of_unlessHeld h hs ?_
    split
    · exact hs
    · exact hkept.line _ _ hs
  | overlapByte byte => exact keeps_of_unlessHeld h hs (.ite (fun _ => hkept.line _ _ hs) (fun _ => hs))
  | replyEnd =>
    refine keeps_of_unlessHeld h hs (.ite (fun _ => ?_) (fun _ => hs))
    have hended : (s.modLine fun ln => { ln with assembly := .hunt, reply := none }).slotsCounted [] := hkept.line _ _ hs
    exact .ite (fun _ => hended.after_holdReset _) (fun _ => hended)
  | powerOn => exact keeps_of_next h ((hs.after_holdReset .powerOn).of_same rfl rfl rfl rfl)
  | pinReset => exact keeps_of_next h (hs.after_holdReset _)
  | resetRelease address rateHigh =>
    refine keeps_of_next h ?_
    split
    · exact slotsCounted_released _ _ _ s
    · exact hs
  | selfTestComplete passed =>
    exact keeps_of_unlessHeld h hs (.ite (fun _ => hs.after_completeSelfTest passed) (fun _ => hs))
  | tamperAssert =>
    have hlevel : State.slotsCounted [] { s with tamperAsserted := true, kwk := none } := hs.of_same rfl rfl rfl rfl
    exact keeps_of_next h
      (.ite (fun _ => hs) fun _ => .ite (fun _ => hlevel) (fun _ => hlevel.after_tamperByMode))
  | tamperDeassert => exact keeps_of_next h (hs.of_same rfl rfl rfl rfl)
  | referenceTick => exact keeps_of_unlessHeld h hs hs.after_tick
  | rampStageEnd link =>
    refine keeps_of_unlessHeld h hs ?_
    split
    · exact .ite (fun _ => hs.modLink_beside rfl rfl) (fun _ => hs)
    · exact hs
  | pauseRefresh link =>
    refine keeps_of_unlessHeld h hs ?_
    split
    · exact .ite (fun _ => hs.modLink_items (Link.items_refreshMicro _)) (fun _ => hs)
    · exact hs
  | graceExpiry stream slot =>
    exact keeps_of_unlessHeld h hs
      (.ite (fun hgrace => hs.after_leaveInSlot (by rw [hgrace.1]; rfl)) (fun _ => hs))
  | lifetimeExpiry stream =>
    refine keeps_of_unlessHeld h hs ?_
    split
    next ha => exact .ite (fun _ => hs.after_secondAtSlot ha) (fun _ => hs)
    next => exact hs
  | pulseEdge => exact keeps_of_unlessHeld h hs hs.after_edge
  | triggerFire slot event =>
    refine keeps_of_unlessHeld h hs ?_
    split
    · exact .ite (fun _ => hs.after_fireTrigger _ _ _) (fun _ => hs)
    · exact hs
  | faceUp link side =>
    exact keeps_of_unlessHeld h hs
      (.ite (fun _ => hs) fun _ => (hs.modLink_items (Link.items_went _ side).1).after_noteChange link side)
  | faceDown link side =>
    exact keeps_of_unlessHeld h hs
      (.ite (fun _ => (hs.modLink_items (Link.items_went _ side).2).after_noteChange link side) (fun _ => hs))
  | frameReceived link side frame =>
    exact keeps_of_unlessHeld h hs (.ite (fun _ => hs.modLink_items (Link.items_received _ _ _)) (fun _ => hs))
  | pauseSend link => exact keeps_of_unlessHeld h hs (.ite (fun _ => hs.modLink_beside rfl rfl) (fun _ => hs))
  | transmissionEnd link side => exact keeps_of_unlessHeld h hs (hs.modLink_items (Link.items_modFace _ _ _))
  | outboundGrant read =>
    refine keeps_of_unlessHeld h hs ?_
    split
    next r n _ =>
      have hnoted : (noteTrafficGrant r s).slotsCounted [] := hs.of_same rfl rfl rfl rfl
      exact .ite (fun _ => hnoted.after_grantOutbound _ n read) (fun _ => hs)
    next => exact hs
  | inboundGrant read =>
    refine keeps_of_unlessHeld h hs ?_
    split
    next r n _ =>
      have hnoted : (noteTrafficGrant r s).slotsCounted [] := hs.of_same rfl rfl rfl rfl
      exact .ite (fun _ => hs) (fun _ => hnoted.after_grantInbound _ n read)
    next => exact hs
  | keyPreparationGrant =>
    refine keeps_of_unlessHeld h hs ?_
    split
    · have hreset : (resetCount s).slotsCounted [] := hs.of_same rfl rfl rfl rfl
      exact hreset.after_grantKeyUnit _
    · exact hs
  | laneCompletion lane =>
    refine keeps_of_unlessHeld h hs ?_
    split
    next l x nonce _ => exact (hs.after_laneCompletion l lane x nonce).1.of_same rfl rfl rfl rfl
    next l x nonce _ => exact (hs.after_laneCompletion l lane x nonce).2.of_same rfl rfl rfl rfl
    next => exact hs
  | keyJobCompletion =>
    refine keeps_of_unlessHeld h hs ?_
    split
    next hjobs => exact hs.after_completeJob _ hjobs
    next => exact hs
  | outboundRelease link => exact keeps_of_unlessHeld h hs (hs.after_releaseOutbound link)
  | inboundRelease link => exact keeps_of_unlessHeld h hs (hs.after_releaseInbound link)
  | drainComplete link => exact keeps_of_unlessHeld h hs (hs.after_drainCheck link)
  | byteReceived byte => exact keeps_of_unlessHeld h hs (hkept.after_receiveByte hs byte)

theorem step_slotsCounted {s t : State} (h : step s = .next t) (hs : s.slotsCounted []) : t.slotsCounted [] := by
  cases hpending : s.pending with
  | nil =>
    rw [step_of_pending_nil hpending] at h
    exact keeps_of_next h hs
  | cons c rest =>
    rw [step_of_pending_cons hpending] at h
    exact exec_slotsCounted c h (hs.of_same rfl rfl rfl rfl)

/-- Settles O13: every operation on a slot keeps its stream legal and the counts at their items, which a delivery needs to
find its slot loaded. -/
theorem slotsKeepTheirStates : Obligations.SlotsKeepTheirStates := by
  intro s t hlegal hcounts hstep
  exact ((State.slotsCounted_nil_iff t).1
    (step_slotsCounted hstep ((State.slotsCounted_nil_iff s).2 ⟨hlegal, hcounts⟩))).1

/-- The first invariant of O14. -/
theorem step_countsInFlight {s t : State} (hlegal : s.slotsLegal) (hcounts : s.countsInFlight)
    (hstep : step s = .next t) :
    t.countsInFlight :=
  ((State.slotsCounted_nil_iff t).1 (step_slotsCounted hstep ((State.slotsCounted_nil_iff s).2 ⟨hlegal, hcounts⟩))).2

end Sys2Proof.Machine
end

section
/-! SUPPORT. The lane pool (R15, R89, R96, R97, R102): what a grant, a completion, a release and a stop make of the lanes
and of the items that stand on them. -/

namespace Sys2Proof.Machine

/-! ### Items on a lane -/

theorem itemsOnLane_cons (n : LaneNo) (it : Item) (items : List Item) :
    itemsOnLane n (it :: items) = (if it.state = .onLane n then 1 else 0) + itemsOnLane n items := by
  rw [itemsOnLane, List.filter_cons]
  by_cases h : it.state = .onLane n
  · simp [h, itemsOnLane, Nat.add_comm]
  · simp [h, itemsOnLane]

theorem itemsOnLane_append (n : LaneNo) (xs ys : List Item) :
    itemsOnLane n (xs ++ ys) = itemsOnLane n xs + itemsOnLane n ys := by
  simp [itemsOnLane]

theorem itemsOnLane_eq_zero_iff {n : LaneNo} {items : List Item} :
    itemsOnLane n items = 0 ↔ ∀ it ∈ items, it.state ≠ .onLane n := by
  simp [itemsOnLane, List.filter_eq_nil_iff]

/-- The items of a list whose lane has completed: none stands on it, and every other lane holds what it held (R97). -/
theorem itemsOnLane_map_completedOn (m n : LaneNo) (x : Secret) (nonce : BitVec 96) (items : List Item) :
    itemsOnLane m (items.map (Item.completedOn n x nonce)) = if m = n then 0 else itemsOnLane m items := by
  induction items with
  | nil => simp [itemsOnLane]
  | cons it items ih =>
    rw [List.map_cons, itemsOnLane_cons, ih, itemsOnLane_cons]
    have hstate : (it.completedOn n x nonce).state = .onLane m ↔ m ≠ n ∧ it.state = .onLane m := by
      unfold Item.completedOn
      split
      next h => simp [h, eq_comm]
      next h => exact ⟨fun hm => ⟨fun e => h (e ▸ hm), hm⟩, fun hm => hm.2⟩
    by_cases hmn : m = n
    · rw [if_neg fun h => (hstate.1 h).1 hmn, if_pos hmn, if_pos hmn]
    · simp [hstate, hmn]

/-- A PROTECT item that completes has its tag, a VERIFY item its result (R97). -/
theorem Item.legal.completedOn {d : Dir} {l : LinkNo} {it : Item} (h : it.legal d l) (n : LaneNo) (x : Secret)
    (nonce : BitVec 96) : (it.completedOn n x nonce).legal d l := by
  unfold Item.completedOn
  split
  next hlane =>
    obtain ⟨hdir, hlink, hbody⟩ := h
    refine ⟨hdir, hlink, ?_⟩
    unfold ItemBody.completed
    cases hb : it.body with
    | pass f => rfl
    | protect ref aad payload tag =>
      rw [hb] at hbody
      exact ⟨hbody.1, iff_of_true rfl nofun⟩
    | verify ref aad cipher tag result =>
      rw [hb] at hbody
      exact ⟨hbody.1, iff_of_true rfl nofun⟩
  next => exact h

/-! ### The pool -/

/-- A state with the lane pool as before: its lanes, the load queue, the mode and the lists. -/
theorem State.lanesLegal.of_same {s t : State} (hs : s.lanesLegal) (hlanes : t.lanes = s.lanes)
    (henabled : t.lanesEnabled = s.lanesEnabled) (hunit : t.keyUnit = s.keyUnit) (hmode : t.mode = s.mode)
    (hlists : ∀ l, (t.link l).outList = (s.link l).outList ∧ (t.link l).inList = (s.link l).inList) :
    t.lanesLegal := by
  unfold State.lanesLegal
  simp only [hlanes, henabled, hunit, hmode, (hlists _).1, (hlists _).2]
  exact hs

theorem State.lanesLegal.ite {c : Prop} [Decidable c] {t u : State} (ht : c → t.lanesLegal) (hu : ¬ c → u.lanesLegal) :
    (if c then t else u).lanesLegal := by
  split
  next h => exact ht h
  next h => exact hu h

theorem State.lanesLegal.foldl {α : Type} {f : State → α → State}
    (hf : ∀ (s : State) (a : α), s.lanesLegal → (f s a).lanesLegal) (xs : List α) {s : State} (hs : s.lanesLegal) :
    (xs.foldl f s).lanesLegal := by
  induction xs generalizing s with
  | nil => exact hs
  | cons x xs ih => exact ih (hf s x hs)

section Pool

variable {s : State} (hs : s.lanesLegal)
include hs

theorem State.lanesLegal.raised (k : NoticeKind) (m : NoticeMember) : (raise k m s).lanesLegal := hs

/-- A change of a link beside its lists. -/
theorem State.lanesLegal.modLink_beside {l : LinkNo} {f : Link → Link}
    (hout : (f (s.link l)).outList = (s.link l).outList)
    (hin : (f (s.link l)).inList = (s.link l).inList) : (s.modLink l f).lanesLegal := by
  refine hs.of_same rfl rfl rfl rfl fun m => ?_
  rw [link_modLink]
  split
  next h => rw [h]; exact ⟨hout, hin⟩
  next => exact ⟨rfl, rfl⟩

/-- A change of the links beside their lists. -/
theorem State.lanesLegal.mapLinks {f : Link → Link} (hout : ∀ k : Link, (f k).outList = k.outList)
    (hin : ∀ k : Link, (f k).inList = k.inList) : State.lanesLegal { s with links := mapTable f s.links } := by
  refine hs.of_same rfl rfl rfl rfl fun l => ?_
  simp only [State.link, get_mapTable]
  exact ⟨hout _, hin _⟩

/-- A lane that an outbound item stands on protects for that item's link. -/
theorem State.lanesLegal.protects_of_mem {l : LinkNo} {n : LaneNo} {it : Item} (hit : it ∈ (s.link l).outList)
    (hstate : it.state = .onLane n) : (s.lanes.get n).protects = some l := by
  obtain ⟨-, -, -, hout, -⟩ := hs
  have hcount := hout l n
  by_contra hne
  rw [if_neg hne] at hcount
  exact itemsOnLane_eq_zero_iff.1 hcount it hit hstate

/-- A lane that an inbound item stands on verifies for that item's link. -/
theorem State.lanesLegal.verifies_of_mem {l : LinkNo} {n : LaneNo} {it : Item} (hit : it ∈ (s.link l).inList)
    (hstate : it.state = .onLane n) : (s.lanes.get n).verifies = some l := by
  obtain ⟨-, -, -, -, hin, -⟩ := hs
  have hcount := hin l n
  by_contra hne
  rw [if_neg hne] at hcount
  exact itemsOnLane_eq_zero_iff.1 hcount it hit hstate

end Pool

theorem Lane.not_job_of_protects {x : Lane} {l : LinkNo} (h : x.protects = some l) :
    x.holdsJob = false ∧ x.verifies = none ∧ x ≠ .free := by
  cases x <;> simp_all [Lane.protects, Lane.holdsJob, Lane.verifies]

theorem Lane.not_job_of_verifies {x : Lane} {l : LinkNo} (h : x.verifies = some l) :
    x.holdsJob = false ∧ x.protects = none ∧ x ≠ .free := by
  cases x <;> simp_all [Lane.protects, Lane.holdsJob, Lane.verifies]

/-- One lane written, and the items that stand on it joined or gone: the pool is legal if that lane is. -/
theorem State.lanesLegal.of_lane {s t : State} (hs : s.lanesLegal) {n : LaneNo} {v : Lane}
    (hlane : t.lanes = putAt s.lanes n v) (henabled : t.lanesEnabled = s.lanesEnabled) (hmode : t.mode = s.mode)
    (hbusy : v ≠ .free → s.lanesEnabled.getLsbD n.1 = true)
    (hworking : ∀ m, t.keyUnit.working = some m ↔ if m = n then v.holdsJob = true else s.keyUnit.working = some m)
    (hjobs : t.keyUnit.working ≠ none → t.keyUnit.jobs ≠ [])
    (hout : ∀ l m, itemsOnLane m (t.link l).outList =
      if m = n then (if v.protects = some l then 1 else 0) else itemsOnLane m (s.link l).outList)
    (hin : ∀ l m, itemsOnLane m (t.link l).inList =
      if m = n then (if v.verifies = some l then 1 else 0) else itemsOnLane m (s.link l).inList)
    (hitems : ∀ l, (∀ it ∈ (t.link l).outList, it.legal .out l) ∧ ∀ it ∈ (t.link l).inList, it.legal .inn l) :
    t.lanesLegal := by
  obtain ⟨hpool, hjob, -, hout', hin', -, hcount⟩ := hs
  refine ⟨fun m => ?_, fun m => ?_, hjobs, fun l m => ?_, fun l m => ?_, hitems, by rw [hmode, henabled]; exact hcount⟩
  · rw [hlane, get_putAt, henabled]
    split
    next h => rw [h]; exact hbusy
    next => exact hpool m
  · rw [hworking, hlane, get_putAt]
    split
    next => exact Iff.rfl
    next => exact hjob m
  · rw [hout, hlane, get_putAt]
    split
    next => rfl
    next => exact hout' l m
  · rw [hin, hlane, get_putAt]
    split
    next => rfl
    next => exact hin' l m

/-! ### Items that join a list (R34, R114) -/

section Joins

variable {s : State} (hs : s.lanesLegal) {l : LinkNo} {n : LaneNo}
include hs

theorem State.lanesLegal.working_ne_of_free (hfree : s.lanes.get n = .free) : s.keyUnit.working ≠ some n := by
  obtain ⟨-, hjob, -⟩ := hs
  rw [Ne, hjob, hfree]
  nofun

/-- No item stands on a free lane. -/
theorem State.lanesLegal.itemsOnLane_of_free (hfree : s.lanes.get n = .free) (m : LinkNo) :
    itemsOnLane n (s.link m).outList = 0 ∧ itemsOnLane n (s.link m).inList = 0 := by
  obtain ⟨-, -, -, hout, hin, -⟩ := hs
  rw [hout, hin, hfree]
  exact ⟨rfl, rfl⟩

/-- A lane is free and enabled, so an item or a job may take it. -/
theorem State.lanesLegal.working_iff_of_free (hfree : s.lanes.get n = .free) {v : Lane} (hv : v.holdsJob = false)
    (m : LaneNo) : s.keyUnit.working = some m ↔ if m = n then v.holdsJob = true else s.keyUnit.working = some m := by
  split
  next h => rw [hv, h]; exact iff_of_false (hs.working_ne_of_free hfree) nofun
  next => exact Iff.rfl

/-- A PROTECT item joins its list on a free enabled lane. -/
theorem State.lanesLegal.joinsOut (hfree : s.lanes.get n = .free) (henabled : s.lanesEnabled.getLsbD n.1 = true)
    {it : Item} (hit : it.legal .out l) (hstate : it.state = .onLane n) (x : Secret) (nonce : BitVec 96) :
    ((s.modLink l fun k => { k with outList := k.outList ++ [it] }).setLane n (.protect l x nonce)).lanesLegal := by
  obtain ⟨-, -, hqueue, -, -, hitems, -⟩ := id hs
  have hlink := fun m => link_modLink l m (fun k => { k with outList := k.outList ++ [it] }) s
  refine hs.of_lane rfl rfl rfl (fun _ => henabled) (hs.working_iff_of_free hfree rfl) hqueue (fun m p => ?out)
    (fun m p => ?inn) (fun m => ?items)
  all_goals rw [State.setLane_link, hlink]
  case out =>
    by_cases hm : m = l
    · subst hm
      rw [if_pos rfl, itemsOnLane_append, itemsOnLane_cons, hstate]
      by_cases hp : p = n
      · subst hp
        rw [(hs.itemsOnLane_of_free hfree m).1]
        simp [Lane.protects, itemsOnLane]
      · simp [hp, Ne.symm hp, itemsOnLane]
    · rw [if_neg hm]
      split
      next hp => rw [hp, (hs.itemsOnLane_of_free hfree m).1]; simp [Lane.protects, Ne.symm hm]
      next => rfl
  case inn =>
    have hsame : (if m = l then { s.link l with outList := (s.link l).outList ++ [it] } else s.link m).inList =
        (s.link m).inList := by
      split
      next h => rw [h]
      next => rfl
    rw [hsame]
    split
    next hp => rw [hp, (hs.itemsOnLane_of_free hfree m).2]; rfl
    next => rfl
  case items =>
    split
    next h =>
      obtain ⟨hout, hin⟩ := hitems l
      rw [h]
      exact ⟨List.forall_mem_append.2 ⟨hout, List.forall_mem_singleton.2 hit⟩, hin⟩
    next => exact hitems m

/-- A VERIFY item joins its list on a free enabled lane. -/
theorem State.lanesLegal.joinsIn (hfree : s.lanes.get n = .free) (henabled : s.lanesEnabled.getLsbD n.1 = true)
    {it : Item} (hit : it.legal .inn l) (hstate : it.state = .onLane n) (x : Secret) (nonce : BitVec 96) :
    ((s.modLink l fun k => { k with inList := k.inList ++ [it] }).setLane n (.verify l x nonce)).lanesLegal := by
  obtain ⟨-, -, hqueue, -, -, hitems, -⟩ := id hs
  have hlink := fun m => link_modLink l m (fun k => { k with inList := k.inList ++ [it] }) s
  refine hs.of_lane rfl rfl rfl (fun _ => henabled) (hs.working_iff_of_free hfree rfl) hqueue (fun m p => ?out)
    (fun m p => ?inn) (fun m => ?items)
  all_goals rw [State.setLane_link, hlink]
  case inn =>
    by_cases hm : m = l
    · subst hm
      rw [if_pos rfl, itemsOnLane_append, itemsOnLane_cons, hstate]
      by_cases hp : p = n
      · subst hp
        rw [(hs.itemsOnLane_of_free hfree m).2]
        simp [Lane.verifies, itemsOnLane]
      · simp [hp, Ne.symm hp, itemsOnLane]
    · rw [if_neg hm]
      split
      next hp => rw [hp, (hs.itemsOnLane_of_free hfree m).2]; simp [Lane.verifies, Ne.symm hm]
      next => rfl
  case out =>
    have hsame : (if m = l then { s.link l with inList := (s.link l).inList ++ [it] } else s.link m).outList =
        (s.link m).outList := by
      split
      next h => rw [h]
      next => rfl
    rw [hsame]
    split
    next hp => rw [hp, (hs.itemsOnLane_of_free hfree m).1]; rfl
    next => rfl
  case items =>
    split
    next h =>
      obtain ⟨hout, hin⟩ := hitems l
      rw [h]
      exact ⟨hout, List.forall_mem_append.2 ⟨hin, List.forall_mem_singleton.2 hit⟩⟩
    next => exact hitems m

end Joins

/-! ### Items that are DONE and lists that empty -/

/-- A change of a link that leaves no item on another lane, and every item legal. -/
theorem State.lanesLegal.modLink {s : State} (hs : s.lanesLegal) {l : LinkNo} {f : Link → Link}
    (hout : ∀ n, itemsOnLane n (f (s.link l)).outList = itemsOnLane n (s.link l).outList)
    (hin : ∀ n, itemsOnLane n (f (s.link l)).inList = itemsOnLane n (s.link l).inList)
    (hitems : (∀ it ∈ (f (s.link l)).outList, it ∈ (s.link l).outList ∨ it.legal .out l) ∧
      ∀ it ∈ (f (s.link l)).inList, it ∈ (s.link l).inList ∨ it.legal .inn l) : (s.modLink l f).lanesLegal := by
  obtain ⟨hpool, hjob, hqueue, hout', hin', hlegal, hcount⟩ := hs
  refine ⟨hpool, hjob, hqueue, fun m n => ?_, fun m n => ?_, fun m => ?_, hcount⟩
  all_goals rw [link_modLink]
  · split
    next h => rw [hout, h]; exact hout' l n
    next => exact hout' m n
  · split
    next h => rw [hin, h]; exact hin' l n
    next => exact hin' m n
  · split
    next h =>
      rw [h]
      exact ⟨fun it hit => (hitems.1 it hit).elim ((hlegal l).1 it) id,
        fun it hit => (hitems.2 it hit).elim ((hlegal l).2 it) id⟩
    next => exact hlegal m

section Done

variable {s : State} (hs : s.lanesLegal) {l : LinkNo}
include hs

/-- A PASS item joins a list; it takes no lane (R96). -/
theorem State.lanesLegal.passesOut (f : Frame) :
    (s.modLink l fun k => { k with outList := k.outList ++ [passItem .out l f] }).lanesLegal := by
  refine hs.modLink (fun n => ?_) (fun _ => rfl) ⟨fun it hit => ?_, fun _ => .inl⟩
  · rw [itemsOnLane_append]; rfl
  · rw [List.mem_append, List.mem_singleton] at hit
    exact hit.imp_right fun h => by rw [h]; exact ⟨rfl, rfl, rfl⟩

theorem State.lanesLegal.passesIn (f : Frame) :
    (s.modLink l fun k => { k with inList := k.inList ++ [passItem .inn l f] }).lanesLegal := by
  refine hs.modLink (fun _ => rfl) (fun n => ?_) ⟨fun _ => .inl, fun it hit => ?_⟩
  · rw [itemsOnLane_append]; rfl
  · rw [List.mem_append, List.mem_singleton] at hit
    exact hit.imp_right fun h => by rw [h]; exact ⟨rfl, rfl, rfl⟩

omit hs in
theorem itemsOnLane_tail_of_done {items rest : List Item} {it : Item} (hlist : items = it :: rest)
    (hdone : it.state = .done) (n : LaneNo) : itemsOnLane n items.tail = itemsOnLane n items := by
  rw [hlist, itemsOnLane_cons, hdone, if_neg nofun, Nat.zero_add, List.tail_cons]

/-- A DONE head leaves the outbound list (R99, R100). -/
theorem State.lanesLegal.dropsOut {it : Item} {rest : List Item} {f : Link → Link}
    (hlist : (s.link l).outList = it :: rest)
    (hdone : it.state = .done) (hout : (f (s.link l)).outList = (s.link l).outList.tail)
    (hin : (f (s.link l)).inList = (s.link l).inList) : (s.modLink l f).lanesLegal :=
  hs.modLink (fun n => by rw [hout]; exact itemsOnLane_tail_of_done hlist hdone n) (fun _ => by rw [hin])
    ⟨fun it hit => .inl (List.mem_of_mem_tail (hout ▸ hit)), fun it hit => .inl (hin ▸ hit)⟩

/-- A DONE head leaves the inbound list (R100, R101). -/
theorem State.lanesLegal.dropsIn {it : Item} {rest : List Item} {f : Link → Link}
    (hlist : (s.link l).inList = it :: rest)
    (hdone : it.state = .done) (hin : (f (s.link l)).inList = (s.link l).inList.tail)
    (hout : (f (s.link l)).outList = (s.link l).outList) : (s.modLink l f).lanesLegal :=
  hs.modLink (fun _ => by rw [hout]) (fun n => by rw [hin]; exact itemsOnLane_tail_of_done hlist hdone n)
    ⟨fun it hit => .inl (hout ▸ hit), fun it hit => .inl (List.mem_of_mem_tail (hin ▸ hit))⟩

/-- The completion of the lane of a PROTECT item (R97). -/
theorem State.lanesLegal.completesOut {n : LaneNo} {x : Secret} {nonce : BitVec 96}
    (hlane : s.lanes.get n = .protect l x nonce) :
    ((s.modLink l fun k => { k with outList := k.outList.map (Item.completedOn n x nonce) }).setLane n
      .free).lanesLegal := by
  obtain ⟨-, hjob, hqueue, hout, hin, hitems, -⟩ := id hs
  have hlink := fun m => link_modLink l m (fun k => { k with outList := k.outList.map (Item.completedOn n x nonce) }) s
  refine hs.of_lane rfl rfl rfl nofun (fun m => ?working) hqueue (fun m p => ?out) (fun m p => ?inn) (fun m => ?items)
  case working =>
    split
    next h => exact (hjob m).trans (by rw [h, hlane]; exact Iff.rfl)
    next => exact Iff.rfl
  all_goals rw [State.setLane_link, hlink]
  case out =>
    split
    next hm =>
      subst hm
      exact (itemsOnLane_map_completedOn p n x nonce _).trans (by simp [Lane.protects])
    next hm =>
      split
      next hp => rw [hp, hout, hlane]; simp [Lane.protects, Ne.symm hm]
      next => rfl
  case inn =>
    have hsame : (if m = l then { s.link l with outList := (s.link l).outList.map (Item.completedOn n x nonce) }
        else s.link m).inList = (s.link m).inList := by
      split
      next h => rw [h]
      next => rfl
    rw [hsame]
    split
    next hp => rw [hp, hin, hlane]; rfl
    next => rfl
  case items =>
    split
    next h =>
      obtain ⟨hout, hin⟩ := hitems l
      rw [h]
      refine ⟨fun it hit => ?_, hin⟩
      obtain ⟨it', hit', rfl⟩ := List.mem_map.1 hit
      exact (hout it' hit').completedOn n x nonce
    next => exact hitems m

/-- The completion of the lane of a VERIFY item (R97). -/
theorem State.lanesLegal.completesIn {n : LaneNo} {x : Secret} {nonce : BitVec 96}
    (hlane : s.lanes.get n = .verify l x nonce) :
    ((s.modLink l fun k => { k with inList := k.inList.map (Item.completedOn n x nonce) }).setLane n
      .free).lanesLegal := by
  obtain ⟨-, hjob, hqueue, hout, hin, hitems, -⟩ := id hs
  have hlink := fun m => link_modLink l m (fun k => { k with inList := k.inList.map (Item.completedOn n x nonce) }) s
  refine hs.of_lane rfl rfl rfl nofun (fun m => ?working) hqueue (fun m p => ?out) (fun m p => ?inn) (fun m => ?items)
  case working =>
    split
    next h => exact (hjob m).trans (by rw [h, hlane]; exact Iff.rfl)
    next => exact Iff.rfl
  all_goals rw [State.setLane_link, hlink]
  case inn =>
    split
    next hm =>
      subst hm
      exact (itemsOnLane_map_completedOn p n x nonce _).trans (by simp [Lane.verifies])
    next hm =>
      split
      next hp => rw [hp, hin, hlane]; simp [Lane.verifies, Ne.symm hm]
      next => rfl
  case out =>
    have hsame : (if m = l then { s.link l with inList := (s.link l).inList.map (Item.completedOn n x nonce) }
        else s.link m).outList = (s.link m).outList := by
      split
      next h => rw [h]
      next => rfl
    rw [hsame]
    split
    next hp => rw [hp, hout, hlane]; rfl
    next => rfl
  case items =>
    split
    next h =>
      obtain ⟨hout, hin⟩ := hitems l
      rw [h]
      refine ⟨hout, fun it hit => ?_⟩
      obtain ⟨it', hit', rfl⟩ := List.mem_map.1 hit
      exact (hin it' hit').completedOn n x nonce
    next => exact hitems m

/-- A stop NOW frees the lanes of the link's items, and no other (R102). -/
theorem State.lanesLegal.after_stopLinkNow (l : LinkNo) (c : StopCause) : (stopLinkNow l c s).lanesLegal := by
  by_cases hoff : (s.link l).state = .off
  · rw [stopLinkNow_of_off hoff]
    exact hs
  obtain ⟨ks, ls, o, i, nt, htouches⟩ := stopLinkNow_touches l c s
  have hlane := stopLinkNow_lane (cause := c) hoff
  have hlink := stopLinkNow_link (cause := c) hoff
  obtain ⟨hpool, hjob, hqueue, hout, hin, hitems, hcount⟩ := id hs
  have hheld : ∀ n, (∃ it ∈ (s.link l).outList ++ (s.link l).inList, it.state = .onLane n) ↔
      (s.lanes.get n).protects = some l ∨ (s.lanes.get n).verifies = some l := by
    intro n
    simp only [List.mem_append]
    constructor
    · rintro ⟨it, hit | hit, hstate⟩
      · exact .inl (hs.protects_of_mem hit hstate)
      · exact .inr (hs.verifies_of_mem hit hstate)
    · intro h
      by_contra hnone
      rcases h with h | h
      · have hzero : itemsOnLane n (s.link l).outList = 0 :=
          itemsOnLane_eq_zero_iff.2 fun it hit hstate => hnone ⟨it, .inl hit, hstate⟩
        rw [hout, if_pos h] at hzero
        cases hzero
      · have hzero : itemsOnLane n (s.link l).inList = 0 :=
          itemsOnLane_eq_zero_iff.2 fun it hit hstate => hnone ⟨it, .inr hit, hstate⟩
        rw [hin, if_pos h] at hzero
        cases hzero
  have hprotects : ∀ m n, ((stopLinkNow l c s).lanes.get n).protects = some m ↔
      m ≠ l ∧ (s.lanes.get n).protects = some m := by
    intro m n
    rw [hlane]
    split
    next h =>
      refine iff_of_false nofun ?_
      rintro ⟨hm, hp⟩
      rcases (hheld n).1 h with h | h
      · exact hm (Option.some.inj (hp.symm.trans h))
      · exact nomatch (Lane.not_job_of_protects hp).2.1.symm.trans h
    next h => exact ⟨fun hp => ⟨fun hm => h ((hheld n).2 (.inl (hm ▸ hp))), hp⟩, fun hp => hp.2⟩
  have hverifies : ∀ m n, ((stopLinkNow l c s).lanes.get n).verifies = some m ↔
      m ≠ l ∧ (s.lanes.get n).verifies = some m := by
    intro m n
    rw [hlane]
    split
    next h =>
      refine iff_of_false nofun ?_
      rintro ⟨hm, hp⟩
      rcases (hheld n).1 h with h | h
      · exact nomatch (Lane.not_job_of_verifies hp).2.1.symm.trans h
      · exact hm (Option.some.inj (hp.symm.trans h))
    next h => exact ⟨fun hp => ⟨fun hm => h ((hheld n).2 (.inr (hm ▸ hp))), hp⟩, fun hp => hp.2⟩
  refine ⟨fun n => ?_, fun n => ?_, by rw [htouches]; exact hqueue, fun m n => ?_, fun m n => ?_, fun m => ?_,
    by rw [htouches]; exact hcount⟩
  · have henabled : (stopLinkNow l c s).lanesEnabled = s.lanesEnabled := by rw [htouches]
    rw [hlane, henabled]
    split
    · exact fun h => absurd rfl h
    · exact hpool n
  · have hunit : (stopLinkNow l c s).keyUnit = s.keyUnit := by rw [htouches]
    rw [hunit, hlane, hjob]
    split
    next h =>
      have hidle : (s.lanes.get n).holdsJob = false := ((hheld n).1 h).elim (fun h => (Lane.not_job_of_protects h).1)
        fun h => (Lane.not_job_of_verifies h).1
      rw [hidle]
      exact Iff.rfl
    next => exact Iff.rfl
  · rw [hlink]
    by_cases hm : m = l
    · rw [if_pos hm, if_neg fun h => ((hprotects m n).1 h).1 hm]
      rfl
    · rw [if_neg hm, hout]
      exact if_congr ((and_iff_right hm).symm.trans (hprotects m n).symm) rfl rfl
  · rw [hlink]
    by_cases hm : m = l
    · rw [if_pos hm, if_neg fun h => ((hverifies m n).1 h).1 hm]
      rfl
    · rw [if_neg hm, hin]
      exact if_congr ((and_iff_right hm).symm.trans (hverifies m n).symm) rfl rfl
  · rw [hlink]
    split
    · exact ⟨nofun, nofun⟩
    · exact hitems m

end Done

end Sys2Proof.Machine
end

section
/-! SUPPORT. Every request and every command keeps the lane pool legal. -/

namespace Sys2Proof.Machine

/-! ### Triggers and time -/

section Events

variable {s : State} (hs : s.lanesLegal)
include hs

theorem State.lanesLegal.after_drainCheck (l : LinkNo) : (drainCheck l s).lanesLegal :=
  .ite (fun _ => (hs.modLink_beside rfl rfl).raised _ _) (fun _ => hs)

theorem State.lanesLegal.after_drainLink (l : LinkNo) (c : StopCause) : (drainLink l c s).lanesLegal :=
  .ite (fun _ => (hs.modLink_beside rfl rfl).after_drainCheck l) (fun _ => hs)

theorem State.lanesLegal.after_doAction (a : TriggerAction) : (doAction s a).lanesLegal := by
  cases a with
  | switch streams =>
    obtain ⟨o, n, h⟩ := switchAll_touches streams s
    simp only [doAction, h]
    exact hs
  | start l => exact hs.modLink_beside rfl rfl
  | stopDrain l => exact hs.after_drainLink l _
  | stopNow l => exact hs.after_stopLinkNow l _

theorem State.lanesLegal.after_fireTrigger (j : TriggerNo) (c : TriggerCond) (a : TriggerAction) :
    (fireTrigger j c a s).lanesLegal := by
  unfold fireTrigger
  split
  · exact hs
  · have hempty : (s.setTrigger j .empty).lanesLegal := hs
    exact hempty.after_doAction a

theorem State.lanesLegal.after_triggerEvent (e : FireEvent) (j : TriggerNo) : (triggerEvent e s j).lanesLegal := by
  unfold triggerEvent
  split
  · exact .ite (fun _ => hs.after_fireTrigger j _ _) (fun _ => hs)
  · exact hs

theorem State.lanesLegal.after_triggersEvent (e : FireEvent) : (triggersEvent e s).lanesLegal :=
  State.lanesLegal.foldl (fun _ j hs => hs.after_triggerEvent e j) _ hs

theorem State.lanesLegal.after_milliEvent : (milliEvent s).lanesLegal := by
  obtain ⟨o, n, h⟩ := milliEvent_touches s
  rw [h]
  exact hs

theorem State.lanesLegal.after_secondEvent : (secondEvent s).lanesLegal := by
  unfold secondEvent
  obtain ⟨o, n, h⟩ := lifetimesEvent_touches s
  rw [h]
  have hticked : State.lanesLegal { s with outs := o, notices := n } := hs
  exact hticked.after_triggersEvent _

omit hs in
theorem Link.micro_lists (k : Link) : k.micro.outList = k.outList ∧ k.micro.inList = k.inList := by
  unfold Link.micro Link.refreshMicro
  dsimp only
  split
  · exact ⟨rfl, rfl⟩
  · split <;> exact ⟨rfl, rfl⟩

theorem State.lanesLegal.after_microEvent : (microEvent s).lanesLegal := by
  unfold microEvent
  extract_lets counted passed
  have hcounted : counted.lanesLegal := hs.mapLinks (fun k => k.micro_lists.1) (fun k => k.micro_lists.2)
  have hpassed : passed.lanesLegal := .ite (fun _ => hcounted.after_milliEvent) (fun _ => hcounted)
  exact .ite (fun _ => hpassed.after_secondEvent) (fun _ => hpassed)

theorem State.lanesLegal.after_microEvents (n : Nat) : (microEvents n s).lanesLegal := by
  induction n generalizing s with
  | zero => exact hs
  | succ n ih => exact ih hs.after_microEvent

theorem State.lanesLegal.after_tick : (tick s).lanesLegal := by
  have hmoved : State.lanesLegal { s with time := { s.time with window := nextWindow s.time.window } } := hs
  exact hmoved.after_microEvents _

theorem State.lanesLegal.after_disciplineEdge : (disciplineEdge s).lanesLegal := by
  refine .ite (fun _ => ?_) (fun _ => .ite (fun _ => hs) (fun _ => hs))
  have hsecond : State.lanesLegal
      { s with time := { s.time with micros := 0, seconds := nextSecond s.time.seconds } } := hs
  exact hsecond.after_milliEvent.after_secondEvent

theorem State.lanesLegal.after_edge : (edge s).lanesLegal :=
  State.lanesLegal.after_triggersEvent (.ite (fun _ => hs.after_disciplineEdge) (fun _ => hs)) _

theorem State.lanesLegal.after_setTime (seconds : Nat) : (setTime seconds s).lanesLegal := by
  have hset : State.lanesLegal { s with time := { s.time with seconds := seconds, micros := 0, valid := true } } := hs
  exact hset.after_triggersEvent _

end Events

/-! ### Grants (R34, R61, R89, R91, R108) -/

/-- The lane of a grant is free and enabled (R89, R91). -/
theorem lane_of_nextGrant {s : State} {r : Requester} {n : LaneNo} (h : nextGrant s = some (r, n)) :
    s.lanes.get n = .free ∧ s.lanesEnabled.getLsbD n.1 = true := by
  unfold nextGrant at h
  split at h
  · split at h
    next hlane =>
      cases h
      have hfound := List.find?_some hlane
      simp only [Bool.and_eq_true, decide_eq_true_eq] at hfound
      exact ⟨hfound.2, hfound.1⟩
    next => cases h
  · cases h

/-- A grant to the key preparation unit finds its head job WAITING (R90). -/
theorem keyUnitRequests_of_nextGrant {s : State} {n : LaneNo} (h : nextGrant s = some (.keyUnit, n)) :
    keyUnitRequests s = true := by
  unfold nextGrant at h
  split at h
  · split at h
    next hchosen _ =>
      cases h
      unfold chooseRequester at hchosen
      dsimp only at hchosen
      split at hchosen
      next hunit => exact (Bool.and_eq_true_iff.1 hunit).1
      next => simp at hchosen
    next => cases h
  · cases h

section Grants

variable {s : State} (hs : s.lanesLegal)
include hs

theorem State.lanesLegal.after_assignRekey (i : StreamNo) (a : SlotNo) (p : Nat) : (assignRekey i a p s).lanesLegal :=
  .ite (fun _ => hs) (fun _ => hs)

theorem State.lanesLegal.after_assignEnd (i : StreamNo) (a : SlotNo) (p : Nat) : (assignEnd i a p s).lanesLegal := by
  refine .ite (fun _ => ?_) (fun _ => hs)
  obtain ⟨o, n, h⟩ := leaveActive_touches i a s
  rw [h]
  exact hs

theorem State.lanesLegal.after_assignAutoSwitch (i : StreamNo) (a : SlotNo) (p : Nat) :
    (assignAutoSwitch i a p s).lanesLegal := by
  refine .ite (fun _ => ?_) (fun _ => hs)
  obtain ⟨o, n, h⟩ := switchStream_touches i a s
  rw [h]
  exact hs

variable {n : LaneNo} (hfree : s.lanes.get n = .free) (henabled : s.lanesEnabled.getLsbD n.1 = true)
include hfree henabled

theorem State.lanesLegal.after_assign (l : LinkNo) (i : StreamNo) (a : SlotNo) (f : Frame) (tc : Bool) :
    (assign l n i a f tc s).lanesLegal := by
  have hnumbered : (assignNumber l n i a f tc s).lanesLegal :=
    hs.joinsOut (it := protectItem s l n i a f tc) hfree henabled ⟨rfl, rfl, rfl, iff_of_false nofun (fun h => h rfl)⟩ rfl
      ((s.outSlot i a).secret.getD { key := 0, salt := 0 }) _
  have hended := (hnumbered.after_assignRekey i a (s.outSlot i a).nextFn).after_assignEnd i a (s.outSlot i a).nextFn
  exact (hended.after_assignAutoSwitch i a _).after_triggersEvent _

theorem State.lanesLegal.after_disposeOut (l : LinkNo) (read : KeyRead) (f : Frame) (d : Decision) :
    (disposeOut l n read f d s).lanesLegal := by
  have hcounted : ∀ g, (countOut l g s).lanesLegal := fun g => hs.modLink_beside rfl rfl
  unfold disposeOut
  split
  · exact hcounted _
  · exact .ite (fun _ => hcounted _) (fun _ => hs.passesOut f)
  · refine .ite (fun _ => hcounted _) (fun _ => ?_)
    split
    next a _ =>
      refine .ite (fun _ => ?_) (fun _ => ?_)
      · obtain ⟨o, nt, c, e, h⟩ := outStoreError_touches d.stream a s
        rw [h]
        exact hs
      · obtain ⟨c, h⟩ := noteCorrection_touches read s
        rw [h]
        have hcorrected : State.lanesLegal { s with storeCorrections := c } := hs
        exact hcorrected.after_assign hfree henabled l _ a f _
    next => exact hs

theorem State.lanesLegal.after_grantOutbound (l : LinkNo) (read : KeyRead) :
    (grantOutbound l n read s).lanesLegal := by
  unfold grantOutbound
  split
  · exact hs
  next f rest hqueue =>
    obtain ⟨-, hlist⟩ := (s.link l).dropOutHead_keeps
    have hin : (s.link l).dropOutHead.inList = (s.link l).inList := by
      unfold Link.dropOutHead Link.departed
      split <;> rfl
    have hdropped : (s.modLink l Link.dropOutHead).lanesLegal := hs.modLink_beside hlist hin
    obtain ⟨rs, h⟩ := countMatch_touches l f (s.modLink l Link.dropOutHead)
    rw [h]
    have hcounted : State.lanesLegal { s.modLink l Link.dropOutHead with rules := rs } := hdropped
    exact (hcounted.after_disposeOut hfree henabled l read f _).after_drainCheck l

theorem State.lanesLegal.after_examineStream (l : LinkNo) (read : KeyRead) (i : StreamNo) (p : Parsed) (f : Frame) :
    (examineStream l n read i p f s).lanesLegal := by
  refine .ite (fun _ => hs) fun _ => .ite (fun _ => ?storeError) fun _ => .ite (fun _ => ?verify) (fun _ => ?replayed)
  case storeError =>
    obtain ⟨o, nt, c, e, h⟩ := inStoreError_touches i p.phase s
    rw [h]
    exact hs
  case verify =>
    obtain ⟨c, h⟩ := noteCorrection_touches read s
    rw [h]
    have hcorrected : State.lanesLegal { s with storeCorrections := c } := hs
    exact hcorrected.joinsIn (it := verifyItem l n i p f) hfree henabled
      ⟨rfl, rfl, rfl, iff_of_false nofun (fun h => h rfl)⟩ rfl
      ((s.inSlot i p.phase).secret.getD { key := 0, salt := 0 }) _
  case replayed =>
    obtain ⟨c, h⟩ := noteCorrection_touches read s
    rw [h]
    exact hs

theorem State.lanesLegal.after_examineIn (l : LinkNo) (read : KeyRead) (f : Frame) :
    (examineIn l n read f s).lanesLegal := by
  have hcounted : ∀ g, (countIn l g s).lanesLegal := fun g => hs.modLink_beside rfl rfl
  unfold examineIn
  split
  · exact .ite (fun _ => hs.passesIn f) (fun _ => hcounted _)
  · split
    · exact hcounted _
    · split
      · exact hcounted _
      · exact hs.after_examineStream hfree henabled l read _ _ f

theorem State.lanesLegal.after_grantInbound (l : LinkNo) (read : KeyRead) : (grantInbound l n read s).lanesLegal := by
  unfold grantInbound
  split
  · exact hs
  · have hdropped : (s.modLink l fun k => { k with inQueue := k.inQueue.tail }).lanesLegal :=
      hs.modLink_beside rfl rfl
    exact (hdropped.after_examineIn hfree henabled l read _).after_drainCheck l

end Grants

/-! ### Releases (R99 to R101) -/

section Releases

variable {s : State} (hs : s.lanesLegal)
include hs

theorem State.lanesLegal.after_itemLeft (it : Item) : (itemLeft it s).lanesLegal := by
  obtain ⟨o, i, n, h⟩ := itemLeft_touches it s
  rw [h]
  exact hs

theorem State.lanesLegal.after_releaseOutbound (l : LinkNo) : (releaseOutbound l s).lanesLegal := by
  unfold releaseOutbound
  split
  · exact hs
  next it rest hlist =>
    refine .ite (fun hdone => .ite (fun _ => ?_) fun _ => .ite (fun _ => hs) fun _ => ?_) (fun _ => hs)
    · exact ((hs.dropsOut (f := fun k => k.sendOut it) hlist hdone rfl rfl).after_itemLeft it).after_drainCheck l
    · exact ((hs.dropsOut (f := Link.discardOut) hlist hdone rfl rfl).after_itemLeft it).after_drainCheck l

theorem State.lanesLegal.after_sendToGrace (i : StreamNo) (k : SlotNo) : (sendToGrace i k s).lanesLegal := by
  obtain ⟨o, n, h⟩ := sendToGrace_touches i k s
  rw [h]
  exact hs

theorem State.lanesLegal.after_deliver (l : LinkNo) (ref : KeyRef) (f : Frame) : (deliver l ref f s).lanesLegal := by
  unfold deliver
  extract_lets sl windowed counted sent
  have hcounted : counted.lanesLegal := hs
  have hsent : sent.lanesLegal := hcounted.modLink_beside rfl rfl
  refine .ite (fun _ => ?_) (fun _ => hsent)
  have hactive : (sent.modInSlot ref.stream ref.slot fun sl => { sl with state := .active }).lanesLegal := hsent
  exact .ite (fun _ => hactive.after_sendToGrace _ _) (fun _ => hactive)

theorem State.lanesLegal.after_judgeHead (l : LinkNo) (it : Item) : (judgeHead l it s).lanesLegal := by
  unfold judgeHead
  split
  · exact hs.modLink_beside rfl rfl
  · unfold judgeVerify
    split
    · exact .ite (fun _ => hs.after_deliver l _ _) (fun _ => hs)
    · exact .ite (fun _ => hs) fun _ => .ite (fun _ => hs) (fun _ => hs)
  · exact hs

theorem State.lanesLegal.after_releaseInbound (l : LinkNo) : (releaseInbound l s).lanesLegal := by
  unfold releaseInbound
  split
  · exact hs
  next it rest hlist =>
    refine .ite (fun hdone => .ite (fun _ => ?_) fun _ => .ite (fun _ => hs) fun _ => ?_) (fun _ => hs)
    · exact (((hs.dropsIn (f := Link.dropInHead) hlist hdone rfl rfl).after_judgeHead l it).after_itemLeft
        it).after_drainCheck l
    · exact ((hs.dropsIn (f := Link.discardIn) hlist hdone rfl rfl).after_itemLeft it).after_drainCheck l

end Releases

/-! ### The key preparation unit (R15, R19, R20, R25) -/

section Unit

variable {s : State} (hs : s.lanesLegal)
include hs

/-- The queue rewritten, with a job left at its head while one is WORKING. -/
theorem State.lanesLegal.withJobs {jobs : List Job} (hjobs : s.keyUnit.working ≠ none → jobs ≠ []) (a : Arbiter) :
    State.lanesLegal { s with keyUnit := { s.keyUnit with jobs := jobs }, arbiter := a } := by
  obtain ⟨hpool, hjob, -, hout, hin, hitems, hcount⟩ := hs
  exact ⟨hpool, hjob, hjobs, hout, hin, hitems, hcount⟩

/-- A job takes a free enabled lane (R19). -/
theorem State.lanesLegal.startsJob {n : LaneNo} (hfree : s.lanes.get n = .free)
    (henabled : s.lanesEnabled.getLsbD n.1 = true) (hidle : s.keyUnit.working = none) (hjobs : s.keyUnit.jobs ≠ [])
    (key : BitVec 256) :
    (({ s with keyUnit := { s.keyUnit with working := some n } } : State).setLane n (.job key)).lanesLegal := by
  obtain ⟨-, -, -, -, -, hitems, -⟩ := id hs
  refine hs.of_lane rfl rfl rfl (fun _ => henabled) (fun m => ?_) (fun _ => hjobs) (fun l m => ?_) (fun l m => ?_) hitems
  · by_cases hm : m = n
    · rw [if_pos hm, hm]
      exact iff_of_true rfl rfl
    · rw [if_neg hm, hidle]
      exact iff_of_false (fun h => hm (Option.some.inj h).symm) nofun
  · split
    next hm => rw [hm]; exact (hs.itemsOnLane_of_free hfree l).1
    next => rfl
  · split
    next hm => rw [hm]; exact (hs.itemsOnLane_of_free hfree l).2
    next => rfl

/-- The WORKING job frees its lane, and no job is WORKING (R20). -/
theorem State.lanesLegal.endsJob {n : LaneNo} {key : BitVec 256} (hlane : s.lanes.get n = .job key)
    (jobs : List Job) :
    State.lanesLegal { s.setLane n .free with keyUnit := { jobs := jobs, working := none } } := by
  obtain ⟨-, hjob, -, hout, hin, hitems, -⟩ := id hs
  have hworking : s.keyUnit.working = some n := (hjob n).2 (by rw [hlane]; rfl)
  refine hs.of_lane rfl rfl rfl nofun (fun m => ?_) nofun (fun l m => ?_) (fun l m => ?_) hitems
  · split
    · exact iff_of_false nofun nofun
    next hm =>
      rw [hworking]
      exact iff_of_false nofun fun h => hm (Option.some.inj h).symm
  · split
    next hm => rw [hm]; exact (hout l n).trans (by rw [hlane]; rfl)
    next => rfl
  · split
    next hm => rw [hm]; exact (hin l n).trans (by rw [hlane]; rfl)
    next => rfl

theorem State.lanesLegal.after_grantKeyUnit {n : LaneNo} (hfree : s.lanes.get n = .free)
    (henabled : s.lanesEnabled.getLsbD n.1 = true) (hidle : s.keyUnit.working = none) :
    (grantKeyUnit n s).lanesLegal := by
  unfold grantKeyUnit
  split
  · exact hs
  next j rest hjobs =>
    split
    next key _ => exact hs.startsJob hfree henabled hidle (by rw [hjobs]; exact List.cons_ne_nil _ _) key
    next =>
      obtain ⟨a, hremoved⟩ := removeHeadJob_eq (endJob j .unwrapFailed none s)
      obtain ⟨o, i, nt, hended⟩ := endJob_touches j .unwrapFailed none s
      rw [hremoved, hended]
      obtain ⟨hpool, hjob, -, hout, hin, hitems, hcount⟩ := hs
      rw [hidle] at hjob
      exact ⟨hpool, hjob, nofun, hout, hin, hitems, hcount⟩

theorem State.lanesLegal.after_completeJob (n : LaneNo) (j : Job) : (completeJob n j s).lanesLegal := by
  unfold completeJob
  split
  next key hlane =>
    obtain ⟨a, hremoved⟩ := removeHeadJob_eq (endJob j (j.outcome key).1 (j.outcome key).2 (s.setLane n .free))
    obtain ⟨o, i, nt, hended⟩ := endJob_touches j (j.outcome key).1 (j.outcome key).2 (s.setLane n .free)
    rw [hremoved, hended]
    exact hs.endsJob hlane _
  next => exact hs

theorem State.lanesLegal.after_startLoad (j : Job) : (beginLoading j (appendJob j s)).lanesLegal := by
  obtain ⟨a, happended⟩ := appendJob_touches j s
  have hqueued : (appendJob j s).lanesLegal := by
    rw [happended]
    exact hs.withJobs (fun _ => List.append_ne_nil_of_right_ne_nil _ (List.cons_ne_nil _ _)) a
  unfold beginLoading
  split <;> exact hqueued

/-- A job that is not the WORKING head leaves the queue with the WORKING head in it (R25). -/
theorem State.lanesLegal.after_removeJob {d : Dir} {i : StreamNo} {k : SlotNo} (hidle : ¬ jobWorking s d i k = true) :
    (removeJob d i k s).lanesLegal := by
  obtain ⟨a, hremoved⟩ := removeJob_eq d i k s
  rw [hremoved]
  refine hs.withJobs (fun hworking => ?_) a
  obtain ⟨-, -, hqueue, -⟩ := hs
  obtain ⟨j, rest, hjobs⟩ := List.exists_cons_of_ne_nil (hqueue hworking)
  have hstays : j.loads d i k = false := by
    have hbusy : s.keyUnit.working.isSome = true := Option.isSome_iff_ne_none.2 hworking
    simpa [jobWorking, hbusy, hjobs] using hidle
  rw [hjobs]
  simp [hstays]

theorem State.lanesLegal.after_markCancelled (d : Dir) (i : StreamNo) (k : SlotNo) :
    (markCancelled d i k s).lanesLegal := by
  refine hs.withJobs (jobs := s.keyUnit.jobs.map fun j => if j.loads d i k then { j with cancelled := true } else j)
    (fun hworking => ?_) s.arbiter
  obtain ⟨-, -, hqueue, -⟩ := hs
  exact fun hempty => hqueue hworking (List.map_eq_nil_iff.1 hempty)

theorem State.lanesLegal.after_retireKey (d : Dir) (i : StreamNo) (k : SlotNo) : (retireKey d i k s).lanesLegal := by
  have hleft : (leaveInSlot i k s).lanesLegal := by
    obtain ⟨o, n, h⟩ := leaveInSlot_touches i k s
    rw [h]
    exact hs
  cases d with
  | out =>
    simp only [retireKey, retireOut]
    split
    · unfold cancelOutLoad
      split
      · exact hs.after_markCancelled _ _ _
      next hidle => exact hs.after_removeJob hidle
    · obtain ⟨o, n, h⟩ := leaveOutSlot_touches i k s
      rw [h]
      exact hs
    · obtain ⟨o, n, h⟩ := leaveActive_touches i k s
      rw [h]
      exact hs
    · exact hs
    · exact hs
  | inn =>
    simp only [retireKey, retireIn]
    split
    · unfold cancelInLoad
      split
      · exact hs.after_markCancelled _ _ _
      next hidle => exact hs.after_removeJob hidle
    · exact hleft
    · exact hleft
    · exact hleft
    · exact hs
    · exact hs

end Unit

/-! ### ALARM, the self-test and resets (R166, R168, R171) -/

/-- No lane busy, no item and no job: the pool is legal if the mode has its lanes. -/
theorem State.lanesLegal_of_idle {s : State} (hlanes : ∀ n, s.lanes.get n = .free) (hidle : s.keyUnit.working = none)
    (hlists : ∀ l, (s.link l).outList = [] ∧ (s.link l).inList = [])
    (hmode : s.mode = .running ∨ s.mode = .alarm → 2 ≤ laneCount s.lanesEnabled) : s.lanesLegal := by
  refine ⟨fun n h => absurd (hlanes n) h, fun n => ?_, fun h => absurd hidle h, fun l n => ?_, fun l n => ?_, fun l => ?_,
    hmode⟩
  · rw [hidle, hlanes]
    exact iff_of_false nofun nofun
  · rw [(hlists l).1, hlanes]; rfl
  · rw [(hlists l).2, hlanes]; rfl
  · rw [(hlists l).1, (hlists l).2]
    exact ⟨nofun, nofun⟩

theorem lanesLegal_alarmEntry (cause : AlarmCause) {s : State} (hlanes : 2 ≤ laneCount s.lanesEnabled) :
    (alarmEntry cause s).lanesLegal := by
  obtain ⟨n, h⟩ := alarmEntry_touches cause s
  rw [h]
  refine State.lanesLegal_of_idle (fun n => get_replicate _ n) rfl (fun l => ?_) (fun _ => hlanes)
  simp only [State.link, State.alarmed, get_mapTable]
  exact ⟨rfl, rfl⟩

/-- ALARM entry from RUNNING. -/
theorem State.lanesLegal.after_alarmEntry {s : State} (hs : s.lanesLegal) (cause : AlarmCause)
    (hrunning : s.mode = .running) : (alarmEntry cause s).lanesLegal := by
  obtain ⟨-, -, -, -, -, -, hcount⟩ := hs
  exact lanesLegal_alarmEntry cause (hcount (.inl hrunning))

/-- The self-test of a quiet part ends with its lanes counted (R168). -/
theorem lanesLegal_completeSelfTest (passed : BitVec 8) {s : State} (hquiet : s.quiet) :
    (completeSelfTest passed s).lanesLegal := by
  obtain ⟨-, -, -, -, hidle, -, hlinks, -⟩ := hquiet
  unfold completeSelfTest
  extract_lets few pool noticed
  have hnoticed : noticed = { pool with notices := noticed.notices } := by
    dsimp only [noticed]
    split <;> rfl
  have hlists : ∀ l, (s.link l).outList = [] ∧ (s.link l).inList = [] := fun l => by
    obtain ⟨-, -, -, hout, hin⟩ := hlinks l
    exact ⟨hout, hin⟩
  have hmode : ∀ m : Mode, (m = .running ∨ m = .alarm → 2 ≤ laneCount passed) →
      State.lanesLegal { noticed with mode := m } := by
    intro m hm
    rw [hnoticed]
    exact State.lanesLegal_of_idle (fun n => get_replicate _ n) hidle hlists hm
  by_cases hfew : laneCount passed < 2
  · rw [if_pos (decide_eq_true hfew)]
    exact hmode .failed nofun
  · have henough : 2 ≤ laneCount passed := Nat.not_lt.1 hfew
    rw [if_neg fun h => hfew (of_decide_eq_true h)]
    refine .ite (fun _ => lanesLegal_alarmEntry _ ?_) (fun _ => hmode .running fun _ => henough)
    rw [hnoticed]
    exact henough

theorem lanesLegal_reset : State.reset.lanesLegal :=
  State.lanesLegal_of_idle (fun n => get_replicate _ n) rfl
    (fun l => by rw [show State.reset.link l = Link.reset from get_replicate _ l]; exact ⟨rfl, rfl⟩) nofun

theorem lanesLegal_released (kind : ResetKind) (address : BitVec 3) (rateHigh : Bool) (s : State) :
    (released kind address rateHigh s).lanesLegal :=
  lanesLegal_reset.of_same rfl rfl rfl rfl fun _ => ⟨rfl, rfl⟩

/-! ### Every request -/

section Requests

variable {s : State} (hs : s.lanesLegal)
include hs

theorem State.lanesLegal.after_openStream (ps : List Byte) : (openStream ps s).lanesLegal := by
  unfold openStream
  split <;> exact hs

theorem State.lanesLegal.after_closeStream (d : Dir) (i : StreamNo) : (closeStream d i s).lanesLegal := by
  cases d with
  | out => exact .ite (fun _ => hs) (fun _ => hs)
  | inn => exact .ite (fun _ => hs) (fun _ => hs)

theorem State.lanesLegal.after_judgeSwitch (i : StreamNo) : answerLeaves State.lanesLegal (judgeSwitch i s) := by
  have hrequested : ∀ a, answerLeaves State.lanesLegal (answerDone (requestSwitch i a s)) := fun a => by
    obtain ⟨o, n, h⟩ := requestSwitch_touches i a s
    rw [h]
    exact answerLeaves_done hs
  unfold judgeSwitch
  split
  · exact answerLeaves_refuse _ _
  · exact answerLeaves_refuse _ _
  · exact answerLeaves_refuse _ _
  · split
    · exact hrequested _
    · exact hrequested _
    · exact answerLeaves_refuse _ _

theorem State.lanesLegal.after_zeroScope (scope : Nat) (l : LinkNo) (i : StreamNo) :
    (zeroScope scope l i s).lanesLegal := by
  unfold zeroScope
  split
  · exact hs
  · exact hs.modLink_beside rfl rfl
  · exact hs.modLink_beside rfl rfl
  · exact hs.modLink_beside rfl rfl
  · exact hs
  · exact hs

theorem State.lanesLegal.after_stopLink (l : LinkNo) (action : Nat) : (stopLink l action s).lanesLegal :=
  .ite (fun _ => hs.after_drainLink l _) (fun _ => hs.after_stopLinkNow l _)

end Requests

theorem requestTable_keepsLanes :
    ∀ r ∈ requestTable, ∀ (ps : List Byte) (s : State), s.lanesLegal → answerLeaves State.lanesLegal (r.judge ps s) := by
  simp only [requestTable, List.forall_mem_append, List.forall_mem_cons]
  refine ⟨⟨⟨⟨⟨⟨?poll, ?identify, ?readStatus, ?readNotices, ?noticeSetup, ?readCounters, ?deviceSetup, nofun⟩,
    ?linkSetup, ?rampSet, ?linkStart, ?linkStop, ?readLink, ?readLinkChanges, nofun⟩,
    ?rulePut, ?ruleDrop, ?readRule, nofun⟩,
    ?streamOpen, ?streamClose, ?readStream, ?keyLoad, ?keyRetire, ?keySwitch, ?kwkLoad, ?kwkErase, nofun⟩,
    ?timeSet, ?timeTrim, ?timeRead, ?triggerArm, ?triggerCancel, ?triggerRelease, ?readTrigger, nofun⟩,
    ?restart, ?zeroize, ?alarmClear, ?readRetained, nofun⟩
  all_goals intro ps s hs
  case linkSetup | rampSet | linkStart => exact answerLeaves_checked (answerLeaves_done (hs.modLink_beside rfl rfl))
  case linkStop => exact answerLeaves_checked (answerLeaves_done (hs.after_stopLink _ _))
  case readCounters =>
    exact answerLeaves_checked (answerLeaves_data _ (.ite (fun _ => hs) (fun _ => hs.after_zeroScope _ _ _)))
  case streamOpen => exact answerLeaves_checked (answerLeaves_done (hs.after_openStream ps))
  case streamClose => exact answerLeaves_checked (answerLeaves_done (hs.after_closeStream _ _))
  case keyLoad => exact answerLeaves_checked (answerLeaves_done (hs.after_startLoad _))
  case keyRetire => exact answerLeaves_checked (answerLeaves_done (hs.after_retireKey _ _ _))
  case keySwitch => exact answerLeaves_checked (hs.after_judgeSwitch _)
  case timeSet => exact answerLeaves_done (hs.after_setTime _)
  case zeroize => exact answerLeaves_done (.ite (fun hrunning => hs.after_alarmEntry _ hrunning) (fun _ => hs))
  case alarmClear =>
    refine answerLeaves_of_passes fun hpass => answerLeaves_done ?_
    simp only [firstFailing_cons_eq_none_iff, decide_eq_false_iff_not, not_not] at hpass
    obtain ⟨halarm, -⟩ := hpass
    obtain ⟨hpool, hjob, hqueue, hout, hin, hitems, hcount⟩ := hs
    exact ⟨hpool, hjob, hqueue, hout, hin, hitems, fun _ => hcount (.inr halarm)⟩
  case readStream => exact answerLeaves_checked (answerLeaves_ok _ hs)
  case poll | identify | readStatus | readLinkChanges | timeRead | readRetained => exact answerLeaves_data _ hs
  case readNotices | readLink | readRule | readTrigger => exact answerLeaves_checked (answerLeaves_data _ hs)
  case restart => exact answerLeaves_done hs
  case noticeSetup | deviceSetup | rulePut | ruleDrop | kwkLoad | kwkErase | timeTrim | triggerArm | triggerCancel
    | triggerRelease => exact answerLeaves_checked (answerLeaves_done hs)

theorem lanesLegal_keptByRequests : KeptByRequests State.lanesLegal where
  line _ _ hs := hs
  requests := requestTable_keepsLanes

/-! ### Every command -/

theorem Link.refreshMicro_lists (k : Link) : k.refreshMicro.outList = k.outList ∧ k.refreshMicro.inList = k.inList := by
  unfold Link.refreshMicro
  split
  · exact ⟨rfl, rfl⟩
  · split <;> exact ⟨rfl, rfl⟩

theorem Link.received_lists (k : Link) (side : Side) (f : Frame) :
    (k.received side f).outList = k.outList ∧ (k.received side f).inList = k.inList := by
  unfold Link.received Link.offerOut Link.offerIn Link.arrived
  split
  · exact ⟨rfl, rfl⟩
  · split
    · exact ⟨rfl, rfl⟩
    · exact ⟨rfl, rfl⟩
    · split
      · split
        · split <;> exact ⟨rfl, rfl⟩
        · exact ⟨rfl, rfl⟩
      · split <;> exact ⟨rfl, rfl⟩

theorem Link.went_lists (k : Link) (side : Side) :
    ((k.wentUp side).outList = k.outList ∧ (k.wentUp side).inList = k.inList) ∧
      (k.wentDown side).outList = k.outList ∧ (k.wentDown side).inList = k.inList := by
  unfold Link.wentUp Link.wentDown
  cases side
  · exact ⟨⟨rfl, rfl⟩, rfl, rfl⟩
  · dsimp only
    constructor <;> split <;> exact ⟨rfl, rfl⟩

theorem Link.modFace_lists (k : Link) (side : Side) (f : Face → Face) :
    (k.modFace side f).outList = k.outList ∧ (k.modFace side f).inList = k.inList := by
  cases side <;> exact ⟨rfl, rfl⟩

section Other

variable {s : State} (hs : s.lanesLegal)
include hs

theorem State.lanesLegal.modLink_lists {l : LinkNo} {f : Link → Link}
    (h : (f (s.link l)).outList = (s.link l).outList ∧ (f (s.link l)).inList = (s.link l).inList) :
    (s.modLink l f).lanesLegal :=
  hs.modLink_beside h.1 h.2

theorem State.lanesLegal.after_holdReset (kind : ResetKind) : (holdReset kind s).lanesLegal :=
  hs.mapLinks (f := fun k => { k with rack := k.rack.stopped .lost, campus := k.campus.stopped .lost })
    (fun _ => rfl) (fun _ => rfl)

theorem State.lanesLegal.after_noteChange (l : LinkNo) (side : Side) : (noteChange l side s).lanesLegal :=
  .ite (fun _ => hs) (fun _ => hs)

theorem State.lanesLegal.after_tamperByMode : (tamperByMode s).lanesLegal := by
  unfold tamperByMode
  split
  · obtain ⟨hpool, hjob, hqueue, hout, hin, hitems, hcount⟩ := hs
    exact ⟨hpool, hjob, hqueue, hout, hin, hitems, hcount⟩
  next hrunning => exact hs.after_alarmEntry _ hrunning
  · exact hs
  · exact hs

end Other

theorem exec_lanesLegal (c : Instr) {s t : State} (h : exec c s = .next t) (hquiet : s.quietOutsideRunning)
    (hs : s.lanesLegal) : t.lanesLegal := by
  have hkept := lanesLegal_keptByRequests
  cases c with
  | poll | identify | readStatus | readNotices | noticeSetup | readCounters | deviceSetup | linkSetup | rampSet
  | linkStart | linkStop | readLink | readLinkChanges | rulePut | ruleDrop | readRule | streamOpen | streamClose
  | readStream | keyLoad | keyRetire | keySwitch | kwkLoad | kwkErase | timeSet | timeTrim | timeRead
  | triggerArm | triggerCancel | triggerRelease | readTrigger | restart | zeroize | alarmClear | readRetained =>
    exact keeps_of_next h (hkept.after_takeRequest hs (by simp [requestTable]) _)
  | unknownRequest code ps => exact keeps_of_next h (hkept.after_recordArrives hs _ (hkept.after_takeRecord hs _))
  | recordCheckFailed head body check =>
    exact keeps_of_next h (hkept.after_recordArrives hs _ (hkept.after_judgeRecord hs _ _ _))
  | recordIgnored head body check =>
    exact keeps_of_next h (hkept.after_recordArrives hs _ (hkept.after_judgeRecord hs _ _ _))
  | recordLenInvalid len =>
    refine keeps_of_unlessHeld h hs ?_
    split
    · exact .ite (fun _ => hs) (fun _ => hs)
    · exact hs
  | framingError =>
    refine keeps_of_unlessHeld h hs (.ite (fun _ => hs) (fun _ => ?_))
    unfold badStopBit
    split <;> exact hs
  | recordGapTimeout =>
    refine keeps_of_unlessHeld h hs ?_
    split <;> exact hs
  | overlapByte byte => exact keeps_of_unlessHeld h hs (.ite (fun _ => hs) (fun _ => hs))
  | replyEnd =>
    refine keeps_of_unlessHeld h hs (.ite (fun _ => ?_) (fun _ => hs))
    have hended : (s.modLine fun ln => { ln with assembly := .hunt, reply := none }).lanesLegal := hs
    exact .ite (fun _ => hended.after_holdReset _) (fun _ => hended)
  | powerOn => exact keeps_of_next h (hs.after_holdReset .powerOn)
  | pinReset => exact keeps_of_next h (hs.after_holdReset _)
  | resetRelease address rateHigh =>
    refine keeps_of_next h ?_
    split
    · exact lanesLegal_released _ _ _ s
    · exact hs
  | selfTestComplete passed =>
    refine keeps_of_unlessHeld h hs (.ite (fun hstarting => ?_) (fun _ => hs))
    obtain ⟨hrest, -⟩ := hquiet
    exact lanesLegal_completeSelfTest passed (hrest (by rw [hstarting]; nofun))
  | tamperAssert =>
    have hlevel : State.lanesLegal { s with tamperAsserted := true, kwk := none } := hs
    exact keeps_of_next h
      (.ite (fun _ => hs) fun _ => .ite (fun _ => hlevel) (fun _ => hlevel.after_tamperByMode))
  | tamperDeassert => exact keeps_of_next (P := State.lanesLegal) h hs
  | referenceTick => exact keeps_of_unlessHeld h hs hs.after_tick
  | rampStageEnd link =>
    refine keeps_of_unlessHeld h hs ?_
    split
    · exact .ite (fun _ => hs.modLink_beside rfl rfl) (fun _ => hs)
    · exact hs
  | pauseRefresh link =>
    refine keeps_of_unlessHeld h hs ?_
    split
    · exact .ite (fun _ => hs.modLink_lists (Link.refreshMicro_lists _)) (fun _ => hs)
    · exact hs
  | graceExpiry stream slot =>
    refine keeps_of_unlessHeld h hs (.ite (fun _ => ?_) (fun _ => hs))
    obtain ⟨o, n, heq⟩ := leaveInSlot_touches stream slot s
    rw [heq]
    exact hs
  | lifetimeExpiry stream =>
    refine keeps_of_unlessHeld h hs ?_
    split
    · refine .ite (fun _ => ?_) (fun _ => hs)
      obtain ⟨o, n, heq⟩ := secondAtSlot_touches stream _ s
      rw [heq]
      exact hs
    · exact hs
  | pulseEdge => exact keeps_of_unlessHeld h hs hs.after_edge
  | triggerFire slot event =>
    refine keeps_of_unlessHeld h hs ?_
    split
    · exact .ite (fun _ => hs.after_fireTrigger _ _ _) (fun _ => hs)
    · exact hs
  | faceUp link side =>
    exact keeps_of_unlessHeld h hs
      (.ite (fun _ => hs) fun _ => (hs.modLink_lists (Link.went_lists _ side).1).after_noteChange link side)
  | faceDown link side =>
    exact keeps_of_unlessHeld h hs
      (.ite (fun _ => (hs.modLink_lists (Link.went_lists _ side).2).after_noteChange link side) (fun _ => hs))
  | frameReceived link side frame =>
    exact keeps_of_unlessHeld h hs (.ite (fun _ => hs.modLink_lists (Link.received_lists _ _ _)) (fun _ => hs))
  | pauseSend link => exact keeps_of_unlessHeld h hs (.ite (fun _ => hs.modLink_beside rfl rfl) (fun _ => hs))
  | transmissionEnd link side => exact keeps_of_unlessHeld h hs (hs.modLink_lists (Link.modFace_lists _ _ _))
  | outboundGrant read =>
    refine keeps_of_unlessHeld h hs ?_
    split
    next r n hnext =>
      obtain ⟨hfree, henabled⟩ := lane_of_nextGrant hnext
      have hnoted : (noteTrafficGrant r s).lanesLegal := hs
      exact .ite (fun _ => hnoted.after_grantOutbound hfree henabled _ read) (fun _ => hs)
    next => exact hs
  | inboundGrant read =>
    refine keeps_of_unlessHeld h hs ?_
    split
    next r n hnext =>
      obtain ⟨hfree, henabled⟩ := lane_of_nextGrant hnext
      have hnoted : (noteTrafficGrant r s).lanesLegal := hs
      exact .ite (fun _ => hs) (fun _ => hnoted.after_grantInbound hfree henabled _ read)
    next => exact hs
  | keyPreparationGrant =>
    refine keeps_of_unlessHeld h hs ?_
    split
    next n hnext =>
      obtain ⟨hfree, henabled⟩ := lane_of_nextGrant hnext
      obtain ⟨-, hidle⟩ := (keyUnitRequests_iff s).1 (keyUnitRequests_of_nextGrant hnext)
      have hreset : (resetCount s).lanesLegal := hs
      exact hreset.after_grantKeyUnit hfree henabled hidle
    next => exact hs
  | laneCompletion lane =>
    refine keeps_of_unlessHeld h hs ?_
    split
    next hlane => exact hs.completesOut hlane
    next hlane => exact hs.completesIn hlane
    next => exact hs
  | keyJobCompletion =>
    refine keeps_of_unlessHeld h hs ?_
    split
    · exact hs.after_completeJob _ _
    · exact hs
  | outboundRelease link => exact keeps_of_unlessHeld h hs (hs.after_releaseOutbound link)
  | inboundRelease link => exact keeps_of_unlessHeld h hs (hs.after_releaseInbound link)
  | drainComplete link => exact keeps_of_unlessHeld h hs (hs.after_drainCheck link)
  | byteReceived byte => exact keeps_of_unlessHeld h hs (hkept.after_receiveByte hs byte)

theorem step_lanesLegal {s t : State} (hquiet : s.quietOutsideRunning) (hs : s.lanesLegal) (h : step s = .next t) :
    t.lanesLegal := by
  cases hpending : s.pending with
  | nil =>
    rw [step_of_pending_nil hpending] at h
    exact keeps_of_next h hs
  | cons c rest =>
    rw [step_of_pending_cons hpending] at h
    exact exec_lanesLegal c h hquiet hs

/-- Settles O14: the counts with the rules of slots, by every operation on a list or a slot; the lane pool by the grants,
completions, releases and stops that write a lane. -/
theorem countsMatchItems : Obligations.CountsMatchItems :=
  ⟨fun _ _ hlegal _ hcounts hstep => step_countsInFlight hlegal hcounts hstep,
    fun _ _ hquiet hs hstep => step_lanesLegal hquiet hs hstep⟩

end Sys2Proof.Machine
end

section
/-! FAMILY the state after reset (O17). -/

namespace Sys2Proof.Machine

theorem State.reset_lineLegal : State.reset.line.legal :=
  ⟨trivial, fun _ => rfl, nofun, by decide, by decide, by decide, by decide⟩

theorem State.reset_linksLegal : State.reset.linksLegal := by
  refine ⟨fun l => ?_, Nat.zero_le 2⟩
  have hlink : State.reset.link l = Link.reset := get_replicate _ l
  rw [hlink]
  exact Link.legal_reset

theorem State.reset_noticesLegal : State.reset.noticesLegal := by
  intro k _
  have hnotice : State.reset.notices.get k = Notice.reset := get_replicate _ k
  rw [hnotice]
  exact ⟨rfl, rfl, rfl, rfl⟩

/-- No rule is valid after reset. -/
theorem State.reset_rulesNameOpenStreams : State.reset.rulesNameOpenStreams := by
  intro r hvalid
  have hrule : State.reset.rules.get r = Rule.empty := get_replicate _ r
  rw [hrule] at hvalid
  cases hvalid

/-- Settles O17, law by law. -/
theorem resetMeetsInvariants : Obligations.ResetMeetsInvariants := by
  obtain ⟨hslots, hcounts⟩ := (State.slotsCounted_nil_iff State.reset).1 slotsCounted_reset
  exact ⟨TimeBase.reset_inRange, State.reset_settingsInRange, State.reset_lineLegal, State.reset_linksLegal,
    State.reset_noticesLegal, ⟨fun _ => State.reset_quiet, nofun⟩, hslots, hcounts, lanesLegal_reset,
    State.reset_rulesNameOpenStreams, triggersLegal_of_empty fun j => get_replicate _ j⟩

end Sys2Proof.Machine
end

section
/-! FAMILY slots that leave service (O31). -/

namespace Sys2Proof.Machine

/-! ### One slot -/

theorem leaveOutSlot_of_idle {i : StreamNo} {k : SlotNo} {s : State} (h : (s.outSlot i k).inFlight = 0) :
    leaveOutSlot i k s =
      raise .slotFreed (.outStream i) (s.modOutSlot i k fun sl => OutSlot.empty sl.lastLoad) := by
  refine (if_pos h).trans (congrArg _ ?_)
  exact State.modOutSlot_congr (if_pos h)

theorem leaveInSlot_of_idle {i : StreamNo} {k : SlotNo} {s : State} (h : (s.inSlot i k).inFlight = 0) :
    leaveInSlot i k s =
      raise .slotFreed (.inStream i) (s.modInSlot i k fun sl => InSlot.empty sl.lastLoad) := by
  refine (if_pos h).trans (congrArg _ ?_)
  exact State.modInSlot_congr (if_pos h)

theorem leaveInSlot_of_inFlight {i : StreamNo} {k : SlotNo} {s : State} (h : (s.inSlot i k).inFlight ≠ 0) :
    leaveInSlot i k s = s.modInSlot i k fun sl => { sl with state := .draining, grace := 0 } :=
  (if_neg h).trans (State.modInSlot_congr (if_neg h))

/-! ### The stream whose ACTIVE slot leaves -/

theorem OutStream.leftActive_eq (a : SlotNo) (st : OutStream) :
    st.leftActive a =
      { st with
        state := if (st.slots.get (otherSlot a)).state = .ready then .active (otherSlot a) else .stalled
        pendingSwitch := none
        slots := (st.leftActive a).slots } := by
  unfold OutStream.leftActive
  split
  · rfl
  · rfl

theorem OutStream.leftActive_slot_left (a : SlotNo) (st : OutStream) :
    (st.leftActive a).slots.get a = (st.slots.get a).left := by
  unfold OutStream.leftActive
  split
  · exact OutStream.switched_slot_left a st
  · exact get_putAt_self _ a _

theorem OutStream.leftActive_slot_other (a : SlotNo) (st : OutStream) :
    (st.leftActive a).slots.get (otherSlot a) =
      if (st.slots.get (otherSlot a)).state = .ready then { st.slots.get (otherSlot a) with state := .active }
      else st.slots.get (otherSlot a) := by
  unfold OutStream.leftActive
  split
  · exact OutStream.switched_slot_other a st
  · exact get_putAt_ne _ _ (otherSlot_ne a)

theorem leaveActive_outStream_self (i : StreamNo) (a : SlotNo) (s : State) :
    (leaveActive i a s).outStream i = (s.outStream i).leftActive a := by
  rw [leaveActive_outStream, if_pos rfl]

/-- Settles O31: `left` says what the slot that leaves becomes, `leftActive` what its stream does. -/
theorem slotsLeaveService : Obligations.SlotsLeaveService := by
  intro i k s
  refine ⟨leaveOutSlot_of_idle, fun h => ?outDrains, leaveInSlot_of_idle, leaveInSlot_of_inFlight, ?frame,
    fun j hj => ?others, ?stream, ?slotLeft, ?slotOther, leaveActive_raisesExactly i k s⟩
  case outDrains =>
    rw [leaveOutSlot_of_inFlight h]
    exact State.modOutSlot_congr (OutSlot.left_of_inFlight h)
  case frame =>
    obtain ⟨o, n, h⟩ := leaveActive_touches i k s
    rw [h]
  case others => rw [leaveActive_outStream, if_neg hj]
  case stream =>
    rw [leaveActive_outStream_self]
    exact OutStream.leftActive_eq k _
  case slotLeft =>
    rw [State.outSlot, leaveActive_outStream_self]
    exact OutStream.leftActive_slot_left k _
  case slotOther =>
    rw [State.outSlot, leaveActive_outStream_self]
    exact OutStream.leftActive_slot_other k _

end Sys2Proof.Machine
end

section
/-! FAMILY opening, reading and closing streams (O27, O28). -/

namespace Sys2Proof.Machine

/-! ### Requests about one stream -/

/-- The parameters of a stream request begin with the direction and the stream. -/
theorem streamBytes_spell (d : Byte) (i : StreamNo) (rest : List Byte) :
    byteAt ([d] ++ bytesOfNat 1 i.1 ++ rest) 0 = d.toNat ∧ byteAt ([d] ++ bytesOfNat 1 i.1 ++ rest) 1 = i.1 := by
  refine ⟨rfl, ?_⟩
  rw [List.append_assoc]
  exact byteAt_after [d] rest 1 i.1 rfl (by omega)

theorem dirAt_of_out {ps : List Byte} (h : byteAt ps 0 = 0) : dirAt ps 0 = .out := if_pos h

theorem dirAt_of_inn {ps : List Byte} (h : byteAt ps 0 = 1) : dirAt ps 0 = .inn := if_neg (by omega)

/-- The two checks every stream request begins with pass where a direction and a stream stand (R4, R6, R8). -/
theorem streamNamed_passes {ps : List Byte} {i : StreamNo} (hdir : byteAt ps 0 ≤ 1) (hi : byteAt ps 1 = i.1) :
    dirBad ps = false ∧ decide (64 ≤ byteAt ps 1) = false := by
  simp only [dirBad, hi, decide_eq_false_iff_not]
  omega

/-! ### STREAM_OPEN (R4, R5) -/

/-- The parameters of STREAM_OPEN for an outbound stream; `streamOpenOutBytes_spell` reads them back. -/
def streamOpenOutBytes (i : StreamNo) (l : LinkNo) (streamId : Nat) (auto : Byte) : List Byte :=
  [0] ++ bytesOfNat 1 i.1 ++ bytesOfNat 1 l.1 ++ bytesOfNat 2 streamId ++ [auto]

/-- The parameters of STREAM_OPEN for an inbound stream; `streamOpenInnBytes_spell` reads them back. -/
def streamOpenInnBytes (i : StreamNo) (l : LinkNo) (streamId w grace threshold : Nat) : List Byte :=
  [1] ++ bytesOfNat 1 i.1 ++ bytesOfNat 1 l.1 ++ bytesOfNat 2 streamId ++ bytesOfNat 1 w ++ bytesOfNat 2 grace ++
    bytesOfNat 2 threshold

theorem streamOpenOutBytes_spell (i : StreamNo) (l : LinkNo) {streamId : Nat} (auto : Byte) (hid : streamId < 65536) :
    let ps := streamOpenOutBytes i l streamId auto
    byteAt ps 0 = 0 ∧ byteAt ps 1 = i.1 ∧ byteAt ps 2 = l.1 ∧ numAt ps 3 2 = streamId ∧ byteAt ps 5 = auto.toNat := by
  have hdir : ([0] : List Byte) = bytesOfNat 1 0 := rfl
  have hauto : [auto] = bytesOfNat 1 auto.toNat := by simp [bytesOfNat]
  have hlt : auto.toNat < 256 := auto.isLt
  have hi := i.2
  have hl := l.2
  simp (disch := omega) only [streamOpenOutBytes, hdir, hauto, byteAt_eq_numAt, List.append_assoc, numAt_past_field,
    numAt_front, numAt_whole, Nat.reduceSub, and_self]

theorem streamOpenInnBytes_spell (i : StreamNo) (l : LinkNo) {streamId w grace threshold : Nat}
    (hid : streamId < 65536) (hw : w ≤ 64) (hgrace : grace ≤ 10000) (hthreshold : threshold < 65536) :
    let ps := streamOpenInnBytes i l streamId w grace threshold
    byteAt ps 0 = 1 ∧ byteAt ps 1 = i.1 ∧ byteAt ps 2 = l.1 ∧ numAt ps 3 2 = streamId ∧ byteAt ps 5 = w ∧
      numAt ps 6 2 = grace ∧ numAt ps 8 2 = threshold := by
  have hdir : ([1] : List Byte) = bytesOfNat 1 1 := rfl
  have hi := i.2
  have hl := l.2
  simp (disch := omega) only [streamOpenInnBytes, hdir, byteAt_eq_numAt, List.append_assoc, numAt_past_field,
    numAt_front, numAt_whole, Nat.reduceSub, and_self]

theorem streamOpenChecks_pass_out {ps : List Byte} {i : StreamNo} {l : LinkNo} {s : State} (hdir : byteAt ps 0 = 0)
    (hi : byteAt ps 1 = i.1) (hl : byteAt ps 2 = l.1) (hunused : (s.outStream i).state = .unused)
    (hfree : ∀ j, j ≠ i → (s.outStream j).state ≠ .unused → (s.outStream j).link = l →
      (s.outStream j).streamId ≠ numAt ps 3 2) :
    firstFailing (streamOpenChecks ps s) = none := by
  obtain ⟨hnotBad, hstream⟩ := streamNamed_passes (by omega) hi
  have hlink : decide (4 ≤ byteAt ps 2) = false := by rw [hl, decide_eq_false_iff_not]; omega
  have htaken : streamIdTaken s .out i l (numAt ps 3 2) = false := by
    simp only [streamIdTaken, List.any_eq_false, Bool.and_eq_true, decide_eq_true_eq, beq_iff_eq]
    rintro j - ⟨hj, ⟨hopen, hsame⟩, hid⟩
    exact hfree j hj hopen hsame hid
  simp [streamOpenChecks, hnotBad, hstream, hlink, hdir, dirAt_of_out hdir,
    streamAt_of_byteAt hi, linkAt_of_byteAt hl, htaken, streamUnused, hunused, firstFailing]

theorem streamOpenChecks_pass_inn {ps : List Byte} {i : StreamNo} {l : LinkNo} {s : State} (hdir : byteAt ps 0 = 1)
    (hi : byteAt ps 1 = i.1) (hl : byteAt ps 2 = l.1) (hw : byteAt ps 5 ≤ 64) (hgrace : numAt ps 6 2 ≤ 10000)
    (hclosed : (s.inStream i).isOpen = false)
    (hfree : ∀ j, j ≠ i → (s.inStream j).isOpen = true → (s.inStream j).link = l →
      (s.inStream j).streamId ≠ numAt ps 3 2) :
    firstFailing (streamOpenChecks ps s) = none := by
  obtain ⟨hnotBad, hstream⟩ := streamNamed_passes (by omega) hi
  have hlink : decide (4 ≤ byteAt ps 2) = false := by rw [hl, decide_eq_false_iff_not]; omega
  have htaken : streamIdTaken s .inn i l (numAt ps 3 2) = false := by
    simp only [streamIdTaken, List.any_eq_false, Bool.and_eq_true, decide_eq_true_eq, beq_iff_eq]
    rintro j - ⟨hj, ⟨hopen, hsame⟩, hid⟩
    exact hfree j hj hopen hsame hid
  simp [streamOpenChecks, hnotBad, hstream, hlink, hw.not_gt, hgrace.not_gt, dirAt_of_inn hdir,
    streamAt_of_byteAt hi, linkAt_of_byteAt hl, htaken, streamUnused, hclosed, firstFailing]

/-- A STREAM_OPEN of fitting length that passes its checks is answered DONE. -/
theorem exec_streamOpen_of_passes {ps : List Byte} {s : State} (hs : s.serves) (hfits : streamOpenFits ps = true)
    (hpass : firstFailing (streamOpenChecks ps s) = none) :
    exec (.streamOpen ps) s = .next (answersDone 0x40 (openStream ps s)) :=
  congrArg Host.Outcome.next (takeRequest_done (r := reqStreamOpen) hs hfits (checked_of_passes _ hpass))

/-! ### READ_STREAM (R8) -/

/-- A request of fitting length that RUNNING and ALARM let through, and that its own checks accept, is answered DATA
with the content its judgement carries (R181, R183, R185). -/
theorem takeRequest_content {r : Request} {ps : List Byte} {s t : State} {c : ReplyContent} (hs : s.reads)
    (hadmitted : alarmAdmits.contains r.code = true) (hfits : r.fits ps = true)
    (hjudge : r.judge ps s = .ok (some c, t)) :
    takeRequest r ps s = setReply { kind := .data, code := r.code, content := c } t := by
  obtain ⟨⟨hreset, hreply⟩, hmode⟩ := hs
  have hrefusal : modeRefusal s.mode r.code = none := by
    rcases hmode with h | h
    · rw [h]; rfl
    · rw [h, modeRefusal, if_pos hadmitted]
  have hanswer : answerRequest r ps s = setReply { kind := .data, code := r.code, content := c } t := by
    simp only [answerRequest, judgement, hfits, not_true_eq_false, if_false, hrefusal, hjudge]
    rfl
  simp only [takeRequest, recordArrives, hreset, hreply, Option.isSome_none, Bool.false_eq_true, if_false, hanswer]

theorem exec_readStream {d : Byte} {i : StreamNo} {s : State} (hs : s.reads) (hd : d.toNat ≤ 1) :
    exec (.readStream ([d] ++ bytesOfNat 1 i.1)) s =
      .next (setReply
        { kind := .data, code := 0x42, content := streamContent s (dirAt ([d] ++ bytesOfNat 1 i.1) 0) i } s) := by
  obtain ⟨hdir, hi⟩ := streamBytes_spell d i []
  rw [List.append_nil] at hdir hi
  obtain ⟨hnotBad, hstream⟩ := streamNamed_passes (hdir.trans_le hd) hi
  have hjudge : reqReadStream.judge ([d] ++ bytesOfNat 1 i.1) s =
      .ok (some (streamContent s (dirAt ([d] ++ bytesOfNat 1 i.1) 0) i), s) := by
    dsimp only [reqReadStream]
    rw [checked_cons_of_passes _ _ _ hnotBad, checked_cons_of_passes _ _ _ hstream, checked_nil, streamAt_of_byteAt hi]
  exact congrArg Host.Outcome.next
    (takeRequest_content (r := reqReadStream) hs (by decide) (by simp [reqReadStream]) hjudge)

/-! ### The state of an inbound stream (R3) -/

theorem InStream.state_eq_active_iff (st : InStream) :
    st.state = .active ↔ st.isOpen = true ∧ ∃ k, (st.slots.get k).state = .active := by
  have hslots : (st.slots.toList.any fun sl => sl.state == .active) = true ↔ ∃ k, (st.slots.get k).state = .active := by
    simp only [any_toList_iff, beq_iff_eq]
  rw [← hslots, InStream.state]
  cases st.isOpen
  · simp
  · cases st.slots.toList.any fun sl => sl.state == .active <;> simp

theorem InStream.state_eq_unused_iff (st : InStream) : st.state = .unused ↔ st.isOpen = false := by
  unfold InStream.state
  cases st.isOpen
  · simp
  · cases st.slots.toList.any fun sl => sl.state == .active <;> simp

/-- Settles O27: the parameters read back, so the checks of R4 pass and the record is the one they spell. -/
theorem streamsOpenAndAreRead : Obligations.StreamsOpenAndAreRead := by
  intro i s
  refine ⟨fun l streamId auto hs hid hunused hfree => ?openOut,
    fun l streamId w grace threshold hs hid hw hgrace hthreshold hclosed hfree => ?openInn,
    fun hs => ⟨exec_readStream (d := 0) hs (by decide), exec_readStream (d := 1) hs (by decide)⟩,
    InStream.state_eq_active_iff _, InStream.state_eq_unused_iff _⟩
  case openOut =>
    obtain ⟨hdir, hi, hl, hsid, hauto⟩ := streamOpenOutBytes_spell i l auto hid
    have hpass := streamOpenChecks_pass_out hdir hi hl hunused (by rw [hsid]; exact hfree)
    have hexec := exec_streamOpen_of_passes hs
      (by rw [streamOpenFits_eq, hdir]; simp [streamOpenOutBytes, lenIs]) hpass
    rw [openStream, dirAt_of_out hdir, streamAt_of_byteAt hi, linkAt_of_byteAt hl, hsid, hauto] at hexec
    have hset : decide (auto ≠ 0) = decide (auto.toNat ≠ 0) := by
      rw [decide_eq_decide, ← BitVec.toNat_inj.ne]; rfl
    rw [hset]
    exact hexec
  case openInn =>
    obtain ⟨hdir, hi, hl, hsid, hwindow, hspan, hlimit⟩ := streamOpenInnBytes_spell i l hid hw hgrace hthreshold
    have hpass := streamOpenChecks_pass_inn hdir hi hl (by omega) (by omega) hclosed (by rw [hsid]; exact hfree)
    have hexec := exec_streamOpen_of_passes hs
      (by rw [streamOpenFits_eq, hdir]; simp [streamOpenInnBytes, lenIs]) hpass
    rw [openStream, dirAt_of_inn hdir, streamAt_of_byteAt hi, linkAt_of_byteAt hl, hsid, hwindow, hspan,
      hlimit] at hexec
    exact hexec

/-! ### STREAM_CLOSE (R6, R7) -/

/-- No ARMED trigger names the stream, trigger by trigger (R6 check 3). -/
theorem triggerNames_eq_false {s : State} {i : StreamNo}
    (h : ∀ j c a, s.triggers.get j = .armed c a → i ∉ a.streams ∧ c.watched ≠ some i) : triggerNames s i = false := by
  rw [triggerNames, List.any_eq_false]
  rintro t ht
  obtain ⟨j, hj⟩ := mem_toList_iff.1 ht
  cases t with
  | empty => exact nofun
  | armed c a =>
    obtain ⟨hlist, hwatch⟩ := h j c a hj
    simp [hlist, hwatch]
  | faulted _ _ _ _ => exact nofun

theorem streamBusy_out_eq_false {s : State} {i : StreamNo}
    (h : ∀ k, (s.outSlot i k).inFlight = 0 ∧ (s.outSlot i k).state ≠ .loading ∧ (s.outSlot i k).state ≠ .draining) :
    streamBusy s .out i = false := by
  rw [streamBusy, List.any_eq_false]
  intro sl hsl
  obtain ⟨k, rfl⟩ := mem_toList_iff.1 hsl
  obtain ⟨hidle, hloading, hdraining⟩ := h k
  rw [State.outSlot, State.outStream] at hidle hloading hdraining
  simp [State.outStream, hidle, hloading, hdraining]

theorem streamBusy_inn_eq_false {s : State} {i : StreamNo}
    (h : ∀ k, (s.inSlot i k).inFlight = 0 ∧ (s.inSlot i k).state ≠ .loading ∧ (s.inSlot i k).state ≠ .draining) :
    streamBusy s .inn i = false := by
  rw [streamBusy, List.any_eq_false]
  intro sl hsl
  obtain ⟨k, rfl⟩ := mem_toList_iff.1 hsl
  obtain ⟨hidle, hloading, hdraining⟩ := h k
  rw [State.inSlot, State.inStream] at hidle hloading hdraining
  simp [State.inStream, hidle, hloading, hdraining]

/-- A slot that is neither LOADING nor DRAINING is READY or ACTIVE unless it is EMPTY: its end raises SLOT_FREED. -/
theorem OutSlotState.serves_iff {x : OutSlotState} (hloading : x ≠ .loading) (hdraining : x ≠ .draining) :
    (x == .ready || x == .active) = true ↔ x ≠ .empty := by
  cases x <;> simp_all

theorem InSlotState.serves_iff {x : InSlotState} (hloading : x ≠ .loading) (hdraining : x ≠ .draining) :
    (x == .ready || x == .active || x == .grace) = true ↔ x ≠ .empty := by
  cases x <;> simp_all

/-- Which of its two outcomes closing an outbound stream has, where no slot is LOADING or DRAINING (R7). -/
theorem closeStream_out {s : State} {i : StreamNo}
    (h : ∀ k, (s.outSlot i k).state ≠ .loading ∧ (s.outSlot i k).state ≠ .draining) :
    closeStream .out i s =
      if ∃ k, (s.outSlot i k).state ≠ .empty then raise .slotFreed (.outStream i) (s.modOut i OutStream.closed)
      else s.modOut i OutStream.closed := by
  refine if_congr ?_ rfl rfl
  rw [any_toList_iff]
  exact exists_congr fun k => OutSlotState.serves_iff (h k).1 (h k).2

theorem closeStream_inn {s : State} {i : StreamNo}
    (h : ∀ k, (s.inSlot i k).state ≠ .loading ∧ (s.inSlot i k).state ≠ .draining) :
    closeStream .inn i s =
      if ∃ k, (s.inSlot i k).state ≠ .empty then raise .slotFreed (.inStream i) (s.modIn i InStream.closed)
      else s.modIn i InStream.closed := by
  refine if_congr ?_ rfl rfl
  rw [any_toList_iff]
  exact exists_congr fun k => InSlotState.serves_iff (h k).1 (h k).2

/-- STREAM_CLOSE that passes the checks of R6 is answered DONE. -/
theorem exec_streamClose_of_passes {d : Byte} {i : StreamNo} {s : State} {dir : Dir} (hs : s.serves)
    (hd : d.toNat ≤ 1) (hdir : dirAt ([d] ++ bytesOfNat 1 i.1) 0 = dir) (hopen : streamUnused s dir i = false)
    (hrules : (decide (dir = .out) && ruleNames s i) = false)
    (htriggers : (decide (dir = .out) && triggerNames s i) = false) (hidle : streamBusy s dir i = false) :
    exec (.streamClose ([d] ++ bytesOfNat 1 i.1)) s = .next (answersDone 0x41 (closeStream dir i s)) := by
  obtain ⟨hbyte, hi⟩ := streamBytes_spell d i []
  rw [List.append_nil] at hbyte hi
  obtain ⟨hnotBad, hstream⟩ := streamNamed_passes (hbyte.trans_le hd) hi
  have hpass : firstFailing (streamCloseChecks ([d] ++ bytesOfNat 1 i.1) s) = none := by
    simp only [streamCloseChecks, firstFailing_eq_none_iff, List.forall_mem_cons, streamAt_of_byteAt hi, hdir]
    exact ⟨hnotBad, hstream, hopen, hrules, htriggers, hidle, nofun⟩
  have hjudge : reqStreamClose.judge ([d] ++ bytesOfNat 1 i.1) s = answerDone (closeStream dir i s) := by
    dsimp only [reqStreamClose]
    rw [checked_of_passes _ hpass, hdir, streamAt_of_byteAt hi]
  exact congrArg Host.Outcome.next (takeRequest_done (r := reqStreamClose) hs (by simp [reqStreamClose]) hjudge)

/-- Settles O28: the checks of R6 pass, and `closeStream` raises SLOT_FREED exactly where a slot was not EMPTY. -/
theorem streamsClose : Obligations.StreamsClose := by
  intro i s hs
  refine ⟨fun hopen hrules htriggers hidle => ?out, fun hopen hidle => ?inn⟩
  case out =>
    have hexec := exec_streamClose_of_passes (d := 0) (i := i) (dir := .out) hs (by decide) rfl (decide_eq_false hopen)
      (ruleNames_eq_false_iff.2 hrules) (triggerNames_eq_false htriggers) (streamBusy_out_eq_false hidle)
    rw [closeStream_out fun k => (hidle k).2] at hexec
    refine ⟨fun hused => ?_, fun hempty => ?_⟩
    · rw [if_pos hused] at hexec
      exact hexec
    · rw [if_neg fun ⟨k, hk⟩ => hk (hempty k)] at hexec
      exact hexec
  case inn =>
    have hexec := exec_streamClose_of_passes (d := 1) (i := i) (dir := .inn) hs (by decide) rfl
      (congrArg (!·) hopen) rfl rfl (streamBusy_inn_eq_false hidle)
    rw [closeStream_inn fun k => (hidle k).2] at hexec
    refine ⟨fun hused => ?_, fun hempty => ?_⟩
    · rw [if_pos hused] at hexec
      exact hexec
    · rw [if_neg fun ⟨k, hk⟩ => hk (hempty k)] at hexec
      exact hexec

end Sys2Proof.Machine
end

section
/-! FAMILY loading and retiring keys (O29, O30). -/

namespace Sys2Proof.Machine

/-! ### KEY_LOAD (R16 to R18) -/

theorem appendJob_eq (j : Job) (s : State) :
    appendJob j s =
      { s with
        keyUnit := { s.keyUnit with jobs := s.keyUnit.jobs ++ [j] }
        arbiter := if s.keyUnit.jobs = [] then { s.arbiter with count := 0 } else s.arbiter } := by
  unfold appendJob
  by_cases hempty : s.keyUnit.jobs = []
  · simp only [hempty, List.isEmpty_nil, if_true, resetCount]
  · simp only [hempty, List.isEmpty_iff, if_false]

/-- KEY_LOAD of fitting length that passes the checks of R17 is answered DONE. -/
theorem exec_keyLoad_of_passes {ps : List Byte} {s : State} (hs : s.serves) (hfits : keyLoadFits ps = true)
    (hpass : firstFailing (keyLoadChecks ps s) = none) :
    exec (.keyLoad ps) s = .next (answersDone 0x43 (beginLoading (jobOf ps) (appendJob (jobOf ps) s))) :=
  congrArg Host.Outcome.next (takeRequest_done (r := reqKeyLoad) hs hfits (checked_of_passes _ hpass))

/-- The checks of R17, in their order, for an EMPTY slot of an open stream, with a key-wrap key and room for the job. -/
theorem keyLoadChecks_pass {ps : List Byte} {i : StreamNo} {k : SlotNo} {s : State} {d : Dir} (hd : byteAt ps 0 ≤ 1)
    (hdir : dirAt ps 0 = d) (hi : byteAt ps 1 = i.1) (hk : byteAt ps 2 = k.1) (hfn : (loadRangeOf ps).fnBad = false)
    (hlifetime : (decide (d = .out) && lifetimeBad (byteAt ps 89) (numAt ps 90 4) (numAt ps 94 4)) = false)
    (hopen : streamUnused s d i = false) (hempty : slotTaken s d i k = false) (hkwk : s.kwk ≠ none)
    (hroom : s.keyUnit.jobs.length < 4) : firstFailing (keyLoadChecks ps s) = none := by
  obtain ⟨hnotBad, hstream⟩ := streamNamed_passes hd hi
  have hslot : decide (1 < byteAt ps 2) = false := by rw [hk, decide_eq_false_iff_not]; omega
  have hnotFull : decide (Config.loadQueueDepth ≤ s.keyUnit.jobs.length) = false := decide_eq_false hroom.not_ge
  simp only [keyLoadChecks, firstFailing_eq_none_iff, List.forall_mem_cons, streamAt_of_byteAt hi, slotAt_of_byteAt hk,
    hdir]
  exact ⟨hnotBad, hstream, hslot, hfn, hlifetime, hopen, hempty, by simpa [Option.isSome_iff_ne_none] using hkwk,
    hnotFull, nofun⟩

/-- A lifetime that passes check 5 of R17 is the one its kind byte names. -/
theorem lifetime_spelled {code limit warning : Nat} {kind : LifetimeKind}
    (h : code = 0 ∧ kind = .none ∨
      (code = 1 ∧ kind = .seconds ∨ code = 2 ∧ kind = .mebibytes) ∧ 1 ≤ limit ∧ warning ≤ limit) :
    lifetimeKindOf code = kind ∧ lifetimeBad code limit warning = false := by
  rcases h with ⟨rfl, rfl⟩ | ⟨⟨rfl, rfl⟩ | ⟨rfl, rfl⟩, hlimit, hwarning⟩
  · exact ⟨rfl, rfl⟩
  · simp [lifetimeKindOf, lifetimeBad]; omega
  · simp [lifetimeKindOf, lifetimeBad]; omega

/-- Settles O29: the checks of R17 pass, and the slot's LOADING and the job's joining write apart. -/
theorem keyLoadQueuesAJob : Obligations.KeyLoadQueuesAJob := by
  intro ps i k s hs hi hk hkwk hroom
  refine ⟨fun kind hlen hdir hopen hempty hfirst hsoft hhard hlifetime => ?out,
    fun hlen hdir hopen hempty hfirst => ?inn⟩
  case out =>
    have hd := dirAt_of_out hdir
    obtain ⟨hkind, hlifetimeFits⟩ := lifetime_spelled hlifetime
    have hmax : numAt ps 83 6 < 2 ^ 48 := numAt_lt ps 83 6
    have hrange : loadRangeOf ps =
        .out (numAt ps 71 6) (numAt ps 77 6) (numAt ps 83 6) kind (numAt ps 90 4) (numAt ps 94 4) := by
      rw [loadRangeOf, hd, hkind]
    have hfn : (loadRangeOf ps).fnBad = false := by
      rw [fnBad_loadRangeOf, hdir, decide_eq_true rfl, if_pos rfl,
        decide_eq_true ⟨hfirst, hsoft, hhard, Nat.le_sub_one_of_lt hmax⟩]
      rfl
    have hpass := keyLoadChecks_pass (hdir.trans_le (Nat.zero_le 1)) hd hi hk hfn hlifetimeFits
      (decide_eq_false hopen) (decide_eq_false (not_not.2 hempty)) hkwk hroom
    rw [exec_keyLoad_of_passes hs (by simp [keyLoadFits, hdir, hlen]) hpass, appendJob_eq, jobOf,
      streamAt_of_byteAt hi, slotAt_of_byteAt hk, hrange]
    rfl
  case inn =>
    have hd := dirAt_of_inn hdir
    have hrange : loadRangeOf ps = .inn (numAt ps 71 6) := by rw [loadRangeOf, hd]
    have hfn : (loadRangeOf ps).fnBad = false := by
      rw [hrange]
      exact beq_false_of_ne (by omega)
    have hpass := keyLoadChecks_pass hdir.le hd hi hk hfn rfl (congrArg (!·) hopen)
      (decide_eq_false (not_not.2 hempty)) hkwk hroom
    rw [exec_keyLoad_of_passes hs (by simp [keyLoadFits, hdir, hlen]) hpass, appendJob_eq, jobOf,
      streamAt_of_byteAt hi, slotAt_of_byteAt hk, hrange]
    rfl

/-! ### KEY_RETIRE (R24 to R26) -/

/-- KEY_RETIRE of a slot of an open stream that is neither EMPTY nor DRAINING is answered DONE. -/
theorem exec_keyRetire {b : Byte} {i : StreamNo} {k : SlotNo} {s : State} (d : Dir) (hs : s.serves) (hb : b.toNat ≤ 1)
    (hdir : dirAt ([b] ++ bytesOfNat 1 i.1 ++ bytesOfNat 1 k.1) 0 = d) (hopen : streamUnused s d i = false)
    (hbusy : slotIdle s d i k = false) :
    exec (.keyRetire ([b] ++ bytesOfNat 1 i.1 ++ bytesOfNat 1 k.1)) s =
      .next (answersDone 0x44 (retireKey d i k s)) := by
  obtain ⟨hbyte, hi⟩ := streamBytes_spell b i (bytesOfNat 1 k.1)
  have hk : byteAt ([b] ++ bytesOfNat 1 i.1 ++ bytesOfNat 1 k.1) 2 = k.1 := by
    simpa using byteAt_after ([b] ++ bytesOfNat 1 i.1) [] 2 k.1 (by simp) (by omega)
  obtain ⟨hnotBad, hstream⟩ := streamNamed_passes (hbyte.trans_le hb) hi
  have hslot : decide (1 < byteAt ([b] ++ bytesOfNat 1 i.1 ++ bytesOfNat 1 k.1) 2) = false := by
    rw [hk, decide_eq_false_iff_not]; omega
  have hpass : firstFailing (keyRetireChecks ([b] ++ bytesOfNat 1 i.1 ++ bytesOfNat 1 k.1) s) = none := by
    simp only [keyRetireChecks, firstFailing_eq_none_iff, List.forall_mem_cons, streamAt_of_byteAt hi,
      slotAt_of_byteAt hk, hdir]
    exact ⟨hnotBad, hstream, hslot, hopen, hbusy, nofun⟩
  have hjudge : reqKeyRetire.judge ([b] ++ bytesOfNat 1 i.1 ++ bytesOfNat 1 k.1) s =
      answerDone (retireKey d i k s) := by
    dsimp only [reqKeyRetire]
    rw [checked_of_passes _ hpass, hdir, streamAt_of_byteAt hi, slotAt_of_byteAt hk]
  exact congrArg Host.Outcome.next (takeRequest_done (r := reqKeyRetire) hs (by simp [reqKeyRetire]) hjudge)

theorem exec_keyRetire_out {i : StreamNo} {k : SlotNo} {s : State} (hs : s.serves)
    (hopen : (s.outStream i).state ≠ .unused) (hempty : (s.outSlot i k).state ≠ .empty)
    (hdraining : (s.outSlot i k).state ≠ .draining) :
    exec (.keyRetire ([0] ++ bytesOfNat 1 i.1 ++ bytesOfNat 1 k.1)) s = .next (answersDone 0x44 (retireOut i k s)) :=
  exec_keyRetire .out hs (by decide) rfl (decide_eq_false hopen) (by simp [slotIdle, hempty, hdraining])

theorem exec_keyRetire_inn {i : StreamNo} {k : SlotNo} {s : State} (hs : s.serves)
    (hopen : (s.inStream i).isOpen = true) (hempty : (s.inSlot i k).state ≠ .empty)
    (hdraining : (s.inSlot i k).state ≠ .draining) :
    exec (.keyRetire ([1] ++ bytesOfNat 1 i.1 ++ bytesOfNat 1 k.1)) s = .next (answersDone 0x44 (retireIn i k s)) :=
  exec_keyRetire .inn hs (by decide) rfl (congrArg (!·) hopen) (by simp [slotIdle, hempty, hdraining])

theorem retireIn_of_usable {i : StreamNo} {k : SlotNo} {s : State} (h : (s.inSlot i k).state.usable = true) :
    retireIn i k s = leaveInSlot i k s := by
  unfold retireIn
  cases hstate : (s.inSlot i k).state with
  | ready => rfl
  | active => rfl
  | grace => rfl
  | empty => rw [hstate] at h; cases h
  | loading => rw [hstate] at h; cases h
  | draining => rw [hstate] at h; cases h

section Queue

variable {d : Dir} {i : StreamNo} {k : SlotNo} {j : Job} {s : State}

theorem Job.loads_eq_false (h : j.target ≠ (d, i, k)) : j.loads d i k = false :=
  Bool.eq_false_iff.2 fun hloads => h (Job.loads_iff.1 hloads)

theorem jobWorking_of_head {rest : List Job} {n : LaneNo} (hjobs : s.keyUnit.jobs = j :: rest)
    (hworking : s.keyUnit.working = some n) (hj : j.target = (d, i, k)) : jobWorking s d i k = true := by
  simp only [jobWorking, hjobs, hworking, List.head?_cons, Option.map_some, Job.loads_iff.2 hj, Option.isSome_some,
    Option.getD_some, Bool.and_self]

/-- Only the one job of the slot is marked (R15, R25). -/
theorem markCancelled_of_head {rest : List Job} (hjobs : s.keyUnit.jobs = j :: rest) (hj : j.target = (d, i, k))
    (hrest : ∀ x ∈ rest, x.target ≠ (d, i, k)) :
    markCancelled d i k s = { s with keyUnit := { s.keyUnit with jobs := { j with cancelled := true } :: rest } } := by
  have hothers : (rest.map fun x => if x.loads d i k then { x with cancelled := true } else x) = rest := by
    refine (List.map_congr_left fun x hx => ?_).trans (List.map_id rest)
    rw [Job.loads_eq_false (hrest x hx)]
    rfl
  rw [markCancelled, hjobs, List.map_cons, hothers, Job.loads_iff.2 hj]
  rfl

theorem jobWorking_of_not_head {before after : List Job} (hjobs : s.keyUnit.jobs = before ++ j :: after)
    (hothers : ∀ x ∈ before ++ after, x.target ≠ (d, i, k)) (hidle : before = [] → s.keyUnit.working = none) :
    jobWorking s d i k = false := by
  cases before with
  | nil => rw [jobWorking, hidle rfl]; rfl
  | cons x before =>
    have hx : x.loads d i k = false := Job.loads_eq_false (hothers x (by simp))
    simp [jobWorking, hjobs, hx]

/-- The slot's job leaves the queue; where it was the head the next job becomes WAITING (R25, R92). -/
theorem removeJob_of_target {before after : List Job} (hjobs : s.keyUnit.jobs = before ++ j :: after)
    (hj : j.target = (d, i, k)) (hothers : ∀ x ∈ before ++ after, x.target ≠ (d, i, k)) :
    removeJob d i k s =
      { s with
        keyUnit := { s.keyUnit with jobs := before ++ after }
        arbiter := if before = [] ∧ after ≠ [] then { s.arbiter with count := 0 } else s.arbiter } := by
  have hloads := Job.loads_iff.2 hj
  have hkept : (before ++ after).filter (fun x => !x.loads d i k) = before ++ after :=
    List.filter_eq_self.2 fun x hx => by rw [Job.loads_eq_false (hothers x hx)]; rfl
  have hfilter : s.keyUnit.jobs.filter (fun x => !x.loads d i k) = before ++ after := by
    rw [hjobs, List.filter_append, List.filter_cons_of_neg (by simp [hloads]), ← List.filter_append, hkept]
  unfold removeJob
  rw [hfilter]
  cases before with
  | nil =>
    rw [hjobs]
    cases after with
    | nil => simp [hloads]
    | cons x after => simp [hloads, resetCount]
  | cons x before =>
    have hx : x.loads d i k = false := Job.loads_eq_false (hothers x (by simp))
    rw [hjobs]
    simp [hx]

end Queue

/-- Settles O30: KEY_RETIRE is `retireOut` or `retireIn`, by the slot's state and its job's. -/
theorem keyRetireActsByTheSlot : Obligations.KeyRetireActsByTheSlot := by
  intro i k s hs
  refine ⟨fun hopen => ⟨fun hready => ?ready, fun hactive => ?active,
      fun j rest n hloading hjobs hworking hj hrest => ?outMarked,
      fun j before after hloading hjobs hj hothers hidle => ?outRemoved⟩,
    fun hopen => ⟨fun husable => ?usable, fun j rest n hloading hjobs hworking hj hrest => ?innMarked,
      fun j before after hloading hjobs hj hothers hidle => ?innRemoved⟩⟩
  case ready =>
    rw [exec_keyRetire_out hs hopen (by simp [hready]) (by simp [hready]), retireOut, hready]
  case active =>
    rw [exec_keyRetire_out hs hopen (by simp [hactive]) (by simp [hactive]), retireOut, hactive]
  case outMarked =>
    rw [exec_keyRetire_out hs hopen (by simp [hloading]) (by simp [hloading]), retireOut, hloading]
    dsimp only
    rw [cancelOutLoad, if_pos (jobWorking_of_head hjobs hworking hj), markCancelled_of_head hjobs hj hrest]
    rfl
  case outRemoved =>
    rw [exec_keyRetire_out hs hopen (by simp [hloading]) (by simp [hloading]), retireOut, hloading]
    dsimp only
    rw [cancelOutLoad, jobWorking_of_not_head hjobs hothers hidle, removeJob_of_target hjobs hj hothers]
    rfl
  case usable =>
    rw [← retireIn_of_usable husable]
    exact exec_keyRetire_inn hs hopen (fun h => by simp [h, InSlotState.usable] at husable)
      (fun h => by simp [h, InSlotState.usable] at husable)
  case innMarked =>
    rw [exec_keyRetire_inn hs hopen (by simp [hloading]) (by simp [hloading]), retireIn, hloading]
    dsimp only
    rw [cancelInLoad, if_pos (jobWorking_of_head hjobs hworking hj), markCancelled_of_head hjobs hj hrest]
  case innRemoved =>
    rw [exec_keyRetire_inn hs hopen (by simp [hloading]) (by simp [hloading]), retireIn, hloading]
    dsimp only
    rw [cancelInLoad, jobWorking_of_not_head hjobs hothers hidle, removeJob_of_target hjobs hj hothers]
    rfl

end Sys2Proof.Machine
end

section
/-! FAMILY load jobs and items at their lanes (O55). -/

namespace Sys2Proof.Machine

/-! ### The end of the head job (R15, R20 to R25) -/

/-- The head job off the queue; the next, if any, becomes WAITING (R15, R92): `removeHeadJob` with the queue's rest
named (`removeHeadJob_of_jobs`). -/
def State.popped (rest : List Job) (s : State) : State :=
  { s with
    keyUnit := { jobs := rest, working := none }
    arbiter := if rest = [] then s.arbiter else { s.arbiter with count := 0 } }

theorem removeHeadJob_of_jobs {j : Job} {rest : List Job} {s : State} (h : s.keyUnit.jobs = j :: rest) :
    removeHeadJob s = s.popped rest := by
  unfold removeHeadJob State.popped
  rw [h, List.tail_cons]
  cases rest <;> rfl

/-- A job's end leaves the queue to `removeHeadJob`. -/
theorem removeHeadJob_endJob {j : Job} {rest : List Job} {s : State} (h : s.keyUnit.jobs = j :: rest) (r : LoadResult)
    (secret : Option Secret) : removeHeadJob (endJob j r secret s) = (endJob j r secret s).popped rest := by
  obtain ⟨o, i, n, htouches⟩ := endJob_touches j r secret s
  exact removeHeadJob_of_jobs (j := j) (by rw [htouches]; exact h)

/-! ### The grant to the key preparation unit (R19) -/

section Grant

variable {n : LaneNo} {j : Job} {rest : List Job} {s : State}

theorem exec_keyPreparationGrant (hreset : s.resetHeld = none) (hnext : nextGrant s = some (.keyUnit, n)) :
    exec .keyPreparationGrant s = .next (grantKeyUnit n (resetCount s)) := by
  refine congrArg Host.Outcome.next ((unlessHeld_of_not_held hreset).trans ?_)
  rw [hnext]

theorem grantKeyUnit_of_key {key : BitVec 256} (hjobs : s.keyUnit.jobs = j :: rest) (hkey : s.kwk = some key) :
    grantKeyUnit n (resetCount s) =
      { s with
        keyUnit := { jobs := j :: rest, working := some n }
        lanes := putAt s.lanes n (.job key)
        arbiter := { s.arbiter with count := 0 } } := by
  simp only [grantKeyUnit, resetCount, hjobs, hkey, State.setLane]

theorem grantKeyUnit_of_no_key (hjobs : s.keyUnit.jobs = j :: rest) (hkey : s.kwk = none) :
    grantKeyUnit n (resetCount s) = (failLoad j .unwrapFailed (resetCount s)).popped rest := by
  have hgrant : grantKeyUnit n (resetCount s) = removeHeadJob (endJob j .unwrapFailed none (resetCount s)) := by
    simp only [grantKeyUnit, show (resetCount s).keyUnit.jobs = j :: rest from hjobs,
      show (resetCount s).kwk = none from hkey]
  rw [hgrant]
  exact removeHeadJob_endJob (s := resetCount s) hjobs .unwrapFailed none

end Grant

/-! ### The job's result (R20) -/

theorem checkValue_eq_iff (key : BitVec 256) (v : BitVec 32) :
    checkValue key = v ↔ (Config.aesBlock key 0).toNat / 2 ^ 96 = v.toNat := by
  have hlt : (Config.aesBlock key 0).toNat < 2 ^ 128 := (Config.aesBlock key 0).isLt
  have hfour : (Config.aesBlock key 0).toNat / 2 ^ 96 < 2 ^ 32 := by omega
  rw [← BitVec.toNat_inj, checkValue, BitVec.extractLsb'_toNat, Nat.shiftRight_eq_div_pow, Nat.mod_eq_of_lt hfour]

section Outcome

variable {j : Job} {key : BitVec 256}

theorem Job.outcome_of_cancelled (h : j.cancelled = true) : j.outcome key = (.cancelled, none) := by
  rw [Job.outcome, if_pos h]

variable (h : j.cancelled = false)
include h

theorem Job.outcome_of_unopened (hopen : Config.gcmOpen key j.nonce j.aad j.wrapped j.tag = none) :
    j.outcome key = (.unwrapFailed, none) := by
  rw [Job.outcome, h, hopen]
  rfl

section Opened

variable {plain : Vector Byte j.wrapped.length}
  (hopen : Config.gcmOpen key j.nonce j.aad j.wrapped j.tag = some plain)
include hopen

theorem Job.outcome_of_checked
    (hcheck : (Config.aesBlock (secretOf plain.toList).key 0).toNat / 2 ^ 96 = j.check.toNat) :
    j.outcome key = (.ok, some (secretOf plain.toList)) := by
  rw [Job.outcome, h, hopen]
  exact if_pos ((checkValue_eq_iff _ _).2 hcheck)

theorem Job.outcome_of_unchecked
    (hcheck : ¬ (Config.aesBlock (secretOf plain.toList).key 0).toNat / 2 ^ 96 = j.check.toNat) :
    j.outcome key = (.checkFailed, none) := by
  rw [Job.outcome, h, hopen]
  exact if_neg fun heq => hcheck ((checkValue_eq_iff _ _).1 heq)

end Opened

end Outcome

theorem exec_keyJobCompletion {n : LaneNo} {j : Job} {rest : List Job} {s : State} {key : BitVec 256}
    (hreset : s.resetHeld = none) (hworking : s.keyUnit.working = some n) (hjobs : s.keyUnit.jobs = j :: rest)
    (hlane : s.lanes.get n = .job key) :
    exec .keyJobCompletion s =
      .next ((endJob j (j.outcome key).1 (j.outcome key).2 (s.setLane n .free)).popped rest) := by
  refine congrArg Host.Outcome.next ((unlessHeld_of_not_held hreset).trans ?_)
  simp only [hworking, hjobs, completeJob, hlane]
  exact removeHeadJob_endJob (s := s.setLane n .free) hjobs _ _

/-! ### The outbound slot that has become READY (R22) -/

section Ready

variable {i : StreamNo} {k a : SlotNo} {s : State}

/-- A slot's update leaves the stream's own fields. -/
theorem outStream_modOutSlot_self (f : OutSlot → OutSlot) :
    (s.modOutSlot i k f).outStream i =
      { s.outStream i with slots := putAt (s.outStream i).slots k (f ((s.outStream i).slots.get k)) } := by
  rw [State.modOutSlot, outStream_modOut_self]

theorem outSlotReady_of_activates (h : (s.outStream i).state = .opened ∨ (s.outStream i).state = .stalled) :
    outSlotReady i k s =
      (s.modOutSlot i k fun sl => { sl with state := .active }).modOut i fun st => { st with state := .active k } := by
  rcases h with h | h <;> simp only [outSlotReady, h]

theorem outSlotReady_of_active (h : (s.outStream i).state = .active a) :
    outSlotReady i k s = if (s.outStream i).pendingSwitch = some k then switchStream i a s else s := by
  simp only [outSlotReady, h]

end Ready

/-! ### Lane completion (R97) -/

section Lanes

variable {n : LaneNo} {l : LinkNo} {x : Secret} {nonce : BitVec 96} {s : State}

theorem exec_laneCompletion_protect (hreset : s.resetHeld = none) (hlane : s.lanes.get n = .protect l x nonce) :
    exec (.laneCompletion n) s =
      .next { s with
        links := putAt s.links l
          { s.link l with outList := (s.link l).outList.map (Item.completedOn n x nonce) }
        lanes := putAt s.lanes n .free } := by
  refine congrArg Host.Outcome.next ((unlessHeld_of_not_held hreset).trans ?_)
  rw [hlane]
  rfl

theorem exec_laneCompletion_verify (hreset : s.resetHeld = none) (hlane : s.lanes.get n = .verify l x nonce) :
    exec (.laneCompletion n) s =
      .next { s with
        links := putAt s.links l
          { s.link l with inList := (s.link l).inList.map (Item.completedOn n x nonce) }
        lanes := putAt s.lanes n .free } := by
  refine congrArg Host.Outcome.next ((unlessHeld_of_not_held hreset).trans ?_)
  rw [hlane]
  rfl

theorem Item.completedOn_of_other {it : Item} (h : it.state ≠ .onLane n) : it.completedOn n x nonce = it := if_neg h

theorem Item.completedOn_of_onLane {it : Item} (h : it.state = .onLane n) :
    it.completedOn n x nonce = { it with body := it.body.completed x nonce, state := .done } := if_pos h

end Lanes

/-- Settles O55: the grant, the five ends of a job by `Job.outcome`, and the two lane completions. -/
theorem keyJobsAndLanes : Obligations.KeyJobsAndLanes := by
  intro n j rest s hreset
  refine ⟨fun hnext hjobs => ⟨fun key hkey => ?granted, fun hkey => ?noKey⟩, fun key hworking hjobs hlane => ?completes,
    fun l x nonce hlane => ?protect, fun l x nonce hlane => ?verify⟩
  case granted => rw [exec_keyPreparationGrant hreset hnext, grantKeyUnit_of_key hjobs hkey]
  case noKey =>
    rw [exec_keyPreparationGrant hreset hnext, grantKeyUnit_of_no_key hjobs hkey]
    rfl
  case completes =>
    have hexec := exec_keyJobCompletion hreset hworking hjobs hlane
    refine ⟨fun hcancelled => ?cancelled, fun hkept hopen => ?unopened,
      fun plain hkept hopen => ⟨fun hfails => ?checkFails, fun hchecks => ⟨fun lower hrange => ?inbound,
        fun initial soft hard kind limit warning hrange => ?outbound⟩⟩⟩
    case cancelled =>
      rw [Job.outcome_of_cancelled hcancelled] at hexec
      exact hexec
    case unopened =>
      rw [Job.outcome_of_unopened hkept hopen] at hexec
      exact hexec
    case checkFails =>
      rw [Job.outcome_of_unchecked hkept hopen hfails] at hexec
      exact hexec
    case inbound =>
      rw [Job.outcome_of_checked hkept hopen hchecks] at hexec
      simp only [endJob, installLoad, hrange] at hexec
      exact hexec
    case outbound =>
      rw [Job.outcome_of_checked hkept hopen hchecks] at hexec
      simp only [endJob, installLoad, hrange] at hexec
      refine ⟨fun hactivates => ?activates, fun a hactive => ⟨fun hpending => ?switches, fun hpending => ?stays⟩⟩
      case activates =>
        rw [outSlotReady_of_activates (by rw [raise_outStream, outStream_modOutSlot_self]; exact hactivates)] at hexec
        exact hexec
      case switches =>
        rw [outSlotReady_of_active (by rw [raise_outStream, outStream_modOutSlot_self]; exact hactive),
          if_pos (by rw [raise_outStream, outStream_modOutSlot_self]; exact hpending)] at hexec
        exact hexec
      case stays =>
        rw [outSlotReady_of_active (by rw [raise_outStream, outStream_modOutSlot_self]; exact hactive),
          if_neg (by rw [raise_outStream, outStream_modOutSlot_self]; exact hpending)] at hexec
        exact hexec
  case protect =>
    refine ⟨_, exec_laneCompletion_protect hreset hlane, List.length_map _, fun m it hit => ⟨fun hother => ?_, ?_⟩⟩
    · rw [List.getElem?_map, hit, Option.map_some, Item.completedOn_of_other hother]
    · intro ref aad plain tag hstate hbody
      rw [List.getElem?_map, hit, Option.map_some, Item.completedOn_of_onLane hstate, hbody]
      rfl
  case verify =>
    refine ⟨_, exec_laneCompletion_verify hreset hlane, List.length_map _, fun m it hit => ⟨fun hother => ?_, ?_⟩⟩
    · rw [List.getElem?_map, hit, Option.map_some, Item.completedOn_of_other hother]
    · intro ref aad cipher tag old hstate hbody
      rw [List.getElem?_map, hit, Option.map_some, Item.completedOn_of_onLane hstate, hbody]
      rfl

end Sys2Proof.Machine
end
